-- ==== Sys2Proof/Word.lean ====
section
/-! DEFINITION. The byte, the one machine word of this block: its frames are byte strings. Every other
quantity of the spec is a count, a position or a name, and is modelled as one. -/

namespace Sys2Proof

/-- One byte of a frame on the host link or the pendant link (R209). -/
abbrev Byte := BitVec 8

end Sys2Proof
end

