-- ==== Sys2Proof/Syntax.lean ====
section
/-! DEFINITION. The commands of the block, one constructor of `Instr` per row of spec/opcode_table.json,
and the forms their operands take: axes, raw queue records as they stand on the wire (Table 11-7) and
host requests (Tables 11-4 and 11-10). Numeric operands are plain numbers; WellFormed.lean says which
of them the wire or the pins can carry. -/

namespace Sys2Proof

/-- The five position axes in index order (Table 0-1). -/
inductive Axis where
  | x | y | z | w | b
deriving DecidableEq, Repr

/-- The four clamped axes (Table 0-1, R89). -/
inductive ClampAxis where
  | x | y | z | b
deriving DecidableEq, Repr

/-- The causes of a reset (R207). -/
inductive ResetCause where
  | power | pin | host
deriving DecidableEq, Repr

/-- One record of an APPEND body as the link port walks it (R212, Table 11-7), before SQ's range check
(R4). `bad` is the record at which the walk stops: an unknown kind code, or a MOVE with motion kind 3 or a
bit 5 to 7 of its axis mask set. -/
inductive RawRec where
  | move (seq control mask n : Nat) (sRef : Option Nat) (ends : List Int)
  | dwell (seq periods : Nat)
  | spindle (seq speed flags : Nat)
  | gear (seq range : Nat)
  | coolant (seq channels flags : Nat) (pressure : Option Nat)
  | clamp (seq axis action : Nat)
  | mark (seq flags : Nat)
  | bad (code : Nat)
deriving DecidableEq, Repr

/-- A host request as its frame spells it (Tables 11-4 and 11-10). `unknown` is a KIND that Table 11-4
does not define, `badLength` a body that does not have its layout's length, `reserved` a body whose
presence bytes hold a value other than 0 and 1. -/
inductive Request where
  | identify | status
  | ackConditions (flag : Nat) (pairs : List (Nat × Nat))
  | resetTrip | restart
  | setParam (id inst : Nat) (value : Int)
  | getParam (id inst : Nat)
  | append (count : Nat) (recs : List RawRec)
  | start | hold | resume | stop | flush | queueStatus
  | setOverride (feed rapid spindle source : Option Nat)
  | home (axis : Nat) | axisStatus (axis : Nat)
  | compLoad (axis first : Nat) (values : List Int)
  | compCommit (axis count : Nat) (origin : Int) (spacing : Int) (mode check : Nat)
  | compClear (axis : Nat)
  | compRead (axis first count : Nat)
  | clampSet (action axis : Nat)
  | spindleSet (action speed dir : Nat)
  | gearSelect (range : Nat)
  | meshTableRead | meshTableClear
  | coolantSet (flood tsc mist : Nat) (pressure : Option Nat)
  | pendantText (line : Nat) (chars : List Nat)
  | lineTest | pendantStatus | inputRead | analogRead
  | unknown (kind : Nat) | badLength (kind : Nat) | reserved (kind : Nat)
deriving DecidableEq, Repr

/-- The commands of the block: one constructor per row of spec/opcode_table.json, in the table's order.
A request row carries the request's TAG and its body's fields; a frame row carries the bytes read; an
event row carries what the event brings from outside. -/
inductive Instr where
  | hardwareReset (cause : ResetCause) (sel1Tied sel0Tied : Bool) (pins : BitVec 32)
  | hostFrameReceived (bytes : List Byte)
  | frameGapTimeout (next : Byte)
  | unknownKind (kind tag : Nat)
  | replySent
  | reportSent
  | identify (tag : Nat)
  | status (tag : Nat)
  | ackConditions (tag flag : Nat) (pairs : List (Nat × Nat))
  | resetTrip (tag : Nat)
  | restart (tag : Nat)
  | restartTeardown
  | setParam (tag id inst : Nat) (value : Int)
  | getParam (tag id inst : Nat)
  | append (tag count : Nat) (recs : List RawRec)
  | start (tag : Nat)
  | hold (tag : Nat)
  | resume (tag : Nat)
  | stop (tag : Nat)
  | flush (tag : Nat)
  | queueStatus (tag : Nat)
  | setOverride (tag : Nat) (feed rapid spindle source : Option Nat)
  | home (tag axis : Nat)
  | axisStatus (tag axis : Nat)
  | compLoad (tag axis first : Nat) (values : List Int)
  | compCommit (tag axis count : Nat) (origin spacing : Int) (mode check : Nat)
  | compClear (tag axis : Nat)
  | compRead (tag axis first count : Nat)
  | clampSetClamp (tag axis : Nat)
  | clampSetRelease (tag axis : Nat)
  | clampSetNone (tag axis : Nat)
  | spindleSetRun (tag speed dir : Nat)
  | spindleSetStop (tag : Nat)
  | spindleSetNone (tag : Nat)
  | gearSelect (tag range : Nat)
  | meshTableRead (tag : Nat)
  | meshTableClear (tag : Nat)
  | coolantSet (tag flood tsc mist : Nat) (pressure : Option Nat)
  | pendantText (tag line : Nat) (chars : List Nat)
  | lineTest (tag : Nat)
  | pendantStatus (tag : Nat)
  | inputRead (tag : Nat)
  | analogRead (tag : Nat)
  | moveStart
  | pathPeriod
  | dwellEnd
  | axisIndexEdge (a : Axis)
  | spindleIndexEdge
  | inputRawChange (n : Fin 32) (level : Bool)
  | inputFilterTimeReached (n : Fin 32)
  | idleClamp (c : ClampAxis)
  | releaseTimeout (c : ClampAxis)
  | clampTimeout (c : ClampAxis)
  | pumpOffDelay
  | hydStartTimeout
  | analogConversion (counts : Nat)
  | prepareTimeout
  | positionTimeout
  | strokeTimeout
  | meshDwellEnd
  | settleTimeReached
  | spindleOverload
  | oilGraceEnd
  | floodProveTimeout
  | floodDryTimeout
  | tscRampTimeout
  | suspendKeepEnd
  | purgeEnd
  | tscDryTimeout
  | pendantFrame (bytes : List Byte)
  | pendantFrameGap (next : Byte)
  | handwheelInterval
  | pendantAnswerSent
  | pendantTimeout
  | enableMismatch
  | refuseTimerEnd
  | clipTimerEnd
  | lineTestWaitEnd
  | lineTestActivity
  | lineTestListenEnd
  | lineTestReflection (ns : Nat) (inverted : Bool)
  | lineTestEchoWindowEnd
  | lengthOutOfRange (len : Byte)
  | encoderEdge (a : Axis) (forward : Bool)
  | spindleEncoderEdge (cw : Bool)
deriving DecidableEq, Repr

end Sys2Proof
end

