-- ==== Sys2Proof/Decode.lean ====
section
/-! DEFINITION. The command that a word of the opcode table spells. The table gives no row any bits: a command
reaches the block as a frame on a link, an edge or level on a pin, or the end of a timer. The frames' own bytes
are read in Machine/Parse.lean, Machine/HostLink.lean and Machine/PendantPort.lean. -/

namespace Sys2Proof

/-- No row of the table has bits, so no word spells a command. -/
def decodeTableWord (_nbits _w : Nat) : Option Instr := none

end Sys2Proof
end

