-- ==== Sys2Proof/Config.lean ====
section
/-! DEFINITION. The free values: what the spec leaves open although the part goes on. Each is a constant
with no body, so that nothing can be proved of its value (assumption log, entries 2 and 3). -/

namespace Sys2Proof.Config

/-- What a signed 32-bit quantity holds when the spec's exact result does not fit its format, by the exact
result. -/
opaque overflow32 : Int → BitVec 32

/-- The measured speed when R111's quotient exceeds the 65535 of Table 6-1, by that quotient. -/
opaque overflowSpeed : Nat → BitVec 16

/-- The n-th free range number drawn: the old range that GEAR_POSITION_LOST carries when an abandoned shift
leaves the gear UNKNOWN (R118, R130). -/
opaque lostRange : Nat → Fin 5

end Sys2Proof.Config
end

