-- ==== Sys2Proof/Machine/State.lean ====
section
/-! DEFINITION. The state of the block, as plain data: one structure per block of Table 0-2, the queue of
waiting commands, and the machine right after reset. Outputs that a rule of the spec makes a function of a
state (valves, pumps, solenoids, enables, lamps) are functions of this state in Machine/Ops.lean,
not fields. -/

namespace Sys2Proof.Machine

/-! ## Small containers -/

/-- One value for each position axis. -/
structure PerAxis (α : Type) where
  x : α
  y : α
  z : α
  w : α
  b : α
deriving DecidableEq, Repr

/-- One value for each clamped axis. -/
structure PerClamp (α : Type) where
  x : α
  y : α
  z : α
  b : α
deriving DecidableEq, Repr

/-- The four gear ranges (R117, R118). -/
inductive Range where
  | r1 | r2 | r3 | r4
deriving DecidableEq, Repr

/-- One value for each gear range. -/
structure PerRange (α : Type) where
  r1 : α
  r2 : α
  r3 : α
  r4 : α
deriving DecidableEq, Repr

/-- A millisecond timer of a block: running or stopped, the time counted since its start, and the time it
runs to, taken from the parameter when the timer is started. -/
structure Timer where
  on : Bool
  t : Nat
  lim : Nat
deriving DecidableEq, Repr

/-! ## Segment Queue (chapter 1) -/

/-- Queue states (Table 1-2). -/
inductive QState where
  | idle | running | holding | held | returning | stopping
deriving DecidableEq, Repr

/-- Flow states (R25). -/
inductive Flow where
  | go | stopped
deriving DecidableEq, Repr

/-- Motion kinds of a MOVE (Table 1-1). -/
inductive Motion where
  | rapid | feed | fpr
deriving DecidableEq, Repr

/-- A field of a coolant write (R139). -/
inductive Dem where
  | unchanged | on | off
deriving DecidableEq, Repr

/-- Spindle directions (R107). -/
inductive Dir where
  | cw | ccw
deriving DecidableEq, Repr

/-- The operations a valve request asks for: R102's RELEASE, CLAMP and STROKE. -/
inductive HydOp where
  | release | clamp | stroke
deriving DecidableEq, Repr

/-- The fields of a MOVE record (Table 1-1); `legs` lists the axes in index order with their end positions;
`sRef` is present for FPR. -/
structure MoveRec where
  motion : Motion
  stop : Bool
  legs : List (Axis × Int)
  n : Nat
  sRef : Option Nat
deriving DecidableEq, Repr

/-- The seven record kinds (Table 1-1). -/
inductive RecBody where
  | move (m : MoveRec)
  | dwell (periods : Nat)
  | spindle (speed : Nat) (dir : Dir) (wait : Bool)
  | gear (range : Range)
  | coolant (flood tsc mist : Dem) (pressure : Option Nat) (wait : Bool)
  | clamp (axis : ClampAxis) (clamp : Bool)
  | mark (fin : Bool)
deriving DecidableEq, Repr

/-- A record with its 16-bit label (R1). -/
structure QRec where
  seq : Nat
  body : RecBody
deriving DecidableEq, Repr

/-- Segment Queue state (R2, R6, R25, R26, R28). `current` says that the head record is the current
record. `dwellLeft` is a current DWELL's remaining count (R19); `waiting` that a current MOVE waits at step 3
of R17; `handed` that a current GEAR record has been handed to SGU (R20); `lastSeq` the seq of the last
record that completed (R26). -/
structure SegQueue where
  recs : List QRec
  current : Bool
  dwellLeft : Nat
  waiting : Bool
  handed : Bool
  st : QState
  flow : Flow
  armed : Bool
  lastSeq : Nat
  flowHigh : Nat
  flowLow : Nat
deriving DecidableEq, Repr

/-! ## Path Interpolator (chapter 2) -/

/-- One listed axis of a started move: its start and end positions (R30). -/
structure Leg where
  ax : Axis
  start : Int
  fin : Int
deriving DecidableEq, Repr

/-- A move that PI advances: a started MOVE of the queue, or the return move (R30, R51). -/
structure ActiveMove where
  motion : Motion
  n : Nat
  sRef : Nat
  legs : List Leg
  p : Nat
deriving DecidableEq, Repr

/-- The hold record (Table 2-4): the held seq and phase when a MOVE was current, the hold positions and the
displaced set. -/
structure HoldRec where
  held : Option (Nat × Nat)
  pos : PerAxis Int
  displaced : PerAxis Bool
deriving DecidableEq, Repr

/-- Who writes the feed override (R35). -/
inductive FeedSource where
  | host | pendant
deriving DecidableEq, Repr

/-- Path Interpolator state (Table 2-1) and parameters (Table 2-5). `move` is the queue's started MOVE: the
started flag of Table 2-1 is set exactly when it is present. `ret` is the return move. `ahead` is the boundary that
braking has held against (R40): the lookahead sum it leaves for the next period, and whether it is a real stop
point. -/
structure PathInt where
  move : Option ActiveMove
  ret : Option ActiveMove
  r : Nat
  target : Nat
  braking : Bool
  ahead : Option (Nat × Bool)
  feed : Nat
  rapid : Nat
  spindleOvr : Nat
  source : FeedSource
  hold : Option HoldRec
  pathRamp : Nat
  holdRamp : Nat
  stopRamp : Nat
  returnSpeed : Nat
deriving DecidableEq, Repr

/-! ## Axis Channels (chapter 3) -/

/-- Axis owners (R57). -/
inductive Owner where
  | none | queue | pendant | homing
deriving DecidableEq, Repr

/-- Home phases (Table 3-1). -/
inductive HomePhase where
  | none | waitRelease | search | searchStop | latch | settle | ending
deriving DecidableEq, Repr

/-- The steps within LATCH (R71): until the switch is active, until it becomes inactive, and the search for
the index after the edge. -/
inductive LatchStep where
  | active | inactive | index
deriving DecidableEq, Repr

/-- Reasons of a failed homing (R73). -/
inductive HomeReason where
  | travel | index | limit | aborted
deriving DecidableEq, Repr

/-- Axis channel parameters of one axis (Table 3-3) and its jog parameters (Table 8-5). -/
structure AxisParams where
  softMin : Int
  softMax : Int
  kp : Nat
  kff : Nat
  feLimit : Nat
  inposWindow : Nat
  encDir : Nat
  homeDir : Nat
  searchSpeed : Nat
  latchSpeed : Nat
  homePosition : Int
  indexWindow : Nat
  homeTravel : Nat
  jogSpeed : Nat
  rapidJogSpeed : Nat
  jogAccel : Nat
  hwSpeed : Nat
deriving DecidableEq, Repr

/-- The position axis fields that AXIS_STATUS shows, as the last completed path period left them (R75). -/
structure AxisSnap where
  owner : Owner
  refd : Bool
  phase : HomePhase
  setpoint : Int
  enc : Int
  c : Int
  target : Int
  e : Int
  out : Int
  inPos : Bool
  atRest : Bool
  limMinus : Bool
  limPlus : Bool
  homeSw : Bool
  clamp : Nat
  enable : Bool
deriving DecidableEq, Repr

/-- Axis channel state of one axis (Table 3-1). A setpoint that a jog, a homing or the follow-up leads beyond the
usable range goes on exactly: the model's choice (assumption log, entry 31). `hFrom` is the setpoint recorded at the
start of SEARCH, at the start of LATCH, or at the switch edge (R70, R71); `hFail` the reason and phase recorded at a
failure (R73). -/
structure AxisCh where
  owner : Owner
  setpoint : Int
  prev : Int
  enc : Int
  latch : Option Int
  refd : Bool
  phase : HomePhase
  hVel : Int
  hRem : Int
  hFrom : Int
  hStep : LatchStep
  hFail : Option (HomeReason × HomePhase)
  e : Int
  inPos : Bool
  atRest : Bool
  out : Int
  satCount : Nat
  p : AxisParams
  snap : AxisSnap
deriving DecidableEq, Repr

/-! ## Compensation Store (chapter 4) -/

/-- Bank states (R79). -/
inductive BankState where
  | empty | loading | active
deriving DecidableEq, Repr

/-- Correction modes (Table 4-1). -/
inductive CompMode where
  | step | linear
deriving DecidableEq, Repr

/-- The geometry of an ACTIVE bank (Table 4-1). -/
structure Geom where
  count : Nat
  origin : Int
  spacing : Int
  mode : CompMode
  check : Nat
deriving DecidableEq, Repr

/-- One bank (Table 4-1) with the correction target, the applied correction c and comp_slew of its axis.
A point that is present is a point marked written: the written-mask is where `pts` is present. -/
structure Bank where
  st : BankState
  pts : Vector (Option Int) 128
  geom : Option Geom
  target : Int
  c : Int
  slew : Nat
deriving DecidableEq, Repr

/-! ## Clamp Controller and Hydraulic Supply (chapter 5) -/

/-- Clamp states (Table 5-1). -/
inductive ClampState where
  | clamped | releaseWait | releasing | released | clampWait | clamping | fault
deriving DecidableEq, Repr

/-- Clamp policies (R90). -/
inductive Policy where
  | auto | host | never
deriving DecidableEq, Repr

/-- Follow-ons (Table 5-1). -/
inductive Follow where
  | none | release | clamp
deriving DecidableEq, Repr

/-- Clamp Controller state of one axis (Table 5-1) and its parameters (Table 5-6). `fromFault` says that
CLAMP_WAIT was entered from FAULT; `granted` that CLAMPING holds the grant and is not trip clamping;
`checked` that the sensor check of R106 has been made. -/
structure Clamp where
  st : ClampState
  fromFault : Bool
  granted : Bool
  checked : Bool
  policy : Policy
  follow : Follow
  idle : Nat
  op : Timer
  delay : Nat
  releaseTime : Nat
  clampTime : Nat
deriving DecidableEq, Repr

/-- Supply states (R100). -/
inductive Supply where
  | pumpOff | starting | ready | low
deriving DecidableEq, Repr

/-- Requesters of the grant (R102). -/
inductive Requester where
  | axis (c : ClampAxis)
  | gear
deriving DecidableEq, Repr

/-- A request for the grant: who asks and for what operation (R94, R102). -/
structure HydReq where
  who : Requester
  op : HydOp
deriving DecidableEq, Repr

/-- Hydraulic Supply state (R100) and parameters (Table 5-6). -/
structure Hyd where
  st : Supply
  holder : Option HydReq
  fifo : List HydReq
  offDelay : Timer
  startT : Timer
  offDelayP : Nat
  startTimeP : Nat
deriving DecidableEq, Repr

/-! ## Spindle and Gearbox Unit (chapter 6) -/

/-- Spindle states (Table 6-1). -/
inductive SpindleState where
  | off | accel | atSpeed | decel | positioning | fault
deriving DecidableEq, Repr

/-- Gear states (R118). -/
inductive GearState where
  | engaged (r : Range)
  | unknown | fault | preparing | orienting | strokeWait | stroking | meshing | settling
deriving DecidableEq, Repr

/-- The two gear-shift cylinders (R117). -/
inductive Cyl where
  | a | b
deriving DecidableEq, Repr

/-- The ends of a cylinder (R117). -/
inductive CylEnd where
  | lo | hi
deriving DecidableEq, Repr

/-- A stroke key (R121): the cylinder, its target end and the end the other cylinder shows. -/
structure MeshKey where
  cyl : Cyl
  fin : CylEnd
  other : CylEnd
deriving DecidableEq, Repr

/-- One entry of the mesh table (R131). -/
structure MeshEntry where
  key : MeshKey
  angle : Nat
  hits : Nat
  misses : Nat
  stamp : Nat
deriving DecidableEq, Repr

/-- The shift record (R119). The attempts used, the stroke start position and the key are kept per cylinder,
because a late disengage takes up an earlier cylinder again (R127). `late` says that the stroke in hand is a
late disengage. -/
structure Shift where
  target : Range
  origin : Nat
  cyl : Cyl
  attA : Nat
  attB : Nat
  startA : Option Int
  startB : Option Int
  keyA : Option MeshKey
  keyB : Option MeshKey
  entry : Option MeshEntry
  total : Nat
  late : Bool
deriving DecidableEq, Repr

/-- Spindle and gear parameters (Table 6-4). -/
structure SguParams where
  rangeMax : PerRange Nat
  rangeRatio : PerRange Nat
  motorMax : Nat
  accel : Nat
  cpr : Nat
  atSpeedPct : Nat
  overloadTime : Nat
  oilGrace : Nat
  orientSpeed : Nat
  inpos : Nat
  positionTime : Nat
  prepareTime : Nat
  strokeTime : Nat
  jogStep : Nat
  meshDwell : Nat
  settleTime : Nat
  meshTol : Nat
  meshAge : Nat
  kp : Nat
  kff : Nat
  feLimit : Nat
deriving DecidableEq, Repr

/-- Spindle and Gearbox Unit state (Table 6-1). `hist` holds the position counts of the last path periods,
newest first (R111). `indexPos` is present exactly while the indexed flag is set. `posTarget` and
`posMoving` are the positioning in hand (R122). `overDone` says that SPINDLE_OVERLOAD has been raised for the
present overload; `oilDone` that the oil grace time has reached oil_grace (R116). `lastRange` is the range
last engaged (R110), `lostRange` the value of GEAR_POSITION_LOST (R118), `gearSet` that the first delivery
of the four end sensors has been taken (R185), `faultFrom` the spindle state at the last drive loss (R115). -/
structure Sgu where
  st : SpindleState
  reqSpeed : Nat
  reqDir : Dir
  target : Nat
  ramped : Nat
  turnDir : Dir
  pos : Int
  hist : List Int
  indexPos : Option Int
  sAct : Nat
  measDir : Dir
  out : Int
  pSet : Int
  pPrev : Int
  posTarget : Int
  posMoving : Bool
  pRem : Nat
  overload : Nat
  overDone : Bool
  oilT : Nat
  oilDone : Bool
  satCount : Nat
  gear : GearState
  lastRange : Range
  lostRange : Int
  gearSet : Bool
  faultFrom : SpindleState
  shift : Option Shift
  shiftCount : Nat
  mesh : List MeshEntry
  prepareT : Timer
  positionT : Timer
  strokeT : Timer
  dwellT : Timer
  settleT : Timer
  p : SguParams
deriving DecidableEq, Repr

/-! ## Coolant Unit (chapter 7) -/

/-- Flood states (Table 7-1). -/
inductive FloodState where
  | off | proving | on | fault
deriving DecidableEq, Repr

/-- TSC states (Table 7-1). -/
inductive TscState where
  | off | waitSpindle | ramping | on | suspended | purging | fault
deriving DecidableEq, Repr

/-- Coolant parameters (Table 7-2). -/
structure CuParams where
  floodProve : Nat
  dryTime : Nat
  minRpm : Nat
  dutyStart : Nat
  deadband : Nat
  step : Nat
  window : Nat
  faultBand : Nat
  rampTime : Nat
  suspendKeep : Nat
  purgeTime : Nat
deriving DecidableEq, Repr

/-- Coolant Unit state (Table 7-1). Demands are true for ON. `pump` is the TSC pump output (R150). -/
structure Coolant where
  floodDem : Bool
  tscDem : Bool
  mistDem : Bool
  setP : Nat
  flood : FloodState
  tsc : TscState
  duty : Nat
  pump : Bool
  window : Nat
  band : Nat
  pendingOn : Bool
  proveT : Timer
  floodDryT : Timer
  rampT : Timer
  keepT : Timer
  purgeT : Timer
  tscDryT : Timer
  p : CuParams
deriving DecidableEq, Repr

/-! ## Pendant Port (chapter 8) -/

/-- Pendant states (Table 8-1). -/
inductive PendState where
  | absent | present | lost | testing
deriving DecidableEq, Repr

/-- Causes of a PENDANT_STATE report (Table 8-4). -/
inductive PendCause where
  | frame | timeout | testStart | testEnd
deriving DecidableEq, Repr

/-- The multiplier switch (Table 8-2). -/
inductive Mult where
  | m1 | m10 | m100
deriving DecidableEq, Repr

/-- The enabling switch as a frame shows it (Table 8-2). -/
inductive Enable where
  | released | middle | panic
deriving DecidableEq, Repr

/-- A pendant status frame (Table 8-2). -/
structure StatusFrame where
  seq : Nat
  counter : Nat
  sel : Option Axis
  mult : Mult
  jogP : Bool
  jogM : Bool
  rapid : Bool
  hold : Bool
  start : Bool
  flood : Bool
  enable : Enable
  knob : Nat
  estop : Bool
deriving DecidableEq, Repr

/-- Jog modes (Table 8-1). -/
inductive JogMode where
  | none | button | wheel
deriving DecidableEq, Repr

/-- Directions of a button jog (Table 8-1). -/
inductive JogDir where
  | plus | minus | none
deriving DecidableEq, Repr

/-- End steps of a button jog (R170). -/
inductive EndStep where
  | none | jog | panic
deriving DecidableEq, Repr

/-- The pendant's motion of one axis (Table 8-1). `brk` says that braking has held against the limit ahead (R171). -/
structure Jog where
  mode : JogMode
  dir : JogDir
  vel : Int
  rem : Int
  fin : EndStep
  wheel : Int
  brk : Bool
deriving DecidableEq, Repr

/-- A display line and its NEW flag (R176). -/
structure DispLine where
  text : List Nat
  fresh : Bool
deriving DecidableEq, Repr

/-- Line-test phases (R178). -/
inductive LtPhase where
  | none | wait | listen | echo
deriving DecidableEq, Repr

/-- Line-test results with their distance (R179). -/
inductive LtResult where
  | normal
  | isOpen (d : Nat)
  | short (d : Nat)
  | failed
deriving DecidableEq, Repr

/-- A receiver that hunts for a start byte or stands inside a frame (R159, R210). -/
inductive RxState where
  | hunting | inFrame
deriving DecidableEq, Repr

/-- Pendant Port state (Table 8-1) and line_vf. `seen` says that a frame has been taken whole since the last
reset (R174); `tx` is the answer frame being sent, absent while the
transmitter is idle (R161); `rx` the receiver's hunt state (R159). -/
structure Pendant where
  st : PendState
  last : Option StatusFrame
  seen : Bool
  armed : Bool
  freshT : Timer
  mismT : Timer
  intT : Timer
  intCount : Nat
  intAxis : Option Axis
  intMult : Mult
  intLimit : Nat
  clipped : Bool
  jogs : PerAxis Jog
  lines : Vector DispLine 4
  refuseT : Timer
  clipT : Timer
  answerDue : Bool
  tx : Option (List Byte)
  rx : RxState
  ltPhase : LtPhase
  ltT : Timer
  ltLast : Option LtResult
  power : Bool
  lineVf : Nat
deriving DecidableEq, Repr

/-! ## Input Filter and Analog Monitor (chapter 9) -/

/-- One digital input (R183): raw and filtered state, settled flag, stability timer and filter time. -/
structure InputCh where
  raw : Bool
  filt : Bool
  settled : Bool
  t : Nat
  ft : Nat
deriving DecidableEq, Repr

/-- One analog channel (R188) with an_zero and an_span. -/
structure AnalogCh where
  counts : Nat
  scaled : Nat
  zero : Nat
  span : Nat
deriving DecidableEq, Repr

/-- One comparator (R190): true is ABOVE. -/
structure Cmp where
  above : Bool
  cnt : Nat
  thr : Nat
  conf : Nat
deriving DecidableEq, Repr

/-- Analog Monitor state (R188, R192). -/
structure Analog where
  next : Fin 7
  chans : Vector AnalogCh 7
  cmps : Vector Cmp 7
deriving DecidableEq, Repr

/-! ## Condition Unit and Report Queue (chapter 10) -/

/-- Machine states (R199). -/
inductive MState where
  | ready | stopping | tripped
deriving DecidableEq, Repr

/-- The drives: the five axes and the spindle (0.4, Axis and drive indices). -/
inductive Drive where
  | axis (a : Axis)
  | spindle
deriving DecidableEq, Repr

/-- The 62 entries of the condition table, by code and instance (Table 10-1). -/
inductive Cond where
  | estopOpen | drivesNotReady
  | followingError (d : Drive)
  | hardLimit (a : Axis)
  | softLimit (a : Axis)
  | notReferenced (a : Axis)
  | queueStarved
  | driveSaturated (d : Drive)
  | clampFault (c : ClampAxis)
  | clampLost (c : ClampAxis)
  | hydPressureLow
  | referenceFailed (a : Axis)
  | gearShiftFailed | gearPositionLost | gearNotEngaged
  | spindleDriveFault | spindleOverload | gearOilLow | speedClamped | spindleNotTurning
  | floodNotProven | tscPressureFault | tscFilterWarn | tscFilterBlocked | coolantLevelLow
  | pendantLost | pendantEnableMismatch | handwheelClipped | frameDiscarded | reportLost
deriving DecidableEq, Repr

/-- Condition classes (Table 10-1). -/
inductive Class where
  | trip | stop | note | hold
deriving DecidableEq, Repr

/-- What a raise stores (Table 10-2): last raise time, seq and value. -/
structure RaiseInfo where
  time : Nat
  seq : Nat
  value : Int
deriving DecidableEq, Repr

/-- A condition entry (Table 10-2). -/
structure CondEntry where
  raw : Bool
  latched : Bool
  last : Option RaiseInfo
deriving DecidableEq, Repr

/-- Condition Unit state (R193, R199). -/
structure CondUnit where
  machine : MState
  table : Vector CondEntry 62
deriving DecidableEq, Repr

/-- Outcomes of a homing in HOME_DONE (Table 10-3). -/
inductive HomeResult where
  | ok (position : Int)
  | failed (reason : HomeReason) (phase : HomePhase)
deriving DecidableEq, Repr

/-- Reasons of a failed shift (R129). -/
inductive ShiftReason where
  | prepare | position | mesh | late | sensor
deriving DecidableEq, Repr

/-- Outcomes of a shift in GEAR_DONE (Table 10-3). -/
inductive GearResult where
  | ok (count total : Nat)
  | failed (reason : ShiftReason) (cyl : Cyl) (attempts total : Nat)
  | aborted
deriving DecidableEq, Repr

/-- The report kinds with their fields (Table 10-3). -/
inductive Report where
  | hello (cause : ResetCause) (rate : Nat)
  | raised (c : Cond) (seq : Nat) (value : Int)
  | cleared (c : Cond)
  | queueState (new prev : QState) (cur : Option (Nat × Nat)) (count : Nat)
  | flowStop (count : Nat)
  | flowGo (count : Nat)
  | drained (seq : Nat)
  | markReached (seq : Nat)
  | homeDone (axis : Axis) (res : HomeResult)
  | gearDone (res : GearResult) (target : Range) (after : Option Range) (origin : Nat)
  | lineTestDone (res : LtResult)
  | pendantState (new prev : PendState) (cause : PendCause)
deriving DecidableEq, Repr

/-- An entry of the report queue (R204): its kind and fields, its time stamp and its overran count. -/
structure RptEntry where
  kind : Report
  ts : Nat
  overran : Nat
deriving DecidableEq, Repr

/-! ## Host Link Port (chapter 11) -/

/-- Reply codes (Table 11-3). -/
inductive Code where
  | ok | unknownKind | badLength | outOfRange | busy | wrongState | queueFull | tripped | badCheck
  | incomplete
deriving DecidableEq, Repr

/-- A field of a frame's body with its width on the wire (R215). -/
inductive WField where
  | u8 (n : Nat)
  | u16 (n : Nat)
  | u32 (n : Nat)
  | i16 (z : Int)
  | i32 (z : Int)
deriving DecidableEq, Repr

/-- What a request's handling answers: the reply code and the fields after it (R211). -/
structure Answer where
  code : Code
  fields : List WField
deriving DecidableEq, Repr

/-- A reply in the reply slot (R211): the request's KIND and TAG and the answer. -/
structure Reply where
  kind : Nat
  tag : Nat
  ans : Answer
deriving DecidableEq, Repr

/-- A complete request in the receive FIFO (R210). -/
structure RxEntry where
  tag : Nat
  req : Request
deriving DecidableEq, Repr

/-- The frame the transmitter is sending (R213). `live` is clear for a frame whose reply or report a reset
has removed meanwhile (R206, R207): its completion removes nothing. -/
structure TxFrame where
  isReply : Bool
  live : Bool
  bytes : List Byte
deriving DecidableEq, Repr

/-- Host Link Port state (R207, R209, R210, R211, R213) with the millisecond counter. -/
structure HostLink where
  rx : RxState
  fifo : List RxEntry
  slot : Option Reply
  tx : Option TxFrame
  cause : ResetCause
  rate : Nat
  ms : Nat
deriving DecidableEq, Repr

/-! ## The whole state -/

/-- The state of the Dalbern 614. `pending` is the queue of waiting commands, first in, first out; `free`
counts the free values drawn so far (the model's own field). -/
structure State where
  pending : List Instr
  free : Nat
  sq : SegQueue
  pi : PathInt
  ax : PerAxis AxisCh
  cs : PerAxis Bank
  cc : PerClamp Clamp
  hs : Hyd
  sgu : Sgu
  cu : Coolant
  pp : Pendant
  inp : Vector InputCh 32
  am : Analog
  cn : CondUnit
  rq : List RptEntry
  hlp : HostLink
deriving DecidableEq, Repr

/-- The faults of a step. The spec gives the block no command at which it stops, so there is none: the type
is empty, which is safe. -/
inductive Fault where
deriving DecidableEq, Repr

/-- The refusals of a step. -/
inductive Refusal where
  /-- Raised by `exec`'s arm of a command that has no meaning yet. Safe: nothing is said of the command. -/
  | notModelled (mnemonic : String)
deriving DecidableEq, Repr

/-! ## Reset values -/

/-- A stopped timer. -/
def Timer.stopped : Timer := ⟨false, 0, 0⟩

/-- SQ after a hardware reset (R29). -/
def SegQueue.reset : SegQueue :=
  { recs := [], current := false, dwellLeft := 0, waiting := false, handed := false, st := .idle,
    flow := .go, armed := false, lastSeq := 0, flowHigh := 56, flowLow := 24 }

/-- PI after a hardware reset (R55). -/
def PathInt.reset : PathInt :=
  { move := none, ret := none, r := 0, target := 0, braking := false, ahead := none, feed := 100, rapid := 100,
    spindleOvr := 100, source := .host, hold := none, pathRamp := 131, holdRamp := 328, stopRamp := 655,
    returnSpeed := 2000 }

/-- Axis parameters after a hardware reset (Tables 3-3 and 8-5); `lim` is the default of the soft limits. -/
def AxisParams.reset (lim : Int) : AxisParams :=
  { softMin := -lim, softMax := lim, kp := 400, kff := 1000, feLimit := 2000, inposWindow := 10,
    encDir := 0, homeDir := 0, searchSpeed := 20000, latchSpeed := 1000, homePosition := 0,
    indexWindow := 12000, homeTravel := 10000000, jogSpeed := 5000, rapidJogSpeed := 50000,
    jogAccel := 200000, hwSpeed := 20000 }

/-- What AXIS_STATUS shows before the first path period after a hardware reset: the reset values, with the
limits that read active (R185) and the clamp state (R106); `lim` says whether the axis has limit switches,
`clamp` is its clamp state's code. -/
def AxisSnap.reset (lim : Bool) (clamp : Nat) : AxisSnap :=
  { owner := .none, refd := false, phase := .none, setpoint := 0, enc := 0, c := 0, target := 0, e := 0,
    out := 0, inPos := true, atRest := true, limMinus := lim, limPlus := lim, homeSw := false,
    clamp := clamp, enable := false }

/-- An axis channel after a hardware reset (R77). -/
def AxisCh.reset (soft : Int) (lim : Bool) (clamp : Nat) : AxisCh :=
  { owner := .none, setpoint := 0, prev := 0, enc := 0, latch := none, refd := false, phase := .none,
    hVel := 0, hRem := 0, hFrom := 0, hStep := .active, hFail := none, e := 0, inPos := true,
    atRest := true, out := 0, satCount := 0, p := .reset soft, snap := .reset lim clamp }

/-- A bank after a hardware reset (R88). -/
def Bank.reset : Bank :=
  { st := .empty, pts := Vector.replicate 128 none, geom := none, target := 0, c := 0, slew := 2 }

/-- A clamp after a hardware reset (R106). -/
def Clamp.reset : Clamp :=
  { st := .clamped, fromFault := false, granted := false, checked := false, policy := .auto,
    follow := .none, idle := 0, op := .stopped, delay := 2000, releaseTime := 3000, clampTime := 3000 }

/-- HS after a hardware reset (R106). -/
def Hyd.reset : Hyd :=
  { st := .pumpOff, holder := none, fifo := [], offDelay := .stopped, startT := .stopped,
    offDelayP := 30000, startTimeP := 5000 }

/-- Spindle and gear parameters after a hardware reset (Table 6-4). -/
def SguParams.reset : SguParams :=
  { rangeMax := ⟨150, 375, 1000, 3000⟩, rangeRatio := ⟨20000, 8000, 3000, 1000⟩, motorMax := 3000,
    accel := 500, cpr := 4096, atSpeedPct := 5, overloadTime := 2000, oilGrace := 5000,
    orientSpeed := 20, inpos := 4, positionTime := 1000, prepareTime := 20000, strokeTime := 1500,
    jogStep := 20, meshDwell := 200, settleTime := 300, meshTol := 16, meshAge := 200, kp := 300,
    kff := 0, feLimit := 400 }

/-- SGU after a hardware reset (R137). -/
def Sgu.reset : Sgu :=
  { st := .off, reqSpeed := 0, reqDir := .cw, target := 0, ramped := 0, turnDir := .cw, pos := 0,
    hist := [], indexPos := none, sAct := 0, measDir := .cw, out := 0, pSet := 0, pPrev := 0,
    posTarget := 0, posMoving := false, pRem := 0, overload := 0, overDone := false, oilT := 0,
    oilDone := false, satCount := 0, gear := .unknown, lastRange := .r1, lostRange := 0,
    gearSet := false, faultFrom := .off, shift := none, shiftCount := 0, mesh := [],
    prepareT := .stopped, positionT := .stopped, strokeT := .stopped, dwellT := .stopped,
    settleT := .stopped, p := .reset }

/-- Coolant parameters after a hardware reset (Table 7-2). -/
def CuParams.reset : CuParams :=
  { floodProve := 3000, dryTime := 10000, minRpm := 100, dutyStart := 300, deadband := 5, step := 4,
    window := 20, faultBand := 60, rampTime := 8000, suspendKeep := 5000, purgeTime := 2000 }

/-- CU after a reset (R155, R157), with the parameters given. -/
def Coolant.cleared (p : CuParams) : Coolant :=
  { floodDem := false, tscDem := false, mistDem := false, setP := 400, flood := .off, tsc := .off,
    duty := 0, pump := false, window := 0, band := 0, pendingOn := false, proveT := .stopped,
    floodDryT := .stopped, rampT := .stopped, keepT := .stopped, purgeT := .stopped,
    tscDryT := .stopped, p := p }

/-- A jog that stands still, its wheel target at the setpoint given (R182). -/
def Jog.still (setpoint : Int) : Jog :=
  { mode := .none, dir := .none, vel := 0, rem := 0, fin := .none, wheel := setpoint, brk := false }

/-- A blank display line (R182). -/
def DispLine.blank : DispLine := ⟨List.replicate 20 0x20, false⟩

/-- PP after a hardware reset (R182). -/
def Pendant.reset : Pendant :=
  { st := .absent, last := none, seen := false, armed := false, freshT := .stopped, mismT := .stopped,
    intT := ⟨true, 0, 20⟩, intCount := 0, intAxis := none, intMult := .m1, intLimit := 1,
    clipped := false, jogs := ⟨.still 0, .still 0, .still 0, .still 0, .still 0⟩,
    lines := Vector.replicate 4 .blank, refuseT := .stopped, clipT := .stopped, answerDue := false,
    tx := none, rx := .hunting, ltPhase := .none, ltT := .stopped, ltLast := none, power := true,
    lineVf := 660 }

/-- An input after a hardware reset (R185) with its filter time; the raw level is the pin's. -/
def InputCh.reset (raw : Bool) (ft : Nat) : InputCh :=
  { raw := raw, filt := false, settled := false, t := 0, ft := ft }

/-- Default filter times of the 32 inputs (Table 9-2). -/
def filterDefaults : Vector Nat 32 :=
  #v[2, 5, 5, 5, 5, 5, 5, 5, 5, 5, 5, 5, 2, 2, 2, 2, 2, 20, 20, 20, 20, 20, 20, 20, 20, 20, 20, 20, 20,
     50, 50, 50]

/-- IF after a hardware reset with the pin levels given (R185). -/
def inputsReset (pins : BitVec 32) : Vector InputCh 32 :=
  Vector.ofFn fun i => .reset (pins.getLsbD i.val) filterDefaults[i]

/-- A channel after a hardware reset (R192, Table 9-4). -/
def AnalogCh.reset (span : Nat) : AnalogCh := { counts := 0, scaled := 0, zero := 410, span := span }

/-- A comparator after a hardware reset (R192, Table 9-4). -/
def Cmp.reset (thr : Nat) : Cmp := { above := false, cnt := 0, thr := thr, conf := 4 }

/-- AM after a hardware reset (R192). -/
def Analog.reset : Analog :=
  { next := 0
    chans := #v[.reset 2500, .reset 100, .reset 1000, .reset 100, .reset 200, .reset 600, .reset 100]
    cmps := #v[.reset 400, .reset 5, .reset 15, .reset 30, .reset 120, .reset 150, .reset 8] }

/-- A cleared condition entry (R206). -/
def CondEntry.clear : CondEntry := ⟨false, false, none⟩

/-- An entry raised at time 0 by the rebuild of a hardware reset (R206). -/
def CondEntry.raisedAtReset (value : Int) : CondEntry := ⟨true, true, some ⟨0, 0, value⟩⟩

/-- The condition table right after a hardware reset (R206, 10.5.1): every input reads off and every
comparator BELOW. -/
def tableReset : Vector CondEntry 62 :=
  (Vector.replicate 62 CondEntry.clear)
    |>.set 0 (.raisedAtReset 0) |>.set 1 (.raisedAtReset 0)
    |>.set 8 (.raisedAtReset 1) |>.set 9 (.raisedAtReset 1)
    |>.set 10 (.raisedAtReset 1) |>.set 11 (.raisedAtReset 1)
    |>.set 45 (.raisedAtReset 0) |>.set 56 (.raisedAtReset 0)

/-- The reports queued by a hardware reset (R206, R207, 10.5.1): HELLO, then the rebuild's raises in order
of code and instance. -/
def reportsReset : List RptEntry :=
  [⟨.hello .power 0, 0, 0⟩,
   ⟨.raised .estopOpen 0 0, 0, 0⟩, ⟨.raised .drivesNotReady 0 0, 0, 0⟩,
   ⟨.raised (.hardLimit .x) 0 1, 0, 0⟩, ⟨.raised (.hardLimit .y) 0 1, 0, 0⟩,
   ⟨.raised (.hardLimit .z) 0 1, 0, 0⟩, ⟨.raised (.hardLimit .w) 0 1, 0, 0⟩,
   ⟨.raised .gearPositionLost 0 0, 0, 0⟩, ⟨.raised .coolantLevelLow 0 0, 0, 0⟩]

/-- The HELLO frame after power-on at 1 Mbit/s, which the idle transmitter sends at once (R207, R213). -/
def helloBytesReset : List Byte :=
  [0x5A, 0x0D, 0x80, 0x00, 0x00, 0x00, 0x00, 0x00, 0x00, 0x00, 0x00, 0x02, 0x66, 0x01, 0x00, 0x86, 0xF7]

/-- The machine right after power-on with both rate straps open and every input pin off. -/
def State.reset : State :=
  { pending := []
    free := 0
    sq := .reset
    pi := .reset
    ax := ⟨.reset 2000000000 true 0, .reset 2000000000 true 0, .reset 2000000000 true 0,
      .reset 2000000000 true 3, .reset 36000000 false 0⟩
    cs := ⟨.reset, .reset, .reset, .reset, .reset⟩
    cc := ⟨.reset, .reset, .reset, .reset⟩
    hs := .reset
    sgu := .reset
    cu := .cleared .reset
    pp := .reset
    inp := inputsReset 0
    am := .reset
    cn := ⟨.tripped, tableReset⟩
    rq := reportsReset
    hlp := { rx := .hunting, fifo := [], slot := none, tx := some ⟨false, true, helloBytesReset⟩,
             cause := .power, rate := 0, ms := 0 } }

end Sys2Proof.Machine
end

