-- ==== Sys2Proof/Machine/Ops.lean ====
section
/-! DEFINITION. The named operations over the state: containers, the roundings of section 0.4, numbers that
must fit a 32-bit format, timers, the readings of inputs and comparators, and the outputs that a rule makes a
function of a state. -/

namespace Sys2Proof.Machine

/-! ## Containers -/

def PerAxis.get {α : Type} (v : PerAxis α) : Axis → α
  | .x => v.x | .y => v.y | .z => v.z | .w => v.w | .b => v.b

def PerAxis.upd {α : Type} (v : PerAxis α) (a : Axis) (f : α → α) : PerAxis α :=
  match a with
  | .x => { v with x := f v.x }
  | .y => { v with y := f v.y }
  | .z => { v with z := f v.z }
  | .w => { v with w := f v.w }
  | .b => { v with b := f v.b }

def PerAxis.map {α β : Type} (f : Axis → α → β) (v : PerAxis α) : PerAxis β :=
  ⟨f .x v.x, f .y v.y, f .z v.z, f .w v.w, f .b v.b⟩

def PerClamp.get {α : Type} (v : PerClamp α) : ClampAxis → α
  | .x => v.x | .y => v.y | .z => v.z | .b => v.b

def PerClamp.upd {α : Type} (v : PerClamp α) (c : ClampAxis) (f : α → α) : PerClamp α :=
  match c with
  | .x => { v with x := f v.x }
  | .y => { v with y := f v.y }
  | .z => { v with z := f v.z }
  | .b => { v with b := f v.b }

def PerClamp.map {α β : Type} (f : ClampAxis → α → β) (v : PerClamp α) : PerClamp β :=
  ⟨f .x v.x, f .y v.y, f .z v.z, f .b v.b⟩

def PerRange.get {α : Type} (v : PerRange α) : Range → α
  | .r1 => v.r1 | .r2 => v.r2 | .r3 => v.r3 | .r4 => v.r4

def PerRange.set {α : Type} (v : PerRange α) (r : Range) (a : α) : PerRange α :=
  match r with
  | .r1 => { v with r1 := a }
  | .r2 => { v with r2 := a }
  | .r3 => { v with r3 := a }
  | .r4 => { v with r4 := a }

/-- The axes in index order. -/
def allAxes : List Axis := [.x, .y, .z, .w, .b]

/-- The clamped axes in index order. -/
def allClamps : List ClampAxis := [.x, .y, .z, .b]

/-- The axis of an index 0 to 4 (0.4). -/
def axisOf : Nat → Option Axis
  | 0 => some .x | 1 => some .y | 2 => some .z | 3 => some .w | 4 => some .b | _ => none

/-- The index of an axis (0.4). -/
def axisIdx : Axis → Nat
  | .x => 0 | .y => 1 | .z => 2 | .w => 3 | .b => 4

/-- The clamped axis of an index 0, 1, 2 or 4 (R94, Table 11-7). -/
def clampOf : Nat → Option ClampAxis
  | 0 => some .x | 1 => some .y | 2 => some .z | 4 => some .b | _ => none

/-- The axis that a clamp grips. -/
def clampAxis : ClampAxis → Axis
  | .x => .x | .y => .y | .z => .z | .b => .b

/-- The clamp of an axis; W has none (R89). -/
def clampOfAxis : Axis → Option ClampAxis
  | .x => some .x | .y => some .y | .z => some .z | .w => none | .b => some .b

/-- The range of a number 1 to 4. -/
def rangeOf : Nat → Option Range
  | 1 => some .r1 | 2 => some .r2 | 3 => some .r3 | 4 => some .r4 | _ => none

/-- The number of a range. -/
def Range.num : Range → Nat
  | .r1 => 1 | .r2 => 2 | .r3 => 3 | .r4 => 4

/-- Changes one axis channel. -/
def updAx (a : Axis) (f : AxisCh → AxisCh) (s : State) : State := { s with ax := s.ax.upd a f }

/-- Changes every axis channel. -/
def mapAx (f : Axis → AxisCh → AxisCh) (s : State) : State := { s with ax := s.ax.map f }

/-- Changes one bank. -/
def updBank (a : Axis) (f : Bank → Bank) (s : State) : State := { s with cs := s.cs.upd a f }

/-- Changes one clamp. -/
def updClamp (c : ClampAxis) (f : Clamp → Clamp) (s : State) : State := { s with cc := s.cc.upd c f }

/-- Changes one axis's jog. -/
def updJog (a : Axis) (f : Jog → Jog) (s : State) : State := { s with pp.jogs := s.pp.jogs.upd a f }

/-! ## Arithmetic (0.4, Rounding) -/

/-- Quotient truncated toward zero. -/
def divTrunc (a b : Int) : Int := a.tdiv b

/-- Quotient rounded toward minus infinity. -/
def divFloor (a b : Int) : Int := a.fdiv b

/-- Quotient by a positive number, rounded to nearest with halves away from zero. -/
def divRound (a : Int) (b : Nat) : Int :=
  if 0 ≤ a then (2 * a + b) / (2 * b : Int) else -((2 * -a + b) / (2 * b : Int))

/-- Quotient of naturals rounded toward plus infinity. -/
def divCeil (a b : Nat) : Nat := (a + b - 1) / b

/-- A value clamped to lo to hi. -/
def clampInt (lo hi z : Int) : Int := max lo (min hi z)

/-- A value that moves toward a target by at most a step and stops there. -/
def approach (v target step : Int) : Int :=
  if v < target then min (v + step) target else max (v - step) target

/-- An exact result kept in a signed 32-bit quantity: itself where it fits, a free value where it does not
(assumption log, entry 2). -/
def fit32 (z : Int) : Int :=
  if -2147483648 ≤ z ∧ z ≤ 2147483647 then z else (Config.overflow32 z).toInt

/-- A value limited to the signed 32-bit range (R62). -/
def limit32 (z : Int) : Int := clampInt (-2147483648) 2147483647 z

/-! ## Timers -/

/-- A timer started from 0 toward a limit. -/
def Timer.start (lim : Nat) : Timer := ⟨true, 0, lim⟩

/-- A running timer that stands at its limit. -/
def Timer.due (t : Timer) : Bool := t.on && decide (t.lim ≤ t.t)

/-- One millisecond on a timer; it stops counting at its limit. -/
def Timer.tick (t : Timer) : Timer := if t.on then { t with t := min (t.t + 1) t.lim } else t

/-! ## Inputs and comparators (Tables 9-1 and 9-3) -/

/-- The filtered state of input n (R183). -/
def inputOn (s : State) (n : Fin 32) : Bool := s.inp[n].filt

/-- The minus limit of an axis is active (R66): the filtered state of its input is off; B has none. -/
def limitMinus (s : State) : Axis → Bool
  | .x => !inputOn s 4 | .y => !inputOn s 6 | .z => !inputOn s 8 | .w => !inputOn s 10 | .b => false

/-- The plus limit of an axis is active (R66). -/
def limitPlus (s : State) : Axis → Bool
  | .x => !inputOn s 5 | .y => !inputOn s 7 | .z => !inputOn s 9 | .w => !inputOn s 11 | .b => false

/-- A limit of the axis is active. -/
def limitActive (s : State) (a : Axis) : Bool := limitMinus s a || limitPlus s a

/-- The home switch of an axis is active (R70). -/
def homeSwitch (s : State) : Axis → Bool
  | .x => inputOn s 12 | .y => inputOn s 13 | .z => inputOn s 14 | .w => inputOn s 15 | .b => inputOn s 16

/-- The clamped sensor of an axis (Table 5-3). -/
def clampedSensor (s : State) : ClampAxis → Bool
  | .x => inputOn s 17 | .y => inputOn s 19 | .z => inputOn s 21 | .b => inputOn s 23

/-- The released sensor of an axis (Table 5-3). -/
def releasedSensor (s : State) : ClampAxis → Bool
  | .x => inputOn s 18 | .y => inputOn s 20 | .z => inputOn s 22 | .b => inputOn s 24

/-- Both sensors of a clamp have been delivered since the hardware reset (R185). -/
def clampSensorsSettled (s : State) : ClampAxis → Bool
  | .x => s.inp[17].settled && s.inp[18].settled
  | .y => s.inp[19].settled && s.inp[20].settled
  | .z => s.inp[21].settled && s.inp[22].settled
  | .b => s.inp[23].settled && s.inp[24].settled

/-- The spindle ready input I2 (R115). -/
def spindleReady (s : State) : Bool := inputOn s 2

/-- The hardwired pendant enable I3 (R158). -/
def enableContact (s : State) : Bool := inputOn s 3

/-- The end sensor of a cylinder's end (R117): I25 A_LO, I26 A_HI, I27 B_LO, I28 B_HI. -/
def endSensor (s : State) : Cyl → CylEnd → Bool
  | .a, .lo => inputOn s 25 | .a, .hi => inputOn s 26 | .b, .lo => inputOn s 27 | .b, .hi => inputOn s 28

/-- All four gear end sensors have been delivered since the hardware reset (R185). -/
def gearSensorsSettled (s : State) : Bool :=
  s.inp[25].settled && s.inp[26].settled && s.inp[27].settled && s.inp[28].settled

/-- The hydraulic pump overload I29 (R101). -/
def hydOverload (s : State) : Bool := inputOn s 29

/-- The TSC pump overload input I31 (R152). -/
def tscOverload (s : State) : Bool := inputOn s 31

def hydMin (s : State) : Bool := s.am.cmps[0].above
def floodMin (s : State) : Bool := s.am.cmps[1].above
def filterWarn (s : State) : Bool := s.am.cmps[2].above
def filterBlock (s : State) : Bool := s.am.cmps[3].above
def loadMax (s : State) : Bool := s.am.cmps[4].above
def levelOk (s : State) : Bool := s.am.cmps[5].above
def oilOk (s : State) : Bool := s.am.cmps[6].above

/-! ## Readings of one block by another -/

/-- The clamp state of an axis as every block reads it (R89): W reads RELEASED. -/
def clampState (s : State) : Axis → ClampState
  | .x => s.cc.x.st | .y => s.cc.y.st | .z => s.cc.z.st | .w => .released | .b => s.cc.b.st

/-- The axis is RELEASED. -/
def released (s : State) (a : Axis) : Bool := clampState s a == .released

/-- Every axis owned by QUEUE is at rest (R24, R26). -/
def queueAxesAtRest (s : State) : Bool :=
  allAxes.all fun a => (s.ax.get a).owner != .queue || (s.ax.get a).atRest

/-- Every one of the five axes is at rest (R27, R199). -/
def allAtRest (s : State) : Bool := allAxes.all fun a => (s.ax.get a).atRest

/-- Some axis has the owner given. -/
def anyOwner (s : State) (o : Owner) : Bool := allAxes.any fun a => (s.ax.get a).owner == o

/-- The number of axes owned by PENDANT (R163). -/
def pendantAxes (s : State) : Nat := (allAxes.filter fun a => (s.ax.get a).owner == .pendant).length

/-- The current record: the head record while one is current (R2). -/
def currentRec (s : State) : Option QRec := if s.sq.current then s.sq.recs.head? else none

/-- The gear is ENGAGED in a range. -/
def engagedRange (s : State) : Option Range :=
  match s.sgu.gear with
  | .engaged r => some r
  | _ => none

/-- A shift is in progress (R118). -/
def shifting (s : State) : Bool :=
  match s.sgu.gear with
  | .preparing | .orienting | .strokeWait | .stroking | .meshing | .settling => true
  | _ => false

/-- The spindle is ACCEL or AT_SPEED. -/
def turning (s : State) : Bool := s.sgu.st == .accel || s.sgu.st == .atSpeed

/-- The spindle is in ACCEL, AT_SPEED or DECEL (R116). -/
def spindleRuns (s : State) : Bool := turning s || s.sgu.st == .decel

/-- The end of a cylinder in a range (Table 6-3). -/
def rangeEnd : Range → Cyl → CylEnd
  | .r1, .a => .lo | .r1, .b => .lo
  | .r2, .a => .hi | .r2, .b => .lo
  | .r3, .a => .lo | .r3, .b => .hi
  | .r4, .a => .hi | .r4, .b => .hi

def CylEnd.opp : CylEnd → CylEnd
  | .lo => .hi | .hi => .lo

def Cyl.opp : Cyl → Cyl
  | .a => .b | .b => .a

/-- The end that a cylinder shows (R117): that end's sensor is on and the other is off. -/
def shownEnd (s : State) (c : Cyl) : Option CylEnd :=
  match endSensor s c .lo, endSensor s c .hi with
  | true, false => some .lo
  | false, true => some .hi
  | _, _ => none

/-- The sensors are consistent with a range (R117). -/
def consistentWith (s : State) (r : Range) : Bool :=
  shownEnd s .a == some (rangeEnd r .a) && shownEnd s .b == some (rangeEnd r .b)

/-- The range with which the sensors are consistent, if there is one (R117). -/
def consistentRange (s : State) : Option Range :=
  [Range.r1, .r2, .r3, .r4].find? fun r => consistentWith s r

/-- The TSC permit (R146). -/
def permit (s : State) : Bool :=
  (engagedRange s).isSome && turning s && decide (s.cu.p.minRpm ≤ s.sgu.sAct)

/-- The spindle angle, absent while the indexed flag is clear (R111). -/
def spindleAngle (s : State) : Option Nat :=
  s.sgu.indexPos.map fun i => ((s.sgu.pos - i) % (s.sgu.p.cpr : Int)).toNat

/-! ## Outputs that a rule makes a function of a state -/

/-- The axis drive enable (R64). -/
def driveEnable (s : State) : Bool := s.cn.machine != .tripped

/-- The clamp valve of an axis (Table 5-2, R104). Every valve is off in TRIPPED (R200), a RELEASED axis's too whatever
its policy (assumption log, entry 22). -/
def valveOn (s : State) (c : ClampAxis) : Bool :=
  let k := s.cc.get c
  match k.st with
  | .releasing => true
  | .released => s.cn.machine != .tripped
  | .clampWait => !k.fromFault
  | _ => false

/-- The pump contactor (R100). -/
def contactorOn (s : State) : Bool := s.hs.st != .pumpOff

/-- The spindle drive enable (Table 6-2). -/
def spindleEnable (s : State) : Bool := spindleRuns s || s.sgu.st == .positioning

/-- The solenoid of a cylinder's end (R117, R124): on while that cylinder's stroke is STROKING or MESHING. -/
def solenoidOn (s : State) (c : Cyl) (e : CylEnd) : Bool :=
  match s.sgu.shift with
  | some h => (s.sgu.gear == .stroking || s.sgu.gear == .meshing) && h.cyl == c && rangeEnd h.target c == e
  | none => false

/-- The flood pump (R142, R143). -/
def floodPump (s : State) : Bool := s.cu.flood == .proving || s.cu.flood == .on

/-- The purge valve: open while the purge timer runs (R151, R152). -/
def purgeValve (s : State) : Bool := s.cu.purgeT.on

/-- The mist state (R154): 0 OFF, 1 ON, 2 BLOCKED. -/
def mistState (s : State) : Nat :=
  if s.cu.mistDem then (if s.cu.tsc == .off then 1 else 2) else 0

/-- The mist valve (R154). -/
def mistValve (s : State) : Bool := mistState s == 1 && s.cn.machine != .tripped

end Sys2Proof.Machine
end

