-- ==== Sys2Proof/Machine/Reports.lean ====
section
/-! DEFINITION. The report queue (R204) and the part of a raise that has no reaction (R194, R195): the
condition table's numbering, latching and clearing. Reactions stand in Hold.lean and Reactions.lean. -/

namespace Sys2Proof.Machine

/-! ## The condition table (Table 10-1) -/

def driveIdx : Drive → Nat
  | .axis a => axisIdx a
  | .spindle => 5

def clampIdx : ClampAxis → Nat
  | .x => 0 | .y => 1 | .z => 2 | .b => 4

/-- Position of a clamp among the four clamped axes. -/
def clampOrd : ClampAxis → Nat
  | .x => 0 | .y => 1 | .z => 2 | .b => 3

/-- The code of an entry (Table 10-1). -/
def Cond.code : Cond → Nat
  | .estopOpen => 1 | .drivesNotReady => 2 | .followingError _ => 3 | .hardLimit _ => 4
  | .softLimit _ => 5 | .notReferenced _ => 6 | .queueStarved => 7 | .driveSaturated _ => 8
  | .clampFault _ => 9 | .clampLost _ => 10 | .hydPressureLow => 11 | .referenceFailed _ => 12
  | .gearShiftFailed => 13 | .gearPositionLost => 14 | .gearNotEngaged => 15
  | .spindleDriveFault => 16 | .spindleOverload => 17 | .gearOilLow => 18 | .speedClamped => 19
  | .spindleNotTurning => 20 | .floodNotProven => 21 | .tscPressureFault => 22
  | .tscFilterWarn => 23 | .tscFilterBlocked => 24 | .coolantLevelLow => 25 | .pendantLost => 26
  | .pendantEnableMismatch => 27 | .handwheelClipped => 28 | .frameDiscarded => 29 | .reportLost => 30

/-- The instance of an entry (R193). -/
def Cond.inst : Cond → Nat
  | .followingError d | .driveSaturated d => driveIdx d
  | .hardLimit a | .softLimit a | .notReferenced a | .referenceFailed a => axisIdx a
  | .clampFault c | .clampLost c => clampIdx c
  | _ => 0

/-- Place of an entry in the table, in order of code and then instance. -/
def Cond.place : Cond → Nat
  | .estopOpen => 0 | .drivesNotReady => 1
  | .followingError d => 2 + driveIdx d
  | .hardLimit a => 8 + axisIdx a
  | .softLimit a => 13 + axisIdx a
  | .notReferenced a => 18 + axisIdx a
  | .queueStarved => 23
  | .driveSaturated d => 24 + driveIdx d
  | .clampFault c => 30 + clampOrd c
  | .clampLost c => 34 + clampOrd c
  | .hydPressureLow => 38
  | .referenceFailed a => 39 + axisIdx a
  | .gearShiftFailed => 44 | .gearPositionLost => 45 | .gearNotEngaged => 46
  | .spindleDriveFault => 47 | .spindleOverload => 48 | .gearOilLow => 49 | .speedClamped => 50
  | .spindleNotTurning => 51 | .floodNotProven => 52 | .tscPressureFault => 53
  | .tscFilterWarn => 54 | .tscFilterBlocked => 55 | .coolantLevelLow => 56 | .pendantLost => 57
  | .pendantEnableMismatch => 58 | .handwheelClipped => 59 | .frameDiscarded => 60 | .reportLost => 61

theorem axisIdx_lt (a : Axis) : axisIdx a < 5 := by cases a <;> decide

theorem driveIdx_lt (d : Drive) : driveIdx d < 6 := by
  cases d with
  | axis a => exact Nat.lt_succ_of_lt (axisIdx_lt a)
  | spindle => decide

theorem clampOrd_lt (c : ClampAxis) : clampOrd c < 4 := by cases c <;> decide

theorem Cond.place_lt (c : Cond) : c.place < 62 := by
  cases c with
  | followingError d => exact Nat.lt_trans (Nat.add_lt_add_left (driveIdx_lt d) 2) (by decide)
  | driveSaturated d => exact Nat.lt_trans (Nat.add_lt_add_left (driveIdx_lt d) 24) (by decide)
  | hardLimit a => exact Nat.lt_trans (Nat.add_lt_add_left (axisIdx_lt a) 8) (by decide)
  | softLimit a => exact Nat.lt_trans (Nat.add_lt_add_left (axisIdx_lt a) 13) (by decide)
  | notReferenced a => exact Nat.lt_trans (Nat.add_lt_add_left (axisIdx_lt a) 18) (by decide)
  | referenceFailed a => exact Nat.lt_trans (Nat.add_lt_add_left (axisIdx_lt a) 39) (by decide)
  | clampFault k => exact Nat.lt_trans (Nat.add_lt_add_left (clampOrd_lt k) 30) (by decide)
  | clampLost k => exact Nat.lt_trans (Nat.add_lt_add_left (clampOrd_lt k) 34) (by decide)
  | _ => decide

/-- The table's index of an entry. -/
def Cond.index (c : Cond) : Fin 62 := ⟨c.place, c.place_lt⟩

/-- The class of an entry (Table 10-1). -/
def Cond.cls : Cond → Class
  | .estopOpen | .drivesNotReady | .followingError _ => .trip
  | .hardLimit _ | .softLimit _ | .notReferenced _ | .clampFault _ | .clampLost _ | .hydPressureLow
  | .gearShiftFailed | .gearPositionLost | .gearNotEngaged | .spindleDriveFault | .spindleOverload
  | .gearOilLow => .stop
  | .spindleNotTurning | .floodNotProven | .tscPressureFault | .tscFilterBlocked | .pendantLost
  | .pendantEnableMismatch => .hold
  | .queueStarved | .driveSaturated _ | .referenceFailed _ | .speedClamped | .tscFilterWarn
  | .coolantLevelLow | .handwheelClipped | .frameDiscarded | .reportLost => .note

/-- The entry is a level condition (Table 10-1). -/
def Cond.level : Cond → Bool
  | .estopOpen | .drivesNotReady | .hardLimit _ | .queueStarved | .driveSaturated _ | .hydPressureLow
  | .gearPositionLost | .spindleDriveFault | .gearOilLow | .tscFilterWarn | .tscFilterBlocked
  | .coolantLevelLow | .pendantEnableMismatch => true
  | _ => false

/-- Every entry in order of code and then instance (R193). -/
def allConds : List Cond :=
  List.flatten
    [[Cond.estopOpen, .drivesNotReady],
     allAxes.map fun a => Cond.followingError (.axis a), [Cond.followingError .spindle],
     allAxes.map Cond.hardLimit, allAxes.map Cond.softLimit, allAxes.map Cond.notReferenced,
     [Cond.queueStarved],
     allAxes.map fun a => Cond.driveSaturated (.axis a), [Cond.driveSaturated .spindle],
     allClamps.map Cond.clampFault, allClamps.map Cond.clampLost, [Cond.hydPressureLow],
     allAxes.map Cond.referenceFailed,
     [Cond.gearShiftFailed, .gearPositionLost, .gearNotEngaged, .spindleDriveFault, .spindleOverload,
      .gearOilLow, .speedClamped, .spindleNotTurning, .floodNotProven, .tscPressureFault,
      .tscFilterWarn, .tscFilterBlocked, .coolantLevelLow, .pendantLost, .pendantEnableMismatch,
      .handwheelClipped, .frameDiscarded, .reportLost]]

/-- The entry of a code and instance, if Table 10-1 has it. -/
def condOf (code inst : Nat) : Option Cond :=
  allConds.find? fun c => c.code == code && c.inst == inst

/-- The entry of a condition. -/
def condEntry (s : State) (c : Cond) : CondEntry := s.cn.table[c.index]

/-- The raw of a condition. -/
def rawOf (s : State) (c : Cond) : Bool := (condEntry s c).raw

/-- Changes one entry. -/
def updCond (c : Cond) (f : CondEntry → CondEntry) (s : State) : State :=
  { s with cn.table := s.cn.table.set c.index (f s.cn.table[c.index]) }

/-- Some level entry of the class given has its raw true (R194). -/
def anyRaw (s : State) (k : Class) : Bool := allConds.any fun c => c.level && c.cls == k && rawOf s c

/-! ## The report queue (R204) -/

/-- Queues a report at the millisecond counter's value: at the tail, or over the newest entry with its overran
count plus one when the queue holds 32. -/
def queueReport (k : Report) (s : State) : State :=
  if s.rq.length < 32 then { s with rq := s.rq ++ [⟨k, s.hlp.ms, 0⟩] }
  else
    { s with rq := s.rq.dropLast ++
        [⟨k, s.hlp.ms, min 65535 ((s.rq.getLast?.map fun e => e.overran).getD 0 + 1)⟩] }

/-! ## Raises without their reaction (R195 steps 1 to 3) -/

/-- Steps 1 to 3 of a raise: the latched flag, the stored time, seq and value, and the report. It is the
whole of a NOTE raise, which has no reaction (R197). -/
def latch (c : Cond) (seq : Nat) (value : Int) (s : State) : State :=
  queueReport (.raised c seq (fit32 value))
    (updCond c (fun e => { e with latched := true, last := some ⟨s.hlp.ms, seq, fit32 value⟩ }) s)

/-- Sets a level entry's raw. -/
def setRaw (c : Cond) (b : Bool) (s : State) : State := updCond c (fun e => { e with raw := b }) s

/-- The raw of a level entry falls, with CONDITION_CLEARED, when it was true (R194). -/
def fall (c : Cond) (s : State) : State :=
  if rawOf s c then queueReport (.cleared c) (setRaw c false s) else s

/-- The raw of a NOTE-class level entry rises, with its raise, when it was false (R194). -/
def riseNote (c : Cond) (seq : Nat) (value : Int) (s : State) : State :=
  if rawOf s c then s else latch c seq value (setRaw c true s)

/-- A NOTE-class level entry follows its cause. -/
def levelNote (c : Cond) (cause : Bool) (seq : Nat) (value : Int) (s : State) : State :=
  if cause then riseNote c seq value s else fall c s

end Sys2Proof.Machine
end

