-- ==== Sys2Proof/Machine/Hold.lean ====
section
/-! DEFINITION. Changes of queue state (R6), the HOLD taken by SQ (R9), the ends of pendant jogs (R172), and
the HOLD-class raise with its reaction (R197). -/

namespace Sys2Proof.Machine

/-- The record's kind code (Table 11-7). -/
def RecBody.kindCode : RecBody → Nat
  | .move _ => 1 | .dwell _ => 2 | .spindle .. => 3 | .gear _ => 4 | .coolant .. => 5 | .clamp .. => 6
  | .mark _ => 7

/-- Seq and kind of the current record, as QUEUE_STATE carries them (R6). -/
def curKey (s : State) : Option (Nat × Nat) := (currentRec s).map fun r => (r.seq, r.body.kindCode)

/-- The seq of the current record when it is a MOVE, else 0. -/
def moveSeq (s : State) : Nat :=
  match currentRec s with
  | some ⟨q, .move _⟩ => q
  | _ => 0

/-- The seq a raise of an axis carries: the current MOVE's when the axis is QUEUE-owned, else 0 (R62, R63,
R66, R98). -/
def axisSeq (s : State) (a : Axis) : Nat := if (s.ax.get a).owner = .queue then moveSeq s else 0

/-- A change of queue state queues QUEUE_STATE (R6); QUEUE_STARVED falls when IDLE, HOLDING or STOPPING is
entered (R41). -/
def setQState (q : QState) (s : State) : State :=
  if s.sq.st = q then s
  else
    let s1 := queueReport (.queueState q s.sq.st (curKey s) s.sq.recs.length) { s with sq.st := q }
    if q = .idle ∨ q = .holding ∨ q = .stopping then fall .queueStarved s1 else s1

/-- A HOLD as SQ acts on it (R9). -/
def sqHold (s : State) : State :=
  if s.sq.st = .running ∨ s.sq.st = .returning then setQState .holding s else s

/-- One jog ends with the end step given (R172): a button jog whose velocity is 0 has ended, and a moving one
goes on with the end step unless it already ends with PANIC; a wheel target is set to the setpoint. -/
def endJogOf (step : EndStep) (setpoint : Int) (j : Jog) : Jog :=
  match j.mode with
  | .none => j
  | .button =>
    if j.dir = .none then j
    else if j.vel = 0 then { j with dir := .none, fin := .none }
    else { j with fin := if j.fin = .panic then .panic else step }
  | .wheel => { j with wheel := setpoint }

/-- The jog of one axis ends (R172). -/
def endJog (step : EndStep) (a : Axis) (s : State) : State :=
  updJog a (endJogOf step (s.ax.get a).setpoint) s

/-- Every pendant jog ends (R172, R180). -/
def endAllJogs (step : EndStep) (s : State) : State :=
  { s with pp.jogs := s.pp.jogs.map fun a j => endJogOf step (s.ax.get a).setpoint j }

/-- A HOLD-class raise with its reaction (R195, R197). -/
def raiseHold (c : Cond) (seq : Nat) (value : Int) (s : State) : State :=
  let s1 := latch c seq value s
  if s.cn.machine = .tripped then s1 else endAllJogs .jog (sqHold s1)

/-- The raw of a HOLD-class level entry rises, with its raise, when it was false (R194). -/
def riseHold (c : Cond) (seq : Nat) (value : Int) (s : State) : State :=
  if rawOf s c then s else raiseHold c seq value (setRaw c true s)

end Sys2Proof.Machine
end

