-- ==== Sys2Proof/Machine/Clamps.lean ====
section
/-! DEFINITION. The Clamp Controller and the Hydraulic Supply (chapter 5), less the raises of STOP class:
needs (R91, R92), the grant FIFO (R102), granted operations and their completion (R95 to R97), the pump
(R100) and trip clamping (R104). -/

namespace Sys2Proof.Machine

/-- A request joins the tail of the grant FIFO (R102). -/
def hydJoin (who : Requester) (op : HydOp) (s : State) : State :=
  { s with hs.fifo := s.hs.fifo ++ [⟨who, op⟩] }

/-- A requester withdraws its request (R102). -/
def hydWithdraw (who : Requester) (s : State) : State :=
  { s with hs.fifo := s.hs.fifo.filter fun r => r.who != who }

/-- The holder returns the grant (R102). -/
def hydReturn (who : Requester) (s : State) : State :=
  match s.hs.holder with
  | some h => if h.who = who then { s with hs.holder := none } else s
  | none => s

/-- A release need outside clamp state FAULT, and in FAULT from a CLAMP record or CLAMP_SET (Table 5-4). In
TRIPPED it is not taken (R91); under NEVER it is met at once (R90). -/
def releaseNeed (c : ClampAxis) (s : State) : State :=
  if s.cn.machine = .tripped ∨ (s.cc.get c).policy = .never then s
  else
    match (s.cc.get c).st with
    | .clamped => hydJoin (.axis c) .release (updClamp c (fun k => { k with st := .releaseWait }) s)
    | .releaseWait => s
    | .releasing => updClamp c (fun k => { k with follow := .none }) s
    | .released => updClamp c (fun k => { k with idle := 0 }) s
    | .clampWait =>
      if (s.cc.get c).fromFault then
        hydJoin (.axis c) .release
          (updClamp c (fun k => { k with st := .releaseWait, fromFault := false }) (hydWithdraw (.axis c) s))
      else updClamp c (fun k => { k with st := .released, idle := 0 }) (hydWithdraw (.axis c) s)
    | .clamping => updClamp c (fun k => { k with follow := .release }) s
    | .fault => hydJoin (.axis c) .release (updClamp c (fun k => { k with st := .releaseWait }) s)

/-- A clamp need (Table 5-5). In TRIPPED it is not taken (R92); a NEVER axis makes no request (R90). -/
def clampNeed (c : ClampAxis) (s : State) : State :=
  if s.cn.machine = .tripped ∨ (s.cc.get c).policy = .never then s
  else
    match (s.cc.get c).st with
    | .clamped => s
    | .releaseWait => updClamp c (fun k => { k with st := .clamped }) (hydWithdraw (.axis c) s)
    | .releasing => updClamp c (fun k => { k with follow := .clamp }) s
    | .released =>
      hydJoin (.axis c) .clamp (updClamp c (fun k => { k with st := .clampWait, fromFault := false, idle := 0 }) s)
    | .clampWait => s
    | .clamping => updClamp c (fun k => { k with follow := .none }) s
    | .fault =>
      hydJoin (.axis c) .clamp (updClamp c (fun k => { k with st := .clampWait, fromFault := true }) s)

/-- CC starts the operation of an axis that receives the grant (R95). -/
def startClampOp (c : ClampAxis) (s : State) : State :=
  match (s.cc.get c).st with
  | .releaseWait =>
    updClamp c (fun k => { k with st := .releasing, op := .start k.releaseTime }) s
  | .clampWait =>
    updClamp c (fun k => { k with st := .clamping, granted := true, fromFault := false,
                                  op := .start k.clampTime }) s
  | _ => s

/-- A release completes (R96). -/
def releaseDone (c : ClampAxis) (s : State) : State :=
  let s1 := hydReturn (.axis c) (updClamp c (fun k => { k with st := .released, idle := 0, op := .stopped }) s)
  if (s.cc.get c).follow = .clamp then clampNeed c (updClamp c (fun k => { k with follow := .none }) s1)
  else s1

/-- A clamp completes (R97): a granted clamp returns the grant, and a follow-on RELEASE is applied unless the
machine is TRIPPED. So does a trip clamp that completes while the machine is STOPPING: the model's choice (assumption log,
entry 44). -/
def clampDone (c : ClampAxis) (s : State) : State :=
  let s1 := hydReturn (.axis c)
    (updClamp c (fun k => { k with st := .clamped, granted := false, op := .stopped }) s)
  if (s.cc.get c).follow = .release ∧ s.cn.machine ≠ .tripped then
    releaseNeed c (updClamp c (fun k => { k with follow := .none }) s1)
  else s1

/-- The sensors complete a release in RELEASING (R96). -/
def releaseMet (s : State) (c : ClampAxis) : Bool :=
  (s.cc.get c).st == .releasing && releasedSensor s c && !clampedSensor s c

/-- The sensor completes a clamp in CLAMPING (R97). -/
def clampMet (s : State) (c : ClampAxis) : Bool := (s.cc.get c).st == .clamping && clampedSensor s c

/-- The idle clamp's conditions hold for an axis (R93). -/
def idleRuns (s : State) (c : ClampAxis) : Bool :=
  (s.cc.get c).st == .released && (s.cc.get c).policy == .auto && (s.ax.get (clampAxis c)).owner == .none

/-- The pump is demanded (R100). -/
def pumpDemand (s : State) : Bool :=
  !s.hs.fifo.isEmpty || s.hs.holder.isSome || allClamps.any fun c => (s.cc.get c).st != .clamped

/-- The pump stops: PUMP_OFF, and HYD_PRESSURE_LOW falls (R100, R101). -/
def pumpStop (s : State) : State :=
  fall .hydPressureLow { s with hs.st := .pumpOff, hs.offDelay := .stopped, hs.startT := .stopped }

/-- Trip clamping of one axis (R104). A follow-on RELEASE still set in RELEASE_WAIT, RELEASED or CLAMP_WAIT is dropped:
the model's choice (assumption log, entry 36). -/
def tripClamp (k : Clamp) : Clamp :=
  if k.policy = .never then { k with follow := .none }
  else
    match k.st with
    | .clamped => { k with idle := 0 }
    | .clamping =>
      { k with granted := false, op := .start k.clampTime, idle := 0,
               follow := if k.follow = .release then .release else .none }
    | _ =>
      { k with st := .clamping, fromFault := false, granted := false, op := .start k.clampTime, idle := 0,
               follow := .none }

/-- CC and HS at TRIP and at RESTART (R104), less the fall of HYD_PRESSURE_LOW. -/
def clampsTrip (s : State) : State :=
  { s with
    cc := s.cc.map fun _ k => tripClamp k
    hs := { s.hs with st := .pumpOff, holder := none, fifo := [], offDelay := .stopped, startT := .stopped } }

end Sys2Proof.Machine
end

