-- ==== Sys2Proof/Machine/Spindle.lean ====
section
/-! DEFINITION. The spindle's speed commands and states (R108, R109, R113, R114) and the abandonment of a shift
(R130): what the STOP and TRIP reactions ask of SGU. -/

namespace Sys2Proof.Machine

/-- The target speed formed from the requested speed, the engaged range and the override (R108). -/
def formTarget (s : State) : Nat :=
  match engagedRange s with
  | some r =>
    if s.sgu.reqSpeed = 0 then 0
    else
      let m := s.sgu.p.rangeMax.get r
      min (max 1 (min s.sgu.reqSpeed m * s.pi.spindleOvr / 100)) m
  | none => 0

/-- A started FPR MOVE is current (R37). -/
def fprStarted (s : State) : Bool :=
  match s.pi.move with
  | some m => s.sq.current && m.motion == .fpr
  | none => false

/-- A change of spindle state. While the queue is RUNNING with a started FPR MOVE, leaving ACCEL and AT_SPEED
raises SPINDLE_NOT_TURNING (R37). -/
def setSpindle (st : SpindleState) (s : State) : State :=
  let s1 := { s with sgu.st := st }
  if turning s ∧ st ≠ .accel ∧ st ≠ .atSpeed ∧ s.sq.st = .running ∧ fprStarted s then
    raiseHold .spindleNotTurning (moveSeq s) s.sgu.sAct s1
  else s1

/-- The spindle becomes OFF: enable off, output 0, no positioning (Table 6-2). -/
def spindleOff (s : State) : State :=
  setSpindle .off { s with sgu.out := 0, sgu.posMoving := false, sgu.positionT := .stopped }

/-- OFF to ACCEL: the turning direction takes the requested direction and the oil grace starts (Table 6-2,
R116). -/
def spindleStart (s : State) : State :=
  setSpindle .accel
    { s with sgu.turnDir := s.sgu.reqDir, sgu.oilT := 0, sgu.oilDone := s.sgu.p.oilGrace == 0 }

/-- The target is formed again and the spindle state follows (R108, Table 6-2). -/
def retarget (s : State) : State :=
  let t := formTarget s
  let s1 := { s with sgu.target := t }
  match s.sgu.st with
  | .off => if 0 < t then spindleStart s1 else s1
  | .accel | .atSpeed =>
    if t = 0 ∨ s.sgu.reqDir ≠ s.sgu.turnDir then setSpindle .decel s1
    else if t ≠ s.sgu.target then setSpindle .accel s1 else s1
  | .decel => if 0 < t ∧ s.sgu.reqDir = s.sgu.turnDir then setSpindle .accel s1 else s1
  | .positioning | .fault => s1

/-- The requested speed becomes 0 (R108, R114). -/
def spindleStopSpeed (s : State) : State := retarget { s with sgu.reqSpeed := 0 }

/-- A speed command that is applied, with the seq it carries (R108, R113): a requested speed above range_max of
the engaged range raises SPEED_CLAMPED; a speed of 0 is a STOP. -/
def speedCommand (speed : Nat) (dir : Dir) (seq : Nat) (s : State) : State :=
  if speed = 0 then spindleStopSpeed s
  else
    let s1 := { s with sgu.reqSpeed := speed, sgu.reqDir := dir }
    let exceeds := match engagedRange s with
      | some r => decide (s.sgu.p.rangeMax.get r < speed)
      | none => false
    retarget (if exceeds then latch .speedClamped seq speed s1 else s1)

/-- The spindle in the event in which the gear state leaves ENGAGED (R109). -/
def leaveEngaged (s : State) : State :=
  let s1 := { s with sgu.target := 0 }
  match s.sgu.st with
  | .accel | .atSpeed => setSpindle .decel s1
  | .fault => spindleOff s1
  | _ => s1

/-- DECEL is over: the ramped command is 0 and S_act is 10 rpm or less (R109). -/
def spindleStopped (s : State) : Bool := s.sgu.ramped == 0 && decide (s.sgu.sAct ≤ 10)

/-- The gear state after an abandoned shift (R130 step 3). When it is UNKNOWN, the range GEAR_POSITION_LOST will
name is a free value (assumption log, entry 4). -/
def gearAfterAbandon (s : State) : State :=
  match consistentRange s with
  | some r => { s with sgu.gear := .engaged r, sgu.lastRange := r }
  | none =>
    { s with sgu.gear := .unknown, sgu.lostRange := ((Config.lostRange s.free).val : Int), free := s.free + 1 }

/-- Every timer of a shift stops. -/
def stopShiftTimers (s : State) : State :=
  { s with sgu.prepareT := .stopped, sgu.positionT := .stopped, sgu.strokeT := .stopped,
           sgu.dwellT := .stopped, sgu.settleT := .stopped }

/-- Steps 1 to 3 and 5 of abandoning a shift (R130). -/
def shiftTeardown (s : State) : State :=
  let s1 := hydWithdraw .gear (hydReturn .gear s)
  let s2 := if s1.sgu.st = .positioning then spindleOff s1 else s1
  let s3 := gearAfterAbandon s2
  stopShiftTimers { s3 with sgu.shift := none }

/-- The report of an abandoned shift (R130 step 4). -/
def abortReport (h : Shift) (s : State) : State :=
  queueReport (.gearDone .aborted h.target (engagedRange s) h.origin) s

/-- A shift in progress is abandoned (R130). -/
def abandonShift (s : State) : State :=
  match s.sgu.shift with
  | some h => if shifting s then abortReport h (shiftTeardown s) else s
  | none => s

/-- SGU at TRIP (R114): enable off, output 0, speeds 0, the spindle OFF unless FAULT, a shift abandoned. -/
def sguTrip (s : State) : State :=
  let s1 := abandonShift
    { s with sgu.reqSpeed := 0, sgu.target := 0, sgu.ramped := 0, sgu.out := 0, sgu.satCount := 0 }
  fall (.driveSaturated .spindle) (if s1.sgu.st = .fault then s1 else spindleOff s1)

end Sys2Proof.Machine
end

