-- ==== Sys2Proof/Machine/Coolant.lean ====
section
/-! DEFINITION. The Coolant Unit (chapter 7): writes of the demand record, flood, through-spindle coolant, and
its teardown. Its conditions are of class NOTE and HOLD only. -/

namespace Sys2Proof.Machine

/-- The current record is a COOLANT record that waits on flood: its seq, else 0 (R145). -/
def floodSeq (s : State) : Nat :=
  match currentRec s with
  | some ⟨q, .coolant .on _ _ _ true⟩ => q
  | _ => 0

/-- The current record is a COOLANT record that waits on TSC: its seq, else 0 (R152). -/
def tscSeq (s : State) : Nat :=
  match currentRec s with
  | some ⟨q, .coolant _ .on _ _ true⟩ => q
  | _ => 0

/-! ## Flood (7.2) -/

/-- Entry into flood FAULT with its cause (R145). -/
def floodFault (cause : Int) (s : State) : State :=
  raiseHold .floodNotProven (floodSeq s) cause
    { s with cu.flood := .fault, cu.proveT := .stopped, cu.floodDryT := .stopped }

/-- A fresh demand ON for flood (R142, R143, R145). -/
def floodFresh (s : State) : State :=
  match s.cu.flood with
  | .off | .fault =>
    if levelOk s then { s with cu.flood := .proving, cu.proveT := .start s.cu.p.floodProve }
    else floodFault 3 s
  | .proving | .on => s

/-- A write of flood OFF (R143, R145). -/
def floodOff (s : State) : State :=
  { s with cu.flood := .off, cu.proveT := .stopped, cu.floodDryT := .stopped }

/-- Flood is PROVING or ON. -/
def floodRuns (s : State) : Bool := s.cu.flood == .proving || s.cu.flood == .on

/-! ## Through-spindle coolant (7.3) -/

/-- Entry into TSC FAULT, without its raise (R152): one purge is run. The window and band counts become 0: the model's
choice (assumption log, entry 48). -/
def tscFaultEntry (s : State) : State :=
  { s with cu.tsc := .fault, cu.duty := 0, cu.pump := false, cu.window := 0, cu.band := 0,
           cu.rampT := .stopped, cu.keepT := .stopped, cu.tscDryT := .stopped,
           cu.purgeT := .start s.cu.p.purgeTime }

/-- Entry into TSC FAULT with its raise (R152). -/
def tscFault (cause : Int) (s : State) : State :=
  raiseHold .tscPressureFault (tscSeq s) cause (tscFaultEntry s)

/-- The TSC dry timer starts from 0 (R147, R152); a dry_time of 0 faults at once. -/
def tscDryStart (s : State) : State :=
  if s.cu.p.dryTime = 0 then tscFault 3 s else { s with cu.tscDryT := .start s.cu.p.dryTime }

/-- The TSC dry timer on entry into RAMPING (R147). -/
def tscDryEntry (s : State) : State :=
  if levelOk s then { s with cu.tscDryT := .stopped } else tscDryStart s

/-- Entry into RAMPING from a state that does not flow (R147). The pump comes on, and an overload input I31 that is
active then gives FAULT (R152). -/
def tscRamp (s : State) : State :=
  let s1 := { s with cu.tsc := .ramping, cu.pump := true, cu.duty := s.cu.p.dutyStart, cu.window := 0,
                     cu.rampT := .start s.cu.p.rampTime, cu.keepT := .stopped }
  if tscOverload s then tscFault 2 s1 else tscDryEntry s1

/-- WAIT_SPINDLE: pump off, duty 0 (R147, R150). -/
def tscWait (s : State) : State :=
  { s with cu.tsc := .waitSpindle, cu.duty := 0, cu.pump := false, cu.keepT := .stopped,
           cu.tscDryT := .stopped }

/-- A fresh demand ON taken from OFF (R147, R153). -/
def tscFromOff (s : State) : State :=
  if filterBlock s then tscFaultEntry s
  else if permit s && levelOk s then tscRamp s
  else tscWait s

/-- A fresh demand ON for TSC (R147). -/
def tscFresh (s : State) : State :=
  match s.cu.tsc with
  | .off => tscFromOff s
  | .waitSpindle | .ramping | .on | .suspended => s
  | .purging => { s with cu.pendingOn := true }
  | .fault => if s.cu.purgeT.on then { s with cu.pendingOn := true } else tscFromOff s

/-- PURGING from a running or waiting state (R151). The window and band counts become 0: the model's choice (assumption
log, entry 48). -/
def tscPurge (s : State) : State :=
  { s with cu.tsc := .purging, cu.duty := 0, cu.pump := false, cu.window := 0, cu.band := 0,
           cu.rampT := .stopped, cu.keepT := .stopped, cu.tscDryT := .stopped,
           cu.purgeT := .start s.cu.p.purgeTime }

/-- A write of TSC OFF (R151, R152). -/
def tscOff (s : State) : State :=
  match s.cu.tsc with
  | .off | .purging => { s with cu.pendingOn := false }
  | .waitSpindle | .ramping | .on | .suspended => tscPurge s
  | .fault =>
    if s.cu.purgeT.on then { s with cu.tsc := .purging, cu.pendingOn := false }
    else { s with cu.tsc := .off, cu.pendingOn := false }

/-- SUSPENDED, in the event in which the permit fails (R150). -/
def tscSuspend (s : State) : State :=
  { s with cu.tsc := .suspended, cu.duty := 0, cu.window := 0, cu.band := 0, cu.rampT := .stopped,
           cu.keepT := if s.cu.p.suspendKeep = 0 then .stopped else .start s.cu.p.suspendKeep,
           cu.pump := s.cu.p.suspendKeep != 0,
           cu.tscDryT := if s.cu.p.suspendKeep = 0 then .stopped else s.cu.tscDryT }

/-- The permit holds again in SUSPENDED (R150, R153). -/
def tscResume (s : State) : State :=
  if filterBlock s then tscFaultEntry s
  else if levelOk s then tscRamp s
  else tscWait s

/-- A write that changes the set pressure (R149). ON enters RAMPING with its duty kept (R147, R149); its band count
becomes 0, which is the model's choice (assumption log, entry 48). -/
def setPressure (p : Nat) (s : State) : State :=
  if p = s.cu.setP then s
  else
    let s1 := { s with cu.setP := p }
    match s.cu.tsc with
    | .ramping => { s1 with cu.window := 0, cu.rampT := .start s.cu.p.rampTime }
    | .on =>
      tscDryEntry { s1 with cu.tsc := .ramping, cu.window := 0, cu.band := 0, cu.rampT := .start s.cu.p.rampTime }
    | _ => s1

/-- RAMPING or ON. -/
def tscFlows (s : State) : Bool := s.cu.tsc == .ramping || s.cu.tsc == .on

/-- The duty after a sample P against the set pressure S (R148). -/
def nextDuty (p : CuParams) (duty : Nat) (P S : Nat) : Nat :=
  min 1000
    (if P + p.deadband < S then duty + p.step else if S + p.deadband < P then duty - p.step else duty)

/-- The distance of a sample from the set pressure. -/
def absDiff (a b : Nat) : Nat := (a - b) + (b - a)

/-- One completed conversion of A2 in RAMPING or ON (R148, R149). -/
def tscSample (P : Nat) (s : State) : State :=
  match s.cu.tsc with
  | .ramping =>
    let s1 := { s with cu.duty := nextDuty s.cu.p s.cu.duty P s.cu.setP }
    if absDiff P s.cu.setP ≤ s.cu.p.window then
      if 8 ≤ s.cu.window + 1 then
        { s1 with cu.tsc := .on, cu.window := 8, cu.band := 0, cu.rampT := .stopped }
      else { s1 with cu.window := s.cu.window + 1 }
    else { s1 with cu.window := 0 }
  | .on =>
    let s1 := { s with cu.duty := nextDuty s.cu.p s.cu.duty P s.cu.setP }
    if s.cu.p.faultBand < absDiff P s.cu.setP then
      if 8 ≤ s.cu.band + 1 then tscFault 1 { s1 with cu.band := 8 }
      else { s1 with cu.band := s.cu.band + 1 }
    else { s1 with cu.band := 0 }
  | _ => s

/-- The purge timer has reached purge_time (R151, R152). -/
def purgeDone (s : State) : State :=
  let s1 := { s with cu.purgeT := .stopped, cu.pendingOn := false }
  let s2 := if s.cu.tsc = .purging then { s1 with cu.tsc := .off } else s1
  if s.cu.pendingOn then tscFromOff s2 else s2

/-! ## The demand record (7.1) -/

/-- Flood's part of a write (R139). -/
def writeFlood (d : Dem) (s : State) : State :=
  match d with
  | .unchanged => s
  | .on => floodFresh { s with cu.floodDem := true }
  | .off => floodOff { s with cu.floodDem := false }

/-- TSC's part of a write (R139). -/
def writeTsc (d : Dem) (s : State) : State :=
  match d with
  | .unchanged => s
  | .on => tscFresh { s with cu.tscDem := true }
  | .off => tscOff { s with cu.tscDem := false }

/-- Mist's part of a write (R139, R154). -/
def writeMist (d : Dem) (s : State) : State :=
  match d with
  | .unchanged => s
  | .on => { s with cu.mistDem := true }
  | .off => { s with cu.mistDem := false }

/-- A write of the demand record (R139): the set pressure, clamped, then each channel. -/
def coolantWrite (flood tsc mist : Dem) (pressure : Option Nat) (s : State) : State :=
  let s1 := match pressure with
    | some p => setPressure (max 100 (min 700 p)) s
    | none => s
  writeMist mist (writeTsc tsc (writeFlood flood s1))

/-- The STOP reaction's write (R141, R198). -/
def coolantAllOff (s : State) : State := coolantWrite .off .off .off none s

/-- CU at TRIP and RESTART (R155). -/
def coolantTrip (s : State) : State := { s with cu := .cleared s.cu.p }

/-! ## What the level, the filter and the overloads do -/

/-- LEVEL_MIN comes to read BELOW (R144, R152): the dry timers of what runs start; a dry_time of 0 faults at
once. -/
def levelFell (s : State) : State :=
  let s1 :=
    if floodRuns s then
      if s.cu.p.dryTime = 0 then floodFault 4 s else { s with cu.floodDryT := .start s.cu.p.dryTime }
    else s
  if s1.cu.pump then tscDryStart s1 else s1

/-- LEVEL_MIN comes to read ABOVE (R144, R152). -/
def levelRose (s : State) : State :=
  { s with cu.floodDryT := .stopped, cu.tscDryT := .stopped }

/-- The scaled value of channel n. -/
def scaledOf (s : State) (n : Fin 7) : Nat := s.am.chans[n].scaled

/-- LEVEL_MIN changed (R144). -/
def levelChanged (s : State) : State :=
  let s1 := levelNote .coolantLevelLow (!levelOk s) 0 (scaledOf s 5) s
  if levelOk s1 then levelRose s1 else levelFell s1

/-- FILTER_WARN changed (R153). -/
def filterWarnChanged (s : State) : State :=
  levelNote .tscFilterWarn (filterWarn s) (tscSeq s) (scaledOf s 3) s

/-- FILTER_BLOCK changed (R153). -/
def filterBlockChanged (s : State) : State :=
  if filterBlock s then
    let s1 := match s.cu.tsc with
      | .waitSpindle | .ramping | .on | .suspended => tscFaultEntry s
      | _ => s
    riseHold .tscFilterBlocked (tscSeq s) (scaledOf s 3) s1
  else fall .tscFilterBlocked s

/-- FLOOD_MIN changed (R143). PROVING becomes ON by the closing rules of the event. -/
def floodMinChanged (s : State) : State :=
  if !floodMin s && s.cu.flood == .on then floodFault 1 s else s

/-- The flood pump overload I30 changed (R143). -/
def floodOverloadChanged (active : Bool) (s : State) : State :=
  if active && floodRuns s then floodFault 2 s else s

/-- The TSC pump overload I31 changed (R152). -/
def tscOverloadChanged (active : Bool) (s : State) : State :=
  if active && s.cu.pump then tscFault 2 s else s

end Sys2Proof.Machine
end

