-- ==== Sys2Proof/Machine/Reactions.lean ====
section
/-! DEFINITION. Flow control (R25, R26), the flush (R13), STOP and TRIP as SQ and PI take them (R12, R14,
R46, R47), the ends of a homing (R72, R73, R74), and the STOP and TRIP reactions (R198, R200) with the raises
that deliver them. -/

namespace Sys2Proof.Machine

/-! ## Flow control and the drained report -/

/-- Evaluation of the flow state (R25). -/
def flowEval (s : State) : State :=
  match s.sq.flow with
  | .go =>
    if s.sq.flowHigh ≤ s.sq.recs.length then
      queueReport (.flowStop s.sq.recs.length) { s with sq.flow := .stopped }
    else s
  | .stopped =>
    if s.sq.recs.length ≤ s.sq.flowLow then
      queueReport (.flowGo s.sq.recs.length) { s with sq.flow := .go }
    else s

/-- The drained test (R26). -/
def drainTest (s : State) : State :=
  if s.sq.armed && s.sq.recs.isEmpty && queueAxesAtRest s then
    queueReport (.drained s.sq.lastSeq) { s with sq.armed := false }
  else s

/-! ## Flush -/

/-- Every axis owned by QUEUE becomes owned by NONE (R13, R24). -/
def dropQueueOwners (s : State) : State :=
  mapAx (fun _ a => if a.owner = .queue then { a with owner := .none } else a) s

/-- The records, the current record and the drained flag go (R13). -/
def clearRecords (s : State) : State :=
  { s with sq.recs := [], sq.current := false, sq.dwellLeft := 0, sq.waiting := false, sq.handed := false,
           sq.armed := false }

/-- PI drops its move, its rate and the hold record (R46, R47). -/
def piDrop (s : State) : State :=
  { s with pi.move := none, pi.ret := none, pi.r := 0, pi.target := 0, pi.braking := false, pi.ahead := none,
           pi.hold := none }

/-- The change to IDLE with the flush of R13: QUEUE_STATE is queued before FLOW_GO. -/
def flushIdle (s : State) : State :=
  flowEval (setQState .idle (dropQueueOwners (piDrop (clearRecords s))))

/-- The current record is a GEAR record (R12). -/
def gearRecordCurrent (s : State) : Bool :=
  match currentRec s with
  | some ⟨_, .gear _⟩ => true
  | _ => false

/-- A STOP as SQ acts on it (R12): a GEAR record's shift is abandoned, and a queue that enters STOPPING with the
rate already 0 flushes at once (R46). -/
def sqStop (s : State) : State :=
  match s.sq.st with
  | .running | .holding | .returning =>
    let s1 := setQState .stopping s
    let s2 := if gearRecordCurrent s1 then abandonShift s1 else s1
    if s2.pi.r = 0 then flushIdle s2 else s2
  | .held => flushIdle s
  | .idle | .stopping => s

/-- The TRIP reaction on SQ and PI (R14, R47). -/
def sqTrip (s : State) : State := if s.sq.st = .idle then piDrop s else flushIdle s

/-! ## Ends of a homing -/

def HomeReason.num : HomeReason → Nat
  | .travel => 0 | .index => 1 | .limit => 2 | .aborted => 3

/-- The reason of a failure (R73): LIMIT whenever a limit of the axis is active. -/
def homeReason (s : State) (a : Axis) (r : HomeReason) : HomeReason := if limitActive s a then .limit else r

/-- A homing fails (R73): the reason and the phase reached are recorded and the phase becomes ENDING. -/
def homeFail (a : Axis) (r : HomeReason) (s : State) : State :=
  updAx a (fun k => { k with hFail := some (homeReason s a r, k.phase), phase := .ending }) s

/-- The homing is in WAIT_RELEASE, SEARCH, SEARCH_STOP or LATCH (R74). -/
def homeAbortable (p : HomePhase) : Bool :=
  p == .waitRelease || p == .search || p == .searchStop || p == .latch

/-- The STOP reaction on one homing (R74). -/
def homeAbort (s : State) (a : Axis) : State :=
  if homeAbortable (s.ax.get a).phase then homeFail a .aborted s else s

/-- The state of a failed homing ends (R73): NONE and UNREFERENCED. The recorded failure stays until it is reported. -/
def homeClose (a : Axis) (s : State) : State :=
  updAx a (fun k => { k with phase := .none, owner := .none, refd := k.refd && k.hFail.isNone,
                             hVel := 0, hRem := 0 }) s

/-- The failure recorded for a homing that has ended is reported (R73): REFERENCE_FAILED, then HOME_DONE. -/
def homeReport (s : State) (a : Axis) : State :=
  match (s.ax.get a).phase, (s.ax.get a).hFail with
  | .none, some (r, ph) =>
    queueReport (.homeDone a (.failed r ph))
      (latch (.referenceFailed a) 0 r.num (updAx a (fun k => { k with hFail := none }) s))
  | _, _ => s

/-- A failed homing ends (R73). -/
def homeEnd (a : Axis) (s : State) : State := homeReport (homeClose a s) a

/-- A homing completes (R72): REFERENCED and HOME_DONE OK. -/
def homeOk (a : Axis) (s : State) : State :=
  queueReport (.homeDone a (.ok (s.ax.get a).p.homePosition))
    (updAx a (fun k => { k with phase := .none, owner := .none, refd := true, hVel := 0, hRem := 0 }) s)

/-- The TRIP reaction on one homing (R74). A failure is reported after the reaction (R195). -/
def homeTrip (s : State) (a : Axis) : State :=
  match (s.ax.get a).phase with
  | .none => s
  | .settle => homeOk a s
  | .ending => homeClose a s
  | _ => homeClose a (homeFail a .aborted s)

/-! ## The STOP reaction -/

/-- The deliveries of the STOP reaction (R198), SQ first. HYD_PRESSURE_LOW's abandons a shift in MESHING too: the model's
choice (assumption log, entry 45). -/
def stopDeliveries (s : State) : State :=
  let s1 := abandonShift (spindleStopSpeed (sqStop s))
  endAllJogs .panic (allAxes.foldl homeAbort (coolantAllOff s1))

/-- The STOP reaction with the change of the machine state (R198): none in TRIPPED. -/
def reactStop (s : State) : State :=
  match s.cn.machine with
  | .tripped => s
  | .ready => stopDeliveries { s with cn.machine := .stopping }
  | .stopping => stopDeliveries s

/-- A STOP-class raise with its reaction (R195, R198). -/
def raiseStop (c : Cond) (seq : Nat) (value : Int) (s : State) : State := reactStop (latch c seq value s)

/-- The raw of a STOP-class level entry rises, with its raise, when it was false (R194). -/
def riseStop (c : Cond) (seq : Nat) (value : Int) (s : State) : State :=
  if rawOf s c then s else raiseStop c seq value (setRaw c true s)

/-! ## The TRIP reaction -/

/-- The axis channels at TRIP (R62, R64): outputs 0 and DRIVE_SATURATED falls. The saturation count becomes 0 and stands
still in TRIPPED: the model's choice (assumption log, entry 43). -/
def axesTrip (s : State) : State :=
  allAxes.foldl (fun s a => fall (.driveSaturated (.axis a)) s)
    (mapAx (fun _ k => { k with out := 0, satCount := 0 }) s)

/-- PP at TRIP (R180): every jog is dropped and every PENDANT-owned axis becomes NONE. -/
def jogsDrop (s : State) : State :=
  mapAx (fun _ k => if k.owner = .pendant then { k with owner := .none } else k)
    { s with pp.jogs := s.pp.jogs.map fun a _ => Jog.still (s.ax.get a).setpoint }

/-- The deliveries of the TRIP reaction (R200), SQ first. -/
def tripDeliveries (s : State) : State :=
  let s1 := sguTrip (fall .hydPressureLow (clampsTrip (axesTrip (sqTrip s))))
  allAxes.foldl homeTrip (jogsDrop (coolantTrip s1))

/-- A TRIP-class raise with its reaction (R195, R200). The REFERENCE_FAILED of the homings that the reaction has ended
are raised when every block has it. -/
def raiseTrip (c : Cond) (seq : Nat) (value : Int) (s : State) : State :=
  let s1 := latch c seq value s
  if s.cn.machine = .tripped then s1
  else allAxes.foldl homeReport (tripDeliveries { s1 with cn.machine := .tripped })

/-- The raw of a TRIP-class level entry rises, with its raise, when it was false (R194). -/
def riseTrip (c : Cond) (seq : Nat) (value : Int) (s : State) : State :=
  if rawOf s c then s else raiseTrip c seq value (setRaw c true s)

/-- A raise of any class with its reaction (R195). -/
def raise (c : Cond) (seq : Nat) (value : Int) (s : State) : State :=
  match c.cls with
  | .note => latch c seq value s
  | .hold => raiseHold c seq value s
  | .stop => raiseStop c seq value s
  | .trip => raiseTrip c seq value s

/-! ## Raises of the Clamp Controller and the supply -/

/-- The seq of a MOVE that waits for the axis at R17 step 3, or of a CLAMP record current for the axis, else 0
(R96). Such a MOVE still counts as waiting while a HOLD keeps the queue HELD: the model's choice (assumption log,
entry 42). -/
def clampSeq (s : State) (c : ClampAxis) : Nat :=
  match currentRec s with
  | some ⟨q, .move m⟩ => if s.sq.waiting && m.legs.any (fun l => l.1 == clampAxis c) then q else 0
  | some ⟨q, .clamp k _⟩ => if k = c then q else 0
  | _ => 0

/-- A release need from MOVE dispatch, a jog or a homing (Table 5-4): in FAULT it raises CLAMP_FAULT value 2. -/
def moveNeed (c : ClampAxis) (seq : Nat) (s : State) : State :=
  if s.cn.machine ≠ .tripped ∧ (s.cc.get c).policy ≠ .never ∧ (s.cc.get c).st = .fault then
    raiseStop (.clampFault c) seq 2 s
  else releaseNeed c s

/-- A release need for an axis; W is always RELEASED (R89). -/
def axisNeed (a : Axis) (seq : Nat) (s : State) : State :=
  match clampOfAxis a with
  | some c => moveNeed c seq s
  | none => s

/-- A clamp operation times out (R96, R97): FAULT, the grant returned, CLAMP_FAULT with the value given. -/
def clampTimedOut (c : ClampAxis) (value : Int) (s : State) : State :=
  raiseStop (.clampFault c) (clampSeq s c) value
    (hydReturn (.axis c)
      (updClamp c (fun k => { k with st := .fault, follow := .none, granted := false, op := .stopped }) s))

/-- The clamped sensor has come on for an axis meant to be free (R98). -/
def clampLost (c : ClampAxis) (s : State) : State :=
  let k := s.cc.get c
  if k.policy = .never then s
  else if k.st = .released then
    raiseStop (.clampLost c) (axisSeq s (clampAxis c)) 0
      (updClamp c (fun k => { k with st := .fault, idle := 0 }) s)
  else if k.st = .clampWait ∧ k.fromFault = false then
    raiseStop (.clampLost c) (axisSeq s (clampAxis c)) 1
      (hydWithdraw (.axis c) (updClamp c (fun k => { k with st := .fault }) s))
  else s

/-- The supply becomes LOW with the cause given (R101). The STOP reaction of its raise abandons a shift in MESHING: the
model's choice (assumption log, entry 45). -/
def supplyLow (cause : Int) (s : State) : State :=
  riseStop .hydPressureLow 0 cause { s with hs.st := .low, hs.startT := .stopped }

/-- The sensor check of R106 and R185: made once, when both sensors of the axis have been delivered. -/
def clampCheck (c : ClampAxis) (s : State) : State :=
  if (s.cc.get c).checked || !clampSensorsSettled s c then s
  else
    updClamp c
      (fun k => { k with checked := true,
                         st := if k.st = .clamped ∧ k.policy ≠ .never ∧
                                  ¬(clampedSensor s c = true ∧ releasedSensor s c = false) then .fault
                               else k.st }) s

end Sys2Proof.Machine
end

