-- ==== Sys2Proof/Machine/Gear.lean ====
section
/-! DEFINITION. The gear shift (section 6.5) and the mesh table (section 6.6): start, preparation, orienting,
strokes, mesh rocking, settling, success and failure, learning, misses and aging, and the loss of the spindle
drive (R115). -/

namespace Sys2Proof.Machine

/-! ## The mesh table -/

/-- Circular distance of two angles (R131). -/
def circDist (cpr a b : Nat) : Nat :=
  let d := ((a : Int) - b) % (cpr : Int)
  let e := ((b : Int) - a) % (cpr : Int)
  (min d e).toNat

/-- An entry of the key given within the tolerance of an angle. -/
def meshNear (cpr tol : Nat) (k : MeshKey) (angle : Nat) (m : MeshEntry) : Bool :=
  m.key == k && decide (circDist cpr m.angle angle ≤ tol)

/-- The nearest of the entries near an angle, the one nearer the front when two are equally near (R132). -/
def meshNearest (cpr angle : Nat) : List MeshEntry → Option MeshEntry
  | [] => none
  | m :: ms =>
    match meshNearest cpr angle ms with
    | some n => if circDist cpr n.angle angle < circDist cpr m.angle angle then some n else some m
    | none => some m

/-- Learning (R132): the table after the angle has been learned for the key. -/
def meshLearn (cpr tol stamp : Nat) (k : MeshKey) (angle : Nat) (t : List MeshEntry) : List MeshEntry :=
  let near := t.filter (meshNear cpr tol k angle)
  let far := t.filter fun m => !meshNear cpr tol k angle m
  match meshNearest cpr angle near with
  | some m =>
    let others := (near.erase m).foldl (fun h e => h + e.hits) 0
    ⟨k, angle, min 255 (min 255 (m.hits + 1) + others), 0, stamp⟩ :: far
  | none => ⟨k, angle, 1, 0, stamp⟩ :: t.take 11

/-- The first entry of a key and angle has one miss more, and is removed at its third (R133). -/
def meshMiss (k : MeshKey) (angle : Nat) : List MeshEntry → List MeshEntry
  | [] => []
  | m :: ms =>
    if m.key = k ∧ m.angle = angle then (if 3 ≤ m.misses + 1 then ms else { m with misses := m.misses + 1 } :: ms)
    else m :: meshMiss k angle ms

/-- Aging (R134). -/
def meshAging (age count : Nat) (t : List MeshEntry) : List MeshEntry :=
  if age = 0 then t else t.filter fun m => decide (count - m.stamp ≤ age)

/-- Compaction at a write of mesh_tol (R135): each entry kept removes the later ones of its key near it. The
fuel is the table's length. -/
def meshCompact (cpr tol : Nat) : Nat → List MeshEntry → List MeshEntry
  | 0, _ => []
  | _ + 1, [] => []
  | n + 1, m :: ms => m :: meshCompact cpr tol n (ms.filter fun e => !meshNear cpr tol m.key m.angle e)

/-! ## The shift record -/

def Shift.att (h : Shift) : Cyl → Nat
  | .a => h.attA | .b => h.attB

def Shift.start (h : Shift) : Cyl → Option Int
  | .a => h.startA | .b => h.startB

def Shift.key (h : Shift) : Cyl → Option MeshKey
  | .a => h.keyA | .b => h.keyB

def Shift.setAtt (h : Shift) (c : Cyl) (n : Nat) : Shift :=
  match c with
  | .a => { h with attA := n }
  | .b => { h with attB := n }

def Shift.setStart (h : Shift) (c : Cyl) (p : Option Int) : Shift :=
  match c with
  | .a => { h with startA := p }
  | .b => { h with startB := p }

def Shift.setKey (h : Shift) (c : Cyl) (k : Option MeshKey) : Shift :=
  match c with
  | .a => { h with keyA := k }
  | .b => { h with keyB := k }

/-- Changes the shift record. -/
def updShift (f : Shift → Shift) (s : State) : State := { s with sgu.shift := s.sgu.shift.map f }

/-- The target end sensor of a cylinder is on. -/
def targetOn (s : State) (r : Range) (c : Cyl) : Bool := endSensor s c (rangeEnd r c)

/-- The target end of a cylinder is showing (R117, R121). -/
def targetShown (s : State) (r : Range) (c : Cyl) : Bool := shownEnd s c == some (rangeEnd r c)

/-- The key of a stroke that begins now (R121). -/
def strokeKey (s : State) (r : Range) (c : Cyl) : Option MeshKey :=
  (shownEnd s c.opp).map fun o => ⟨c, rangeEnd r c, o⟩

/-! ## Positioning (R122) -/

/-- POSITIONING is entered from OFF. -/
def enterPositioning (s : State) : State :=
  if s.sgu.st = .off then
    setSpindle .positioning
      { s with sgu.pSet := s.sgu.pos, sgu.pPrev := s.sgu.pos, sgu.pRem := 0, sgu.posTarget := s.sgu.pos }
  else s

/-- A move to a target position count. -/
def positionTo (t : Int) (s : State) : State :=
  let s1 := enterPositioning s
  { s1 with sgu.posTarget := t, sgu.posMoving := true,
            sgu.positionT := if s1.sgu.pSet = t then .start s1.sgu.p.positionTime else .stopped }

/-- The positioning in hand stops where its setpoint stands (R125). -/
def positionHold (s : State) : State :=
  { s with sgu.posTarget := s.sgu.pSet, sgu.posMoving := false, sgu.pRem := 0, sgu.positionT := .stopped,
           sgu.dwellT := .stopped }

/-- The way from the spindle angle to an entry's angle by the shorter way round (R121). -/
def shorterWay (cpr entry angle : Nat) : Int :=
  let d := ((entry : Int) - angle) % (cpr : Int)
  if d ≤ ((cpr / 2 : Nat) : Int) then d else d - cpr

/-! ## Strokes -/

/-- STROKE_WAIT: GEAR's STROKE request joins the FIFO (R123). -/
def strokeWait (s : State) : State := hydJoin .gear .stroke { s with sgu.gear := .strokeWait }

/-- A stroke of a cylinder begins in ORIENTING (R121). -/
def beginStroke (c : Cyl) (s : State) : State :=
  match s.sgu.shift with
  | none => s
  | some h =>
    let key := strokeKey s h.target c
    let h1 := { (((h.setAtt c 0).setStart c none).setKey c key) with cyl := c, late := false, entry := none }
    let found : Option (MeshEntry × Nat) :=
      match key, spindleAngle s with
      | some k, some a => (s.sgu.mesh.find? fun m : MeshEntry => m.key == k).map fun m => (m, a)
      | _, _ => none
    match found with
    | some (m, a) =>
      positionTo (s.sgu.pos + shorterWay s.sgu.p.cpr m.angle a)
        { s with sgu.gear := .orienting, sgu.shift := some { h1 with entry := some m } }
    | none => strokeWait { s with sgu.gear := .orienting, sgu.shift := some h1 }

/-- SETTLING begins with its timer from 0 (R127). Its tests are made by the closing rules of the event. -/
def enterSettling (s : State) : State :=
  { s with sgu.gear := .settling, sgu.settleT := .start s.sgu.p.settleTime }

/-- The first stroke is chosen at the end of PREPARING (R121). -/
def chooseStroke (s : State) : State :=
  match s.sgu.shift with
  | none => s
  | some h =>
    let s1 := { s with sgu.prepareT := .stopped }
    if !targetShown s h.target .a then beginStroke .a s1
    else if !targetShown s h.target .b then beginStroke .b s1
    else enterSettling s1

/-- The offset of attempt k, in jog steps (R125). -/
def attemptOffset : Nat → Int
  | 1 => 1 | 2 => -1 | 3 => 2 | 4 => -2 | 5 => 4 | 6 => -4 | 7 => 8 | 8 => -8 | _ => 0

/-- The next attempt of MESHING for the cylinder in hand (R125). -/
def nextAttempt (s : State) : State :=
  match s.sgu.shift with
  | none => s
  | some h =>
    let k := h.att h.cyl + 1
    let h1 := { (h.setAtt h.cyl k) with total := h.total + 1 }
    let start := (h.start h.cyl).getD s.sgu.pos
    positionTo (start + attemptOffset k * s.sgu.p.jogStep)
      { s with sgu.shift := some h1, sgu.dwellT := .stopped }

/-- MESHING is entered. A target end sensor that is already on gives success by the closing rules, with no
attempt (R124). -/
def enterMeshing (s : State) : State :=
  match s.sgu.shift with
  | none => s
  | some h =>
    let s1 := { s with sgu.gear := .meshing, sgu.strokeT := .stopped }
    if targetOn s h.target h.cyl then s1 else nextAttempt s1

/-- The position a stroke starts at (R124). -/
def strokeStartPos (s : State) : Int := if s.sgu.st = .positioning then s.sgu.pSet else s.sgu.pos

/-- GEAR receives the grant (R124, R127). A late disengage of a cylinder not yet stroked takes its key at the grant: the
model's choice (assumption log, entry 40). -/
def strokeGranted (s : State) : State :=
  match s.sgu.shift with
  | none => s
  | some h =>
    if h.late then
      let h1 := if (h.start h.cyl).isSome then h
        else (h.setStart h.cyl (some (strokeStartPos s))).setKey h.cyl (strokeKey s h.target h.cyl)
      enterMeshing { s with sgu.shift := some h1 }
    else
      { s with sgu.gear := .stroking, sgu.shift := some (h.setStart h.cyl (some (strokeStartPos s))),
               sgu.strokeT := .start s.sgu.p.strokeTime }

/-- The miss rule for the pre-positioning entry in hand (R133); the entry is done with. -/
def applyMiss (s : State) : State :=
  match s.sgu.shift with
  | none => s
  | some h =>
    let s1 := updShift (fun h => { h with entry := none }) s
    match h.entry with
    | some m => if 1 ≤ h.att h.cyl then { s1 with sgu.mesh := meshMiss m.key m.angle s.sgu.mesh } else s1
    | none => s1

/-- Learning at a success (R132). -/
def applyLearn (s : State) : State :=
  match s.sgu.shift with
  | none => s
  | some h =>
    match h.key h.cyl, spindleAngle s with
    | some k, some a =>
      { s with sgu.mesh := meshLearn s.sgu.p.cpr s.sgu.p.meshTol s.sgu.shiftCount k a s.sgu.mesh }
    | _, _ => s

/-- A stroke succeeds (R126). -/
def strokeSuccess (s : State) : State :=
  match s.sgu.shift with
  | none => s
  | some h =>
    let s1 := applyLearn (applyMiss (positionHold { s with sgu.strokeT := .stopped }))
    let s2 := hydReturn .gear s1
    if h.cyl = .a ∧ h.late = false ∧ targetShown s h.target .b = false then beginStroke .b s2
    else enterSettling (updShift (fun h => { h with late := false }) s2)

/-! ## Ends of a shift -/

/-- Codes of the reasons (Table 10-1). -/
def ShiftReason.num : ShiftReason → Nat
  | .prepare => 0 | .position => 1 | .mesh => 2 | .late => 3 | .sensor => 4

/-- Steps 1 to 4 of a failure (R129), the report of step 6 aside. -/
def shiftFailSteps (s : State) : State :=
  let s1 := applyMiss (hydWithdraw .gear (hydReturn .gear s))
  let s2 := if s1.sgu.st = .positioning then spindleOff s1 else s1
  stopShiftTimers { s2 with sgu.gear := .fault }

/-- A shift fails (R129). -/
def shiftFail (r : ShiftReason) (s : State) : State :=
  match s.sgu.shift with
  | none => s
  | some h =>
    queueReport (.gearDone (.failed r h.cyl (h.att h.cyl) h.total) h.target none h.origin)
      (raiseStop .gearShiftFailed h.origin r.num { shiftFailSteps s with sgu.shift := none })

/-- SETTLING completes (R128). -/
def shiftSuccess (s : State) : State :=
  match s.sgu.shift with
  | none => s
  | some h =>
    let s1 := { s with sgu.gear := .engaged h.target, sgu.lastRange := h.target }
    let s2 := if s1.sgu.st = .positioning then spindleOff s1 else s1
    let n := s.sgu.shiftCount
    let s3 :=
      if n < 4294967295 then
        { s2 with sgu.shiftCount := n + 1, sgu.mesh := meshAging s.sgu.p.meshAge (n + 1) s.sgu.mesh }
      else s2
    let s4 := queueReport (.gearDone (.ok s3.sgu.shiftCount h.total) h.target (some h.target) h.origin) s3
    stopShiftTimers { s4 with sgu.shift := none }

/-- A late disengage of a cylinder, or the failure LATE (R127). -/
def lateDisengage (c : Cyl) (s : State) : State :=
  match s.sgu.shift with
  | none => s
  | some h =>
    if h.att c < 8 then
      strokeWait { s with sgu.shift := some { h with cyl := c, late := true }, sgu.settleT := .stopped }
    else shiftFail .late s

/-- The opposite end sensor of a cylinder is on together with its target end (R127). -/
def oppositeOn (s : State) (r : Range) (c : Cyl) : Bool :=
  endSensor s c (rangeEnd r c).opp && targetOn s r c

/-- The tests of SETTLING (R127), cylinder A first. -/
def settleTest (s : State) : Option State :=
  match s.sgu.shift with
  | none => none
  | some h =>
    if !targetOn s h.target .a then some (lateDisengage .a s)
    else if !targetOn s h.target .b then some (lateDisengage .b s)
    else if oppositeOn s h.target .a || oppositeOn s h.target .b then some (shiftFail .sensor s)
    else none

/-- A shift starts (R119, R120). Cylinder A counts as in hand until a stroke begins: the model's choice (assumption log,
entry 39). -/
def startShift (r : Range) (origin : Nat) (s : State) : State :=
  let wasEngaged := (engagedRange s).isSome
  let s1 := { s with
    sgu.gear := .preparing, sgu.reqSpeed := 0,
    sgu.lastRange := (engagedRange s).getD s.sgu.lastRange,
    sgu.prepareT := .start s.sgu.p.prepareTime,
    sgu.shift := some { target := r, origin := origin, cyl := .a, attA := 0, attB := 0, startA := none,
                        startB := none, keyA := none, keyB := none, entry := none, total := 0,
                        late := false } }
  if wasEngaged || s.sgu.st == .fault then leaveEngaged s1 else { s1 with sgu.target := 0 }

/-! ## The drive ready input (R115) -/

/-- The spindle states by the code of Table 10-1 and Table 6-1. -/
def SpindleState.num : SpindleState → Nat
  | .off => 0 | .accel => 1 | .atSpeed => 2 | .decel => 3 | .positioning => 4 | .fault => 5

/-- SPINDLE_NOT_TURNING of a drive that faults under a started FPR MOVE (R37): `old` is the state at the loss, because
the STOP reaction of SPINDLE_DRIVE_FAULT has taken the queue out of RUNNING since (assumption log, entry 12). -/
def fprDriveLost (old s : State) : State :=
  if turning old ∧ old.sq.st = .running ∧ fprStarted old = true then
    raiseHold .spindleNotTurning (moveSeq old) old.sgu.sAct s
  else s

/-- The drive ready input goes off (R115). -/
def driveLost (s : State) : State :=
  if spindleEnable s then
    let s1 := riseStop .spindleDriveFault 0 s.sgu.st.num { s with sgu.faultFrom := s.sgu.st }
    let s2 := { s1 with sgu.reqSpeed := 0, sgu.target := 0, sgu.ramped := 0, sgu.out := 0 }
    fprDriveLost s
      (if (engagedRange s).isSome then { s2 with sgu.st := .fault }
       else { s2 with sgu.st := .off, sgu.posMoving := false, sgu.positionT := .stopped })
  else s

/-- I2 has changed (R115). -/
def spindleReadyChanged (s : State) : State :=
  if spindleReady s then fall .spindleDriveFault s else driveLost s

/-- The gear end sensors have been delivered after a hardware reset (R137, R185). -/
def gearFirstRead (s : State) : State :=
  if s.sgu.gearSet || !gearSensorsSettled s then s
  else
    let s1 := { s with sgu.gearSet := true }
    match s.sgu.gear, consistentRange s with
    | .unknown, some r => { s1 with sgu.gear := .engaged r, sgu.lastRange := r }
    | _, _ => s1

end Sys2Proof.Machine
end

