-- ==== Sys2Proof/Machine/Queue.lean ====
section
/-! DEFINITION. Dispatch and completion of records (section 1.4), the holds and resumes of sections 1.3, 2.6
and 2.7, and START and RESUME as the host and the pendant give them (R7, R8, R10). -/

namespace Sys2Proof.Machine

/-! ## Completion -/

/-- The head record completes (R16): it leaves its slot, and the flow state and the drained flag are
evaluated. -/
def completeHead (s : State) : State :=
  match s.sq.recs with
  | [] => s
  | r :: rs =>
    drainTest (flowEval
      { s with sq.recs := rs, sq.current := false, sq.dwellLeft := 0, sq.waiting := false,
               sq.handed := false, sq.lastSeq := r.seq, pi.move := none })

/-- An END MARK completes (R24). -/
def completeEndMark (s : State) : State :=
  match s.sq.recs with
  | [] => s
  | r :: rs =>
    let s1 := queueReport (.markReached r.seq) s
    let s2 := flowEval
      { s1 with sq.recs := rs, sq.current := false, sq.dwellLeft := 0, sq.waiting := false,
                sq.handed := false, sq.lastSeq := r.seq }
    drainTest (dropQueueOwners (setQState .idle (piDrop s2)))

/-! ## MOVE at dispatch (R17) -/

/-- The setpoint of an axis. -/
def setpointOf (s : State) (a : Axis) : Int := (s.ax.get a).setpoint

/-- The legs of a MOVE from the start positions given. -/
def legsFrom (start : Axis → Int) (m : MoveRec) : List Leg := m.legs.map fun l => ⟨l.1, start l.1, l.2⟩

/-- The current MOVE is started at phase 0 (R17). -/
def startMove (m : MoveRec) (s : State) : State :=
  { s with
    pi.move := some ⟨m.motion, m.n, m.sRef.getD 1, legsFrom (setpointOf s) m, 0⟩
    pi.r := 0
    sq.waiting := false }

/-- The lowest-indexed listed axis that is not REFERENCED (R17 step 1). -/
def unreferenced (s : State) (m : MoveRec) : Option Axis :=
  (m.legs.find? fun l => !(s.ax.get l.1).refd).map fun l => l.1

/-- The lowest-indexed listed axis whose end position lies outside its soft limits (R17 step 2). -/
def outsideLimits (s : State) (m : MoveRec) : Option (Axis × Int) :=
  m.legs.find? fun l => decide (l.2 < (s.ax.get l.1).p.softMin) || decide ((s.ax.get l.1).p.softMax < l.2)

/-- Every listed axis is RELEASED (R17 step 3). -/
def legsReleased (s : State) (m : MoveRec) : Bool := m.legs.all fun l => released s l.1

/-- Step 4 of R17. -/
def moveStep4 (q : Nat) (m : MoveRec) (s : State) : State :=
  if m.motion = .fpr ∧ turning s = false then
    raiseHold .spindleNotTurning q s.sgu.sAct { s with sq.waiting := false }
  else startMove m s

/-- Step 3 of R17: a release need for each listed axis that is not RELEASED, in index order. -/
def moveNeeds (q : Nat) (m : MoveRec) (s : State) : State :=
  m.legs.foldl (fun s l => if released s l.1 then s else axisNeed l.1 q s) { s with sq.waiting := true }

/-- The steps of R17 for the current MOVE. -/
def moveChecks (q : Nat) (m : MoveRec) (s : State) : State :=
  match unreferenced s m with
  | some a => raiseStop (.notReferenced a) q 0 s
  | none =>
    match outsideLimits s m with
    | some (a, e) => raiseStop (.softLimit a) q e s
    | none =>
      if legsReleased s m then moveStep4 q m s
      else
        let s1 := moveNeeds q m s
        if legsReleased s1 m && s1.sq.waiting then moveStep4 q m s1 else s1

/-! ## Dispatch of the other kinds -/

/-- A SPINDLE record at dispatch (R20, R113). Where the gear is not ENGAGED a no-wait record completes when
GEAR_NOT_ENGAGED has been raised, before the STOP reaction reaches the queue (assumption log, entry 10). -/
def spindleRecord (r : QRec) (speed : Nat) (dir : Dir) (wait : Bool) (s : State) : State :=
  if (engagedRange s).isSome then
    let s1 := speedCommand speed dir r.seq s
    if wait then s1 else completeHead s1
  else
    let s1 := latch .gearNotEngaged r.seq speed s
    reactStop (if wait then s1 else completeHead s1)

/-- A GEAR record is handed to SGU (R20). -/
def gearHand (q : Nat) (r : Range) (s : State) : State :=
  if engagedRange s = some r then completeHead s
  else startShift r q { s with sq.handed := true }

/-- The need of a CLAMP record or a CLAMP_SET (R22, R94). -/
def clampAction (c : ClampAxis) (clamp : Bool) (s : State) : State :=
  if clamp then clampNeed c s else releaseNeed c s

/-- Dispatch of the head record (R16 to R24). -/
def dispatchHead (s : State) : State :=
  match s.sq.recs with
  | [] => s
  | r :: _ =>
    let s1 := { s with sq.current := true, sq.waiting := false, sq.handed := false, sq.dwellLeft := 0 }
    match r.body with
    | .move m => moveChecks r.seq m s1
    | .dwell n => { s1 with sq.dwellLeft := n }
    | .spindle speed dir wait => spindleRecord r speed dir wait s1
    | .gear g => if shifting s1 then s1 else gearHand r.seq g s1
    | .coolant f t m p wait =>
      let s2 := coolantWrite f t m p s1
      if wait then s2 else completeHead s2
    | .clamp c k =>
      if (s1.cc.get c).policy = .never then completeHead s1 else clampAction c k s1
    | .mark fin => if fin then s1 else completeHead (queueReport (.markReached r.seq) s1)

/-! ## Completion of records in progress -/

/-- A COOLANT record's channels that it waits on are all ON (R21). -/
def coolantMet (s : State) (f t : Dem) : Bool :=
  (f != .on || s.cu.flood == .on) && (t != .on || s.cu.tsc == .on)

/-- Every channel a COOLANT record still waits on that is not yet ON is in FAULT (R21). -/
def coolantFaulted (s : State) (f t : Dem) : Bool :=
  (f != .on || s.cu.flood == .on || s.cu.flood == .fault) &&
    (t != .on || s.cu.tsc == .on || s.cu.tsc == .fault)

/-- The queue lets a non-move record run (R9). -/
def nonMoveRuns (s : State) : Bool := s.sq.st == .running || s.sq.st == .holding

/-- The current record completes or goes on, where its condition holds now (R20 to R24). -/
def recordStep (s : State) : Option State :=
  match currentRec s with
  | some ⟨_, .spindle speed _ true⟩ =>
    if nonMoveRuns s && (if speed = 0 then s.sgu.st == .off else s.sgu.st == .atSpeed) then
      some (completeHead s)
    else none
  | some ⟨q, .gear r⟩ =>
    if nonMoveRuns s && !shifting s then
      if s.sq.handed then (if engagedRange s = some r then some (completeHead s) else none)
      else some (gearHand q r s)
    else none
  | some ⟨_, .coolant f t _ _ true⟩ =>
    if (nonMoveRuns s || s.sq.st == .held) && coolantMet s f t then some (completeHead s) else none
  | some ⟨_, .clamp c k⟩ =>
    if nonMoveRuns s && (s.cc.get c).st == (if k then .clamped else .released) then some (completeHead s)
    else none
  | some ⟨_, .mark true⟩ =>
    if nonMoveRuns s && queueAxesAtRest s then some (completeEndMark s) else none
  | _ => none

/-- A non-move record is in progress (R9, R21, R24). -/
def inProgress (s : State) : Bool :=
  match currentRec s with
  | some ⟨_, .spindle ..⟩ | some ⟨_, .gear _⟩ | some ⟨_, .clamp ..⟩ | some ⟨_, .mark _⟩ => true
  | some ⟨_, .coolant f t _ _ _⟩ => !coolantFaulted s f t
  | _ => false

/-! ## Hold and resume -/

/-- The hold record made at the change to HELD (R48). -/
def newHold (s : State) : HoldRec :=
  { held := match currentRec s with
      | some ⟨q, .move _⟩ =>
        some (q, match s.pi.move with
          | some m => m.p
          | none => 0)
      | _ => none
    pos := s.ax.map fun _ k => k.setpoint
    displaced := ⟨false, false, false, false, false⟩ }

/-- HOLDING becomes HELD (R9, R48, R53): a return move is dropped and an existing hold record kept. -/
def becomeHeld (s : State) : State :=
  let s1 := setQState .held s
  { s1 with pi.hold := some (s1.pi.hold.getD (newHold s1)), pi.ret := none }

/-- The queue enters RUNNING from HELD or RETURNING (R10, R50, R52): the hold record is discarded and a MOVE
that was not started is checked again from the first step of R17. -/
def resumeRun (s : State) : State :=
  let s1 := setQState .running s
  let s2 := { s1 with pi.hold := none, pi.ret := none, pi.r := 0, sq.waiting := false }
  match currentRec s2, s2.pi.move with
  | some ⟨q, .move m⟩, none => moveChecks q m s2
  | _, _ => s2

/-- The displaced axes in index order. -/
def displacedAxes (s : State) : List Axis :=
  match s.pi.hold with
  | some h => allAxes.filter fun a => h.displaced.get a
  | none => []

/-- The hold position of an axis. -/
def holdPos (s : State) (a : Axis) : Int :=
  match s.pi.hold with
  | some h => h.pos.get a
  | none => (s.ax.get a).setpoint

/-- The duration of the return move (R51). -/
def returnPeriods (s : State) : Nat :=
  (displacedAxes s).foldl
    (fun n a => max n (divCeil (holdPos s a - (s.ax.get a).setpoint).natAbs (s.pi.returnSpeed / 1000))) 1

/-- The return move (R51). -/
def returnMove (s : State) : ActiveMove :=
  { motion := .rapid, n := returnPeriods s, sRef := 1, p := 0
    legs := (displacedAxes s).map fun a => ⟨a, (s.ax.get a).setpoint, holdPos s a⟩ }

/-- A RESUME that is taken (R10). -/
def takeResume (s : State) : State :=
  if (displacedAxes s).isEmpty then resumeRun s
  else setQState .returning { s with pi.ret := some (returnMove s), pi.r := 0 }

/-- A START that is taken in IDLE (R7). The head record is dispatched by the closing rules of the event. -/
def takeStart (s : State) : State :=
  setQState .running
    (mapAx (fun _ k => if k.owner = .none then { k with owner := .queue } else k) s)

/-- A RESUME with its reply code (R10). -/
def resumeRequest (s : State) : Code × State :=
  if s.sq.st ≠ .held then (.wrongState, s)
  else if s.cn.machine ≠ .ready then (.wrongState, s)
  else if anyRaw s .hold || anyRaw s .stop || anyRaw s .trip then (.wrongState, s)
  else if anyOwner s .pendant then (.busy, s)
  else (.ok, takeResume s)

/-- A START with its reply code (R7, R8). -/
def startRequest (s : State) : Code × State :=
  match s.sq.st with
  | .idle =>
    if s.cn.machine = .tripped then (.tripped, s)
    else if s.cn.machine = .stopping then (.wrongState, s)
    else if anyRaw s .hold || anyRaw s .stop then (.wrongState, s)
    else if anyOwner s .pendant || anyOwner s .homing then (.busy, s)
    else (.ok, takeStart s)
  | .held => resumeRequest s
  | .running | .returning => (.ok, s)
  | .holding | .stopping => (.wrongState, s)

/-- A pendant START (R7, R8): a failed check has no effect. -/
def pendantStart (s : State) : State := (startRequest s).2

end Sys2Proof.Machine
end

