-- ==== Sys2Proof/Machine/Path.lean ====
section
/-! DEFINITION. The Path Interpolator's work in a path period (chapter 2): rate target, lookahead, braking, rate
step, advance, carry and setpoints. -/

namespace Sys2Proof.Machine

/-! ## Stop points and lookahead (section 2.3) -/

/-- A record that is passed over when a boundary is classified (R38). -/
def passedOver (b : RecBody) : Bool :=
  match b with
  | .spindle _ _ wait => !wait
  | .coolant _ _ _ _ wait => !wait
  | .mark fin => !fin
  | _ => false

/-- The boundary at the end of a MOVE is open for a carry (R38): the records behind it, and how many may still
be examined. -/
def openBoundary (s : State) (m : MoveRec) : Nat → List QRec → Bool
  | 0, _ => false
  | _ + 1, [] => false
  | k + 1, r :: rs =>
    match r.body with
    | .move m' => !m.stop && m'.motion == m.motion && legsReleased s m'
    | b => !m.stop && passedOver b && openBoundary s m k rs

/-- The lookahead walk (R39) behind a MOVE: what it adds to Rem, and whether it ended at a real stop point. A
stop-flagged MOVE that is the 16th record examined ends the walk at a real stop point: the model's choice (assumption
log, entry 30). -/
def walk (s : State) : Nat → MoveRec → List QRec → Nat × Bool
  | 0, m, _ => (0, m.stop)
  | _ + 1, m, [] => (0, m.stop)
  | k + 1, m, r :: rs =>
    if m.stop then (0, true)
    else
      match r.body with
      | .move m' =>
        if m'.motion = m.motion ∧ legsReleased s m' = true then
          ((walk s k m' rs).1 + m'.n * 65536, (walk s k m' rs).2)
        else (0, true)
      | b => if passedOver b then walk s k m rs else (0, true)

/-- The current record's MOVE. -/
def currentMove (s : State) : Option MoveRec :=
  match currentRec s with
  | some ⟨_, .move m⟩ => some m
  | _ => none

/-- Rem and whether the walk ended at a real stop point, for the queue's move (R39). -/
def lookahead (s : State) (m : ActiveMove) : Nat × Bool :=
  match currentMove s with
  | some c =>
    let w := if s.sq.st = .stopping then (0, true) else walk s 16 c s.sq.recs.tail
    (m.n * 65536 - m.p + w.1, w.2)
  | none => (m.n * 65536 - m.p, true)

/-! ## Rate (sections 2.1 and 2.2) -/

/-- The rate target (R33, Table 2-3). -/
def rateTarget (s : State) (m : ActiveMove) : Nat :=
  match s.sq.st with
  | .running =>
    match m.motion with
    | .rapid => s.pi.rapid * 65536 / 100
    | .feed => s.pi.feed * 65536 / 100
    | .fpr => min 131072 (65536 * s.pi.feed * s.sgu.sAct / (100 * m.sRef))
  | .returning => s.pi.feed * 65536 / 100
  | _ => 0

/-- The braking distance (R40). -/
def brakeDistance (r pathRamp : Nat) : Nat := r * r / (2 * pathRamp)

/-- Braking holds (R40). -/
def brakes (rem r pathRamp : Nat) : Bool := decide (rem ≤ brakeDistance r pathRamp + r)

/-- A rate moves toward its target by a step and stops at it (R32). -/
def rateToward (r target step : Nat) : Nat := if r < target then min (r + step) target else max (r - step) target

/-- The step of a rate that brakes in RUNNING or RETURNING, with its creep floor (R32). -/
def brakeStep (r pathRamp : Nat) : Nat := max (r - pathRamp) pathRamp

/-- The rate step (R32, Table 2-2). A rate that has braked against the boundary still ahead (`slows`) falls and does
not rise toward the target (R40). -/
def rateStep (p : PathInt) (st : QState) (target : Nat) (braking slows : Bool) : Nat :=
  match st with
  | .running | .returning =>
    if braking then brakeStep p.r p.pathRamp
    else if slows then min (brakeStep p.r p.pathRamp) (rateToward p.r target p.pathRamp)
    else rateToward p.r target p.pathRamp
  | .holding =>
    if braking then p.r - max p.holdRamp p.pathRamp else rateToward p.r target p.holdRamp
  | .stopping =>
    if braking then p.r - max p.stopRamp p.pathRamp else rateToward p.r target p.stopRamp
  | _ => p.r

/-! ## Setpoints (R44, R57, R58) -/

/-- The owner's setpoint, taken by an axis that is RELEASED (R58). -/
def giveSetpoint (a : Axis) (z : Int) (s : State) : State :=
  if released s a then
    updAx a (fun k => { k with setpoint := z, atRest := k.atRest && z == k.setpoint }) s
  else s

/-- The position of a leg at phase p of a move of n periods (R44). -/
def legAt (n p : Nat) (l : Leg) : Int := l.start + divRound ((l.fin - l.start) * p) (n * 65536)

/-- The setpoints of a move at a phase. -/
def giveMove (n p : Nat) (legs : List Leg) (s : State) : State :=
  legs.foldl (fun s l => giveSetpoint l.ax (legAt n p l) s) s

/-! ## Carry and completion (R18, R42, R43) -/

/-- In a carry, dispatches the records that come to the head before the incoming MOVE (R18). -/
def dispatchPassed : Nat → State → State
  | 0, s => s
  | n + 1, s =>
    match s.sq.recs with
    | r :: _ =>
      if nonMoveRuns s && passedOver r.body then dispatchPassed n (dispatchHead s) else s
    | [] => s

/-- Where a carry leaves an axis: the outgoing end position for an axis the outgoing move listed, else the held
setpoint (R43). -/
def carryStart (s : State) (out : List Leg) (a : Axis) : Int :=
  match out.find? fun l => l.ax == a with
  | some l => l.fin
  | none => setpointOf s a

/-- The incoming MOVE of a refused carry: current, not started, rate 0 (R18, R43). -/
def refuseCarry (s : State) : State :=
  { s with sq.current := true, sq.waiting := false, sq.handed := false, pi.move := none, pi.r := 0 }

/-- The advance of the queue's move to phase p at rate r (R42, R43). The fuel bounds the boundaries that one
period can reach. -/
def advanceMove : Nat → ActiveMove → Nat → Nat → State → State
  | 0, m, _, r, s => { s with pi.move := some { m with p := m.n * 65536 }, pi.r := r }
  | fuel + 1, m, p, r, s =>
    if p < m.n * 65536 then
      giveMove m.n p m.legs { s with pi.move := some { m with p := p }, pi.r := r }
    else
      let s0 := giveMove m.n (m.n * 65536) m.legs s
      let carries := match currentMove s with
        | some c => s.sq.st != QState.stopping && openBoundary s c 16 s.sq.recs.tail
        | none => false
      if carries then
        let s1 := dispatchPassed 64 (completeHead { s0 with pi.r := r })
        match s1.sq.recs with
        | ⟨q, .move c⟩ :: _ =>
          if nonMoveRuns s1 then
            match unreferenced s1 c with
            | some a => raiseStop (.notReferenced a) q 0 (refuseCarry s1)
            | none =>
              match outsideLimits s1 c with
              | some (a, e) => raiseStop (.softLimit a) q e (refuseCarry s1)
              | none =>
                if c.motion = Motion.fpr ∧ turning s1 = false then
                  raiseHold .spindleNotTurning q s1.sgu.sAct (refuseCarry s1)
                else
                  let m' : ActiveMove :=
                    ⟨c.motion, c.n, c.sRef.getD 1, legsFrom (carryStart s1 m.legs) c, 0⟩
                  advanceMove fuel m' (p - m.n * 65536) r
                    { s1 with sq.current := true, sq.waiting := false, sq.handed := false,
                              pi.move := some m', pi.r := r }
          else { s1 with pi.r := 0 }
        | _ => { s1 with pi.r := 0 }
      else completeHead (fall .queueStarved { s0 with pi.r := 0 })

/-- The advance of the return move (R52, R53). -/
def advanceReturn (m : ActiveMove) (p r : Nat) (s : State) : State :=
  if p < m.n * 65536 then
    giveMove m.n p m.legs { s with pi.ret := some { m with p := p }, pi.r := r }
  else
    let s1 := giveMove m.n (m.n * 65536) m.legs
      { s with pi.ret := none, pi.r := 0,
               pi.hold := s.pi.hold.map fun h => { h with displaced := ⟨false, false, false, false, false⟩ } }
    if s.sq.st = .returning then resumeRun s1 else s1

/-! ## The period's work -/

/-- QUEUE_STARVED in a path period (R41). -/
def starvedTest (braking real : Bool) (r target : Nat) (s : State) : State :=
  if s.sq.st = .running ∧ braking = true ∧ real = false then
    riseNote .queueStarved (moveSeq s) s.sq.recs.length s
  else if braking = false ∧ r = target then fall .queueStarved s
  else s

/-- The boundary that braking has held against in an earlier period, with the rate not 0 since, is still the one
ahead (R40). -/
def slowsOn (p : PathInt) (rem : Nat) (real : Bool) : Bool := p.r != 0 && p.ahead == some (rem, real)

/-- The boundary to be held against in the next period (R40). -/
def nextAhead (st : QState) (falls : Bool) (rem r : Nat) (real : Bool) : Option (Nat × Bool) :=
  if falls && (st == .running || st == .returning) then some (rem - r, real) else none

/-- PI's work on a move (R31): `rem` and `real` are the lookahead's. -/
def moveWork (m : ActiveMove) (isReturn : Bool) (rem : Nat) (real : Bool) (s : State) : State :=
  let target := rateTarget s m
  let braking := brakes rem s.pi.r s.pi.pathRamp
  let slows := slowsOn s.pi rem real
  let r := rateStep s.pi s.sq.st target braking slows
  let s1 := starvedTest braking real r target
    { s with pi.target := target, pi.braking := braking,
             pi.ahead := nextAhead s.sq.st (braking || slows) rem r real }
  if isReturn then advanceReturn m (m.p + r) r s1 else advanceMove 4 m (m.p + r) r s1

/-- The queue state lets PI advance a phase (R31). -/
def pathRuns (q : QState) : Bool := q == .running || q == .holding || q == .stopping || q == .returning

/-- A current DWELL counts one period in RUNNING (R19). -/
def dwellCount (s : State) : State :=
  match currentRec s with
  | some ⟨_, .dwell _⟩ => if s.sq.st = .running then { s with sq.dwellLeft := s.sq.dwellLeft - 1 } else s
  | _ => s

/-- PI's work in a path period (R31). -/
def pathWork (s : State) : State :=
  if pathRuns s.sq.st then
    match s.pi.ret, s.pi.move with
    | some m, _ => moveWork m true (m.n * 65536 - m.p) true s
    | none, some m => moveWork m false (lookahead s m).1 (lookahead s m).2 s
    | none, none => dwellCount s
  else s

end Sys2Proof.Machine
end

