-- ==== Sys2Proof/Machine/AxisLoop.lean ====
section
/-! DEFINITION. The work of a path period after PI's (chapters 3, 4, 6 and 8): compensation, homing profile, jogs
and handwheel follower, follow-up, the position loops with their checks, and the spindle's measurement, ramp and
positioning. -/

namespace Sys2Proof.Machine

/-! ## Compensation (section 4.3) -/

/-- A point of a bank. -/
def Bank.point (b : Bank) (i : Nat) : Int := (b.pts[i]?.getD none).getD 0

/-- The target of an ACTIVE bank at a setpoint (R84). -/
def bankTarget (b : Bank) (g : Geom) (s : Int) : Int :=
  if s ≤ g.origin then b.point 0
  else if g.origin + (g.count - 1) * g.spacing ≤ s then b.point (g.count - 1)
  else
    let i := (divFloor (s - g.origin) g.spacing).toNat
    let f := s - g.origin - i * g.spacing
    match g.mode with
    | .step => b.point i
    | .linear => b.point i + divRound ((b.point (i + 1) - b.point i) * f) g.spacing.toNat

/-- The target correction of an axis (R85). -/
def compTarget (b : Bank) (refd : Bool) (prev : Int) : Int :=
  match b.st, b.geom with
  | .active, some g => if refd then bankTarget b g prev else 0
  | _, _ => 0

/-- CS's work for one axis in a path period (R85, R86). -/
def compStep (b : Bank) (refd : Bool) (prev : Int) : Bank :=
  let t := compTarget b refd prev
  { b with target := t, c := approach b.c t b.slew }

/-- CS's work in a path period. -/
def compWork (s : State) : State :=
  { s with cs := s.cs.map fun a b => compStep b (s.ax.get a).refd (s.ax.get a).prev }

/-! ## Homing (section 3.4) -/

/-- The JOG step of an axis (R69, R170). -/
def aStep (p : AxisParams) : Nat := max 1 (p.jogAccel / 1000)

/-- The sign of home_dir (Table 3-3). -/
def homeSign (p : AxisParams) : Int := if p.homeDir = 0 then -1 else 1

/-- The target velocity of a home phase (R69 to R72). -/
def homeVelocity (k : AxisCh) : Int :=
  match k.phase with
  | .search => homeSign k.p * k.p.searchSpeed
  | .latch => -(homeSign k.p) * k.p.latchSpeed
  | _ => 0

/-- The homing profile moves the setpoint (R69). While R58 holds the setpoint the remainder gathers what the profile
counts, and the setpoint takes it when the axis is RELEASED again (assumption log, entry 24). -/
def homeProfile (free : Bool) (k : AxisCh) : AxisCh :=
  let v := approach k.hVel (homeVelocity k) (aStep k.p)
  let r := k.hRem + v
  if free then { k with hVel := v, hRem := r - divTrunc r 1000 * 1000, setpoint := k.setpoint + divTrunc r 1000 }
  else { k with hVel := v, hRem := r }

/-- An active home switch ends SEARCH (R70). -/
def searchSwitch (a : Axis) (s : State) : State :=
  if (s.ax.get a).phase = .search ∧ homeSwitch s a = true then updAx a (fun k => { k with phase := .searchStop }) s
  else s

/-- The steps of LATCH that the home switch makes (R71). -/
def latchSwitch (a : Axis) (s : State) : State :=
  let k := s.ax.get a
  if k.phase = .latch then
    match k.hStep with
    | .active => if homeSwitch s a then updAx a (fun k => { k with hStep := .inactive }) s else s
    | .inactive =>
      if homeSwitch s a then s
      else updAx a (fun k => { k with hStep := .index, hFrom := k.setpoint, latch := none }) s
    | .index => s
  else s

/-- A home switch input has changed (R70, R71): the channel acts on it in the event (R184). -/
def homeSwitchChanged (a : Axis) (s : State) : State := latchSwitch a (searchSwitch a s)

/-- LATCH begins (R71). -/
def beginLatch (a : Axis) (s : State) : State :=
  latchSwitch a
    (updAx a (fun k => { k with phase := .latch, hStep := .active, hFrom := k.setpoint, latch := none }) s)

/-- The shift of R72: the latched index comes to lie at home_position. -/
def homeShift (k : AxisCh) (latch : Int) : AxisCh :=
  let d := k.p.homePosition - latch
  { k with enc := fit32 (k.enc + d), setpoint := k.setpoint + d, prev := k.prev + d, latch := none,
           phase := .settle }

/-- The checks of a homing phase at the start of a path period, before the profile runs (R70 to R72). A home switch that
was already active when SEARCH began ends it here, in its first period; a change acts at its delivery
(`homeSwitchChanged`). -/
def homeChecks (a : Axis) (s : State) : State :=
  let k := s.ax.get a
  match k.phase with
  | .search =>
    if homeSwitch s a then searchSwitch a s
    else if limitActive s a then homeFail a .limit s
    else s
  | .latch =>
    let s1 := latchSwitch a s
    match k.hStep, k.latch with
    | .index, some l => updAx a (fun k => homeShift k l) s1
    | _, _ => if limitActive s a then homeFail a .limit s1 else s1
  | _ => s

/-- The checks of a homing phase after the setpoint has moved (R70, R71). -/
def homeMoved (a : Axis) (s : State) : State :=
  let k := s.ax.get a
  let moved := (k.setpoint - k.hFrom).natAbs
  match k.phase with
  | .search => if k.p.homeTravel < moved then homeFail a .travel s else s
  | .searchStop => if k.hVel = 0 then beginLatch a s else s
  | .latch =>
    if k.hStep = .index then (if k.p.indexWindow < moved then homeFail a .index s else s)
    else if k.p.homeTravel < moved then homeFail a .travel s
    else s
  | _ => s

/-- The phase moves the setpoint by the homing profile (R69). -/
def profileRuns (p : HomePhase) : Bool := p != .none && p != .waitRelease

/-- The homing of one axis in a path period. -/
def homeWork (a : Axis) (s : State) : State :=
  if profileRuns (s.ax.get a).phase then
    let s1 := homeChecks a s
    homeMoved a (updAx a (homeProfile (released s a)) s1)
  else s

/-! ## Button jogs and the handwheel follower (sections 8.7 and 8.8) -/

/-- The PANIC step of an axis (R170). -/
def panicStep (p : AxisParams) (pi : PathInt) : Nat := max (aStep p) (aStep p * pi.stopRamp / pi.pathRamp)

/-- The target velocity of a button jog (R170 step 1). It is not clamped to the 200 000 pu/s of Table 8-1: the model's
choice (assumption log, entry 49). -/
def jogTarget (s : State) (p : AxisParams) (j : Jog) : Int :=
  let rapid := match s.pp.last with
    | some f => f.rapid
    | none => false
  let v : Int := ((if rapid then p.rapidJogSpeed * s.pi.rapid / 100 else p.jogSpeed * s.pi.feed / 100 : Nat) : Int)
  if j.fin ≠ .none then 0
  else
    match j.dir with
    | .plus => v
    | .minus => -v
    | .none => 0

/-- The limit that lies ahead of a button jog: true for soft_max (R171). -/
def limitAhead (j : Jog) : Option Bool :=
  if 0 < j.vel then some true
  else if j.vel < 0 then some false
  else
    match j.dir with
    | .plus => some true
    | .minus => some false
    | .none => none

/-- One period of a button jog's profile without a soft limit (R170). -/
def jogFree (target : Int) (step : Nat) (sp : Int) (j : Jog) : Int × Jog :=
  let v := approach j.vel target step
  let r := j.rem + v
  (sp + divTrunc r 1000, { j with vel := v, rem := r - divTrunc r 1000 * 1000, brk := false })

/-- The velocity of a button jog toward the limit ahead, in the direction of the limit (R171): `u` is the velocity
before the step and `t` where the step of R170 leads. Braking falls to a creep of one JOG step; a jog that has
braked against the limit does not gain speed again (section 8.7.1). -/
def limitedVelocity (braking brk : Bool) (a : Nat) (u t : Int) : Int :=
  let low : Int := max (u - a) a
  if braking then low else if brk then min low t else t

/-- One period of a button jog's profile toward the soft limit ahead (R171), in the direction of `plus`. At or beyond the
limit the target velocity is 0 and the setpoint does not move; that the velocity ramps to 0 there and the remainder is
kept meanwhile is the model's choice (assumption log, entry 54). -/
def jogLimited (target : Int) (step a : Nat) (limit : Int) (plus : Bool) (sp : Int) (j : Jog) : Int × Jog :=
  let sign : Int := if plus then 1 else -1
  if 0 ≤ sign * (sp - limit) then (sp, { j with vel := approach j.vel 0 step, brk := false })
  else
    let v := j.vel.natAbs
    let dist := sign * (limit - sp) * 1000 - sign * j.rem
    let braking := decide (dist ≤ (v * v / (2 * a) + v : Nat))
    let u := sign * limitedVelocity (braking && j.fin == .none) (j.brk && j.fin == .none) a v
      (sign * approach j.vel target step)
    let r := j.rem + u
    let sp' := sp + divTrunc r 1000
    if 0 < sign * u ∧ 0 ≤ sign * (sp' - limit) then (limit, { j with vel := 0, rem := 0, brk := false })
    else (sp', { j with vel := u, rem := r - divTrunc r 1000 * 1000,
                        brk := (braking || j.brk) && j.fin == .none && decide (0 < sign * u) })

/-- An ending jog whose velocity is 0 has ended (R172). -/
def jogEnded (j : Jog) : Jog := if j.fin ≠ .none ∧ j.vel = 0 then { j with dir := .none, fin := .none } else j

/-- A button jog's profile in a path period (R170, R171). -/
def jogProfile (s : State) (k : AxisCh) (j : Jog) : Int × Jog :=
  let a := aStep k.p
  let step := if j.fin = .panic then panicStep k.p s.pi else a
  let t := jogTarget s k.p j
  let r := match limitAhead j with
    | some plus =>
      if k.refd then jogLimited t step a (if plus then k.p.softMax else k.p.softMin) plus k.setpoint j
      else jogFree t step k.setpoint j
    | none => jogFree t step k.setpoint j
  (r.1, jogEnded r.2)

/-- PP's motion of one axis in a path period (R170, R175). -/
def jogWork (a : Axis) (s : State) : State :=
  let k := s.ax.get a
  let j := s.pp.jogs.get a
  if k.owner = .pendant ∧ released s a = true then
    match j.mode with
    | .button =>
      let r := jogProfile s k j
      updJog a (fun _ => r.2) (giveSetpoint a r.1 s)
    | .wheel => giveSetpoint a (approach k.setpoint j.wheel (k.p.hwSpeed / 1000 : Nat)) s
    | .none => s
  else s

/-- The owner's setpoint of one axis, or the follow-up in TRIPPED (R57, R64, R69). -/
def ownerWork (s : State) (a : Axis) : State :=
  if s.cn.machine = .tripped then
    updAx a (fun k => { k with setpoint := k.enc - (s.cs.get a).c }) s
  else
    match (s.ax.get a).owner with
    | .homing => homeWork a s
    | .pendant => jogWork a s
    | .none | .queue => s

/-! ## The position loop (sections 3.1 to 3.3) -/

/-- The following error and its flags (R60). -/
def errorOf (c : Int) (k : AxisCh) : AxisCh :=
  let e := k.setpoint + c - k.enc
  let inPos := decide (e.natAbs ≤ k.p.inposWindow)
  { k with e := e, inPos := inPos, atRest := inPos && k.setpoint == k.prev }

/-- The output before its clamp (R61, R122). -/
def loopOutput (kp kff : Nat) (e delta : Int) : Int := divTrunc (kp * e + kff * delta) 256

/-- The DAC's range (R61). -/
def clampOut (z : Int) : Int := clampInt (-32767) 32767 z

/-- DRIVE_SATURATED after a period whose unclamped output is z (R62): the new saturation count and the raw. -/
def saturation (d : Drive) (seq : Nat) (z : Int) (s : State) : State :=
  if clampOut z ≠ z then riseNote (.driveSaturated d) seq (limit32 z) s else s

/-- The saturation count after a period (R62). -/
def satNext (n : Nat) (z : Int) : Nat := if clampOut z ≠ z then 0 else min 20 (n + 1)

/-- The position loop of one axis: error, output, DRIVE_SATURATED and the following-error check (R60 to R63). -/
def axisLoop (s : State) (a : Axis) : State :=
  let k := errorOf (s.cs.get a).c (s.ax.get a)
  if s.cn.machine = .tripped then updAx a (fun _ => { k with out := 0 }) s
  else
    let z := loopOutput k.p.kp k.p.kff k.e (k.setpoint - k.prev)
    let n := satNext k.satCount z
    let s1 := saturation (.axis a) (axisSeq s a) z
      (updAx a (fun _ => { k with out := clampOut z, satCount := n }) s)
    let s2 := if n = 20 then fall (.driveSaturated (.axis a)) s1 else s1
    if k.p.feLimit < k.e.natAbs then raiseTrip (.followingError (.axis a)) (axisSeq s a) k.e s2 else s2

/-- The cause of HARD_LIMIT (R66): a limit is active, but for a pendant axis that did not move toward it. -/
def hardLimitCause (s : State) (a : Axis) : Bool :=
  let k := s.ax.get a
  if k.owner = .pendant then
    (limitPlus s a && decide (k.prev < k.setpoint)) || (limitMinus s a && decide (k.setpoint < k.prev))
  else limitActive s a

/-- HARD_LIMIT of one axis follows its cause (R66). -/
def hardLimitTest (s : State) (a : Axis) : State :=
  if hardLimitCause s a then
    riseStop (.hardLimit a) (axisSeq s a) (if limitPlus s a then 1 else 0) s
  else fall (.hardLimit a) s

/-- A homing in SETTLE completes when its velocity is 0 and the axis at rest (R72). -/
def settleHoming (s : State) (a : Axis) : State :=
  let k := s.ax.get a
  if k.phase = .settle ∧ k.hVel = 0 ∧ k.atRest = true then homeOk a s else s

/-- Some QUEUE-owned axis has come to rest since the state given (R60). -/
def cameToRest (old new : State) : Bool :=
  allAxes.any fun a => !(old.ax.get a).atRest && (new.ax.get a).atRest && (new.ax.get a).owner == .queue

/-- The previous setpoints take the setpoints (R60). -/
def prevWork (s : State) : State := mapAx (fun _ k => { k with prev := k.setpoint }) s

/-- The axis channels' work in a path period. -/
def axesWork (s : State) : State :=
  let s1 := allAxes.foldl ownerWork (compWork s)
  let s2 := allAxes.foldl axisLoop s1
  let s3 := allAxes.foldl settleHoming (allAxes.foldl hardLimitTest s2)
  prevWork (if cameToRest s1 s2 then drainTest s3 else s3)

/-! ## The spindle (sections 6.1, 6.2 and 6.5) -/

/-- S_act from the position counts of the last 17 periods (R111). -/
def speedOf (cpr : Nat) (delta : Int) : Nat :=
  let n := delta.natAbs * 60000 / (cpr * 16)
  if n ≤ 65535 then n else (Config.overflowSpeed n).toNat

/-- The measurement of a path period (R111). After a hardware reset S_act is first worked out in the 17th period, against
the count of the first: the model's choice (assumption log, entry 46). -/
def spindleMeasure (s : State) : State :=
  let hist := (s.sgu.pos :: s.sgu.hist).take 17
  match hist[16]? with
  | some old =>
    let d := s.sgu.pos - old
    { s with sgu.hist := hist, sgu.sAct := speedOf s.sgu.p.cpr d,
             sgu.measDir := if 0 < d then .cw else if d < 0 then .ccw else s.sgu.measDir }
  | none => { s with sgu.hist := hist }

/-- The ramp's aim (R110). -/
def rampAim (s : State) : Nat := if s.sgu.st = .accel then s.sgu.target * 1000 else 0

/-- The ramp of a path period (R110). -/
def spindleRamp (s : State) : State :=
  if s.sgu.st = .accel ∨ s.sgu.st = .decel then
    { s with sgu.ramped := rateToward s.sgu.ramped (rampAim s) s.sgu.p.accel }
  else s

/-- The at-speed band (R112). -/
def speedBand (target pct : Nat) : Nat := max 10 (target * pct / 100)

/-- ACCEL becomes AT_SPEED (R112). -/
def atSpeedTest (s : State) : State :=
  if s.sgu.st = .accel ∧ s.sgu.ramped = s.sgu.target * 1000 ∧
      absDiff s.sgu.sAct s.sgu.target ≤ speedBand s.sgu.target s.sgu.p.atSpeedPct then
    setSpindle .atSpeed s
  else s

/-- The unclamped spindle output of the speed command (R110). -/
def speedOutput (s : State) : Int :=
  let ratio := s.sgu.p.rangeRatio.get ((engagedRange s).getD s.sgu.lastRange)
  let motor := s.sgu.ramped / 1000 * ratio / 1000
  let z : Int := ((motor * 32767 / s.sgu.p.motorMax : Nat) : Int)
  if s.sgu.turnDir = .cw then z else -z

/-- The positioning setpoint moves toward its target (R122). -/
def positionStep (s : State) : State :=
  if s.sgu.pSet = s.sgu.posTarget then { s with sgu.pRem := 0 }
  else
    let r := s.sgu.pRem + s.sgu.p.orientSpeed * s.sgu.p.cpr
    let p := approach s.sgu.pSet s.sgu.posTarget (r / 60000 : Nat)
    if p = s.sgu.posTarget then
      { s with sgu.pSet := p, sgu.pRem := 0,
               sgu.positionT := if s.sgu.posMoving then .start s.sgu.p.positionTime else s.sgu.positionT }
    else { s with sgu.pSet := p, sgu.pRem := r % 60000 }

/-- The positioning's following error (R122). -/
def positionError (s : State) : Int := s.sgu.pSet - s.sgu.pos

/-- A positioning completes (R121, R122, R125). -/
def positionDone (s : State) : State :=
  if s.sgu.posMoving ∧ s.sgu.pSet = s.sgu.posTarget ∧ (positionError s).natAbs ≤ s.sgu.p.inpos then
    let s1 := { s with sgu.posMoving := false, sgu.positionT := .stopped }
    match s.sgu.gear with
    | .orienting => strokeWait s1
    | .meshing => { s1 with sgu.dwellT := .start s.sgu.p.meshDwell }
    | _ => s1
  else s

/-- The spindle's output of a path period with DRIVE_SATURATED instance 5 (R110, R122). -/
def spindleOutput (z : Int) (s : State) : State :=
  let n := satNext s.sgu.satCount z
  let s1 := saturation .spindle 0 z { s with sgu.out := clampOut z, sgu.satCount := n }
  if n = 20 then fall (.driveSaturated .spindle) s1 else s1

/-- The loop of POSITIONING (R122). -/
def positionLoop (s : State) : State :=
  let s1 := positionStep s
  let e := positionError s1
  let z := loopOutput s.sgu.p.kp s.sgu.p.kff e (s1.sgu.pSet - s1.sgu.pPrev)
  let s2 := spindleOutput z { s1 with sgu.pPrev := s1.sgu.pSet }
  if s.sgu.p.feLimit < e.natAbs then raiseTrip (.followingError .spindle) 0 e s2 else positionDone s2

/-- SGU's work in a path period (R110 to R112, R122). -/
def spindleWork (s : State) : State :=
  let s1 := spindleMeasure s
  if s.cn.machine = .tripped then s1
  else
    match s1.sgu.st with
    | .accel | .atSpeed | .decel =>
      let s2 := atSpeedTest (spindleRamp s1)
      spindleOutput (speedOutput s2) s2
    | .positioning => positionLoop s1
    | .off | .fault => spindleOutput 0 s1

/-! ## The period -/

/-- Clamp state codes (Table 5-1). -/
def ClampState.num : ClampState → Nat
  | .clamped => 0 | .releaseWait => 1 | .releasing => 2 | .released => 3 | .clampWait => 4
  | .clamping => 5 | .fault => 6

/-- What AXIS_STATUS shows of an axis after a path period (R75). -/
def takeSnap (s : State) (a : Axis) (k : AxisCh) : AxisSnap :=
  { owner := k.owner, refd := k.refd, phase := k.phase, setpoint := k.setpoint, enc := k.enc,
    c := (s.cs.get a).c, target := (s.cs.get a).target, e := k.e, out := k.out, inPos := k.inPos,
    atRest := k.atRest, limMinus := limitMinus s a, limPlus := limitPlus s a, homeSw := homeSwitch s a,
    clamp := (clampState s a).num, enable := driveEnable s }

/-- The end of a path period: AXIS_STATUS shows it from now on (R75). -/
def snapAll (s : State) : State := mapAx (fun a k => { k with snap := takeSnap s a k }) s

/-- The work of a path period (R31): PI, the axis channels with CS and the jogs, then the spindle. -/
def periodWork (s : State) : State := spindleWork (axesWork (pathWork s))

end Sys2Proof.Machine
end

