-- ==== Sys2Proof/Machine/Settle.lean ====
section
/-! DEFINITION. What follows in the event of a change. A rule of the spec that says "in the event in which …" or
"at once" is a closing rule here: it looks at the state and answers the state it leads to, or nothing. The
closing rules run after every command until none applies (assumption log, entry 1). -/

namespace Sys2Proof.Machine

/-! ## Clamps and supply -/

/-- HS gives the grant (R102). -/
def grantRule (s : State) : Option State :=
  match s.hs.st, s.hs.holder, s.hs.fifo with
  | .ready, none, r :: rs =>
    if s.cn.machine = .tripped then none
    else
      let s1 := { s with hs.holder := some r, hs.fifo := rs }
      some (match r.who with
        | .axis c => startClampOp c s1
        | .gear => strokeGranted s1)
  | _, _, _ => none

/-- A clamp's operation completes, a follow-on kept over a TRIP is applied, or an axis with a delay of 0 is
clamped (R93, R96, R97, R104). A kept follow-on of an axis that has left CLAMPED before the machine is READY stays: the
model's choice (assumption log, entry 36). -/
def clampRule (s : State) (c : ClampAxis) : Option State :=
  let k := s.cc.get c
  if releaseMet s c then some (releaseDone c s)
  else if clampMet s c then some (clampDone c s)
  else if s.cn.machine = .ready ∧ k.st = .clamped ∧ k.follow = .release then
    some (releaseNeed c (updClamp c (fun k => { k with follow := .none }) s))
  else if idleRuns s c ∧ k.delay = 0 ∧ s.cn.machine ≠ .tripped then
    some (clampNeed c (updClamp c (fun k => { k with idle := 0 }) s))
  else if !idleRuns s c ∧ k.idle ≠ 0 then some (updClamp c (fun k => { k with idle := 0 }) s)
  else none

/-- The pump follows its demand (R100). Demand is judged as a level, so that a demand present over a RESTART starts the
pump in the RESTART's event: the model's choice (assumption log, entry 35). -/
def pumpRule (s : State) : Option State :=
  match s.hs.st with
  | .pumpOff =>
    if s.cn.machine ≠ .tripped ∧ pumpDemand s = true then
      some { s with hs.st := .starting, hs.startT := .start s.hs.startTimeP, hs.offDelay := .stopped }
    else none
  | _ =>
    if pumpDemand s then
      (if s.hs.offDelay.on then some { s with hs.offDelay := .stopped } else none)
    else if s.hs.offDelay.on then none
    else if s.hs.offDelayP = 0 then some (pumpStop s)
    else some { s with hs.offDelay := .start s.hs.offDelayP }

/-- STARTING or LOW becomes READY (R101). -/
def supplyRule (s : State) : Option State :=
  if (s.hs.st = .starting ∨ s.hs.st = .low) ∧ hydMin s = true ∧ hydOverload s = false then
    some (fall .hydPressureLow { s with hs.st := .ready, hs.startT := .stopped })
  else none

/-! ## Spindle and gear -/

/-- The spindle's own changes (Table 6-2, R115). -/
def spindleRule (s : State) : Option State :=
  match s.sgu.st with
  | .decel =>
    if spindleStopped s then
      (if 0 < s.sgu.target then
        some (setSpindle .accel { s with sgu.turnDir := s.sgu.reqDir })
      else some (spindleOff s))
    else none
  | .fault => if spindleReady s ∧ s.sgu.sAct ≤ 10 then some (spindleOff s) else none
  | .off => if 0 < s.sgu.target then some (spindleStart s) else none
  | _ => none

/-- ENGAGED is lost (R118). The output of a DECEL that runs on uses the ratio of the range last engaged: the model's
choice (assumption log, entry 51). -/
def engagedRule (s : State) : Option State :=
  match engagedRange s with
  | some r =>
    if consistentWith s r then none
    else some (leaveEngaged { s with sgu.gear := .unknown, sgu.lastRange := r, sgu.lostRange := r.num })
  | none => none

/-- The cause of GEAR_POSITION_LOST (R118). -/
def gearLostCause (s : State) : Bool := s.sgu.gear == .unknown && (consistentRange s).isNone

/-- The cause of GEAR_OIL_LOW (R116). A grace time that is over stays over when oil_grace is raised: the model's choice
(assumption log, entry 47). -/
def oilLowCause (s : State) : Bool := !oilOk s && spindleRuns s && s.sgu.oilDone

/-- A STOP-class level entry follows its cause. -/
def levelRule (c : Cond) (cause : Bool) (value : Int) (s : State) : Option State :=
  if cause && !rawOf s c then some (riseStop c 0 value s)
  else if !cause && rawOf s c then some (fall c s)
  else none

/-- The overload time becomes 0 when it stops running (R116). -/
def overloadRule (s : State) : Option State :=
  if (!loadMax s || !spindleRuns s) && (s.sgu.overload != 0 || s.sgu.overDone) then
    some { s with sgu.overload := 0, sgu.overDone := false }
  else none

/-- The shift's own changes (R120, R124 to R127). -/
def shiftRule (s : State) : Option State :=
  match s.sgu.gear, s.sgu.shift with
  | .preparing, some _ =>
    if s.sgu.st = .off ∧ s.sgu.sAct ≤ 10 ∧ spindleReady s = true then some (chooseStroke s) else none
  | .stroking, some h => if targetOn s h.target h.cyl then some (strokeSuccess s) else none
  | .meshing, some h => if targetOn s h.target h.cyl then some (strokeSuccess s) else none
  | .settling, some _ => settleTest s
  | _, _ => none

/-! ## Coolant -/

/-- Flood is proved (R143). -/
def floodRule (s : State) : Option State :=
  if s.cu.flood = .proving ∧ floodMin s = true then
    some { s with cu.flood := .on, cu.proveT := .stopped }
  else none

/-- TSC follows the permit (R146, R147, R150). -/
def tscRule (s : State) : Option State :=
  match s.cu.tsc with
  | .waitSpindle => if permit s && levelOk s && !filterBlock s then some (tscRamp s) else none
  | .suspended => if permit s && s.cu.tscDem then some (tscResume s) else none
  | .ramping | .on => if permit s then none else some (tscSuspend s)
  | _ => none

/-! ## Homing and jogs -/

/-- A homing leaves WAIT_RELEASE or ends (R68, R73). A failure in WAIT_RELEASE ends when the axis is at rest, as any
other: the model's choice (assumption log, entry 33). -/
def homeRule (s : State) (a : Axis) : Option State :=
  let k := s.ax.get a
  match k.phase with
  | .waitRelease =>
    if released s a then
      some (updAx a (fun k => { k with phase := .search, hFrom := k.setpoint, hVel := 0, hRem := 0 }) s)
    else none
  | .ending => if k.hVel = 0 ∧ k.atRest = true then some (homeEnd a s) else none
  | _ => none

/-- A pendant jog is permitted (R166). -/
def jogPermitted (s : State) : Bool :=
  s.pp.st == .present && s.pp.armed && enableContact s && s.cn.machine == .ready &&
    (s.sq.st == .idle || s.sq.st == .held) &&
    (match s.pp.last with
      | some f => f.enable == .middle
      | none => false)

/-- The axis that the last frame selects. -/
def selected (s : State) : Option Axis := s.pp.last.bind fun f => f.sel

/-- The pendant's motion of an axis has ended (R169). -/
def jogOver (s : State) (a : Axis) : Bool :=
  let j := s.pp.jogs.get a
  match j.mode with
  | .button => j.dir == .none && j.vel == 0
  | .wheel => (s.ax.get a).setpoint == j.wheel
  | .none => true

/-- A PENDANT-owned axis is given back (R169). -/
def giveBackRule (s : State) (a : Axis) : Option State :=
  let k := s.ax.get a
  if k.owner = .pendant ∧ jogOver s a = true ∧ k.atRest = true ∧
      (selected s ≠ some a ∨ jogPermitted s = false) then
    some (updJog a (fun j => { j with mode := .none, dir := .none, fin := .none })
      (updAx a (fun k => { k with owner := if s.sq.st = .held then .queue else .none }) s))
  else none

/-! ## The queue and the machine state -/

/-- The queue's own changes (R9, R12, R16, R46). -/
def queueRule (s : State) : Option State :=
  match recordStep s with
  | some s1 => some s1
  | none =>
    match s.sq.st with
    | .running => if !s.sq.current && !s.sq.recs.isEmpty then some (dispatchHead s) else none
    | .holding => if s.pi.r = 0 ∧ inProgress s = false then some (becomeHeld s) else none
    | .stopping => if s.pi.r = 0 then some (flushIdle s) else none
    | _ => none

/-- The ready test is met (R199). -/
def readyTest (s : State) : Bool :=
  s.sq.st == .idle && s.sgu.st == .off && !shifting s && allAtRest s

/-- STOPPING becomes READY (R199). -/
def machineRule (s : State) : Option State :=
  if s.cn.machine = .stopping ∧ readyTest s = true then some { s with cn.machine := .ready } else none

/-! ## The closing rules together -/


/-- The first closing rule that applies. -/
def rules (s : State) : Option State :=
  (engagedRule s) <|> (levelRule .gearPositionLost (gearLostCause s) s.sgu.lostRange s) <|>
  (levelRule .gearOilLow (oilLowCause s) s.sgu.sAct s) <|> (overloadRule s) <|>
  (grantRule s) <|> (clampRule s .x) <|> (clampRule s .y) <|> (clampRule s .z) <|> (clampRule s .b) <|>
  (spindleRule s) <|> (shiftRule s) <|>
  (floodRule s) <|> (tscRule s) <|>
  (homeRule s .x) <|> (homeRule s .y) <|> (homeRule s .z) <|> (homeRule s .w) <|> (homeRule s .b) <|>
  (giveBackRule s .x) <|> (giveBackRule s .y) <|> (giveBackRule s .z) <|> (giveBackRule s .w) <|>
  (giveBackRule s .b) <|>
  (queueRule s) <|> (pumpRule s) <|> (supplyRule s) <|> (machineRule s)

/-- The closing rules run until none applies; the fuel is far above what one event can need. -/
def settle : Nat → State → State
  | 0, s => s
  | n + 1, s =>
    match rules s with
    | some s1 => settle n s1
    | none => s

/-- TSC does not flow without its permit at the end of an event (R146). -/
def tscGuard (s : State) : State := if tscFlows s && !permit s then tscSuspend s else s

/-- The end of an event: the closing rules, then R146's interlock. -/
def quiesce (s : State) : State := tscGuard (settle 512 s)

end Sys2Proof.Machine
end

