-- ==== Sys2Proof/Machine/Wire.lean ====
section
/-! DEFINITION. The frames the part sends (R209, R215): field bytes, CRC, replies, reports and pendant answers; the
transmitters (R161, R213); and `finish`, the end of every command. -/

namespace Sys2Proof.Machine

/-! ## Bytes -/

/-- One byte of a number. -/
def byteOf (n : Nat) : Byte := BitVec.ofNat 8 n

/-- Two bytes, high byte first (R209). -/
def bytes2 (n : Nat) : List Byte := [byteOf (n / 256), byteOf n]

/-- Four bytes, high byte first. -/
def bytes4 (n : Nat) : List Byte := [byteOf (n / 16777216), byteOf (n / 65536), byteOf (n / 256), byteOf n]

/-- A field's bytes (R215). Signed fields are in two's complement. -/
def WField.bytes : WField → List Byte
  | .u8 n => [byteOf n]
  | .u16 n => bytes2 n
  | .u32 n => bytes4 n
  | .i16 z => bytes2 (z % 65536).toNat
  | .i32 z => bytes4 (fit32 z % 4294967296).toNat

/-- The bytes of a list of fields. -/
def fieldBytes (l : List WField) : List Byte := l.flatMap WField.bytes

/-- A flag (R215). -/
def flag (b : Bool) : WField := .u8 (if b then 1 else 0)

/-- An optional field: its presence byte, and the field when it is present (R215). -/
def optField (f : Option WField) : List WField :=
  match f with
  | some v => [.u8 1, v]
  | none => [.u8 0]

/-- An optional group of fields behind one presence byte. -/
def optGroup (g : Option (List WField)) : List WField :=
  match g with
  | some l => .u8 1 :: l
  | none => [.u8 0]

/-- A list behind its count byte (R215). -/
def listField (l : List (List WField)) : List WField := .u8 l.length :: l.flatten

/-! ## The CRC (R209) -/

/-- One bit of the CRC. -/
def crcBit (c : Nat) : Nat := if 32768 ≤ c then ((2 * c) % 65536) ^^^ 0x1021 else 2 * c

/-- One byte of the CRC. -/
def crcByte (c : Nat) (b : Byte) : Nat := Nat.repeat crcBit 8 (c ^^^ (b.toNat * 256))

/-- The CRC of a byte string, from 0xFFFF. -/
def crc16 (l : List Byte) : Nat := l.foldl crcByte 0xFFFF

/-- A frame: start byte, LENGTH, KIND, TAG, body and CRC (R209). -/
def frameOf (kind tag : Nat) (body : List Byte) : List Byte :=
  let inner := byteOf (body.length + 2) :: byteOf kind :: byteOf tag :: body
  0x5A :: (inner ++ bytes2 (crc16 inner))

/-! ## Codes of the enumerated fields (R215) -/

def Code.num : Code → Nat
  | .ok => 0 | .unknownKind => 1 | .badLength => 2 | .outOfRange => 3 | .busy => 4 | .wrongState => 5
  | .queueFull => 6 | .tripped => 7 | .badCheck => 8 | .incomplete => 9

def causeNum : ResetCause → Nat
  | .power => 0 | .pin => 1 | .host => 2

def QState.num : QState → Nat
  | .idle => 0 | .running => 1 | .holding => 2 | .held => 3 | .returning => 4 | .stopping => 5

def Class.num : Class → Nat
  | .trip => 0 | .stop => 1 | .note => 2 | .hold => 3

def HomePhase.num : HomePhase → Nat
  | .none => 0 | .waitRelease => 1 | .search => 2 | .searchStop => 3 | .latch => 4 | .settle => 5
  | .ending => 6

def Cyl.num : Cyl → Nat
  | .a => 0 | .b => 1

def PendState.num : PendState → Nat
  | .absent => 0 | .present => 1 | .lost => 2 | .testing => 3

def PendCause.num : PendCause → Nat
  | .frame => 0 | .timeout => 1 | .testStart => 2 | .testEnd => 3

/-- The code and the distance of a line-test result (R179). -/
def LtResult.num : LtResult → Nat
  | .normal => 0 | .isOpen _ => 1 | .short _ => 2 | .failed => 3

def LtResult.distance : LtResult → Option Nat
  | .isOpen d | .short d => some d
  | _ => none

/-! ## Reports (Tables 10-3 and 11-8) -/

/-- The KIND of a report. -/
def Report.kindByte : Report → Nat
  | .hello .. => 0x80 | .raised .. => 0x81 | .cleared _ => 0x82 | .queueState .. => 0x83
  | .flowStop _ => 0x84 | .flowGo _ => 0x85 | .drained _ => 0x86 | .markReached _ => 0x87
  | .homeDone .. => 0x88 | .gearDone .. => 0x89 | .lineTestDone _ => 0x8A | .pendantState .. => 0x8B

/-- HOME_DONE's fields after the axis. -/
def HomeResult.fields : HomeResult → List WField
  | .ok p => .u8 0 :: (optField (some (.i32 p)) ++ optField none ++ optField none)
  | .failed r ph =>
    .u8 1 :: (optField none ++ optField (some (.u8 r.num)) ++ optField (some (.u8 ph.num)))

/-- GEAR_DONE's result code. -/
def GearResult.num : GearResult → Nat
  | .ok .. => 0 | .failed .. => 1 | .aborted => 2

/-- GEAR_DONE's fields that only some results have. -/
def GearResult.fields : GearResult → List WField
  | .ok count total =>
    optField (some (.u32 count)) ++ optField (some (.u8 total)) ++ [.u8 0, .u8 0, .u8 0, .u8 0]
  | .failed r c att total =>
    .u8 0 :: .u8 0 :: (optField (some (.u8 r.num)) ++ optField (some (.u8 c.num)) ++
      optField (some (.u8 att)) ++ optField (some (.u8 total)))
  | .aborted => [.u8 0, .u8 0, .u8 0, .u8 0, .u8 0, .u8 0]

/-- A range after a shift, 0 for UNKNOWN. -/
def rangeNum (r : Option Range) : Nat := (r.map Range.num).getD 0

/-- The fields of a report (Table 10-3). -/
def Report.fields : Report → List WField
  | .hello cause rate => [.u8 (causeNum cause), .u16 614, .u8 1, .u8 rate]
  | .raised c seq value => [.u8 c.code, .u8 c.inst, .u8 c.cls.num, .u16 seq, .i32 value]
  | .cleared c => [.u8 c.code, .u8 c.inst]
  | .queueState new prev cur count =>
    .u8 new.num :: .u8 prev.num ::
      (optField (cur.map fun p => .u16 p.1) ++ optField (cur.map fun p => .u8 p.2) ++ [.u8 count])
  | .flowStop n | .flowGo n => [.u8 n]
  | .drained q | .markReached q => [.u16 q]
  | .homeDone a r => .u8 (axisIdx a) :: r.fields
  | .gearDone r target after origin =>
    .u8 r.num :: .u8 target.num :: .u8 (rangeNum after) :: .u16 origin :: r.fields
  | .lineTestDone r => .u8 r.num :: optField (r.distance.map .u16)
  | .pendantState new prev cause => [.u8 new.num, .u8 prev.num, .u8 cause.num]

/-- The frame of a report entry (Table 11-8). -/
def reportFrame (e : RptEntry) : List Byte :=
  frameOf e.kind.kindByte 0 (fieldBytes (.u32 e.ts :: .u16 e.overran :: e.kind.fields))

/-! ## Replies (R211) -/

/-- The frame of a reply. -/
def replyFrame (r : Reply) : List Byte :=
  frameOf (r.kind + 0x40) r.tag (fieldBytes (.u8 r.ans.code.num :: r.ans.fields))

/-- The idle transmitter chooses (R213): the reply first, then the head of the report queue. -/
def transmit (s : State) : State :=
  match s.hlp.tx with
  | some _ => s
  | none =>
    match s.hlp.slot, s.rq with
    | some r, _ => { s with hlp.tx := some ⟨true, true, replyFrame r⟩ }
    | none, e :: _ => { s with hlp.tx := some ⟨false, true, reportFrame e⟩ }
    | none, [] => s

/-! ## Pendant answers (R161, R176) -/

/-- A lamp's two bits (Table 11-9). -/
inductive Lamp where
  | off | on | blink
deriving DecidableEq, Repr

def Lamp.num : Lamp → Nat
  | .off => 0 | .on => 1 | .blink => 2

/-- Some entry of class HOLD, STOP or TRIP is latched (Table 8-3). -/
def faultLatched (s : State) : Bool := allConds.any fun c => c.cls != .note && (condEntry s c).latched

/-- The five lamps (Table 8-3). -/
def lampHold (s : State) : Lamp :=
  if s.sq.st = .holding then .blink else if s.sq.st = .held then .on else .off

def lampJog (s : State) : Lamp :=
  if s.pp.refuseT.on then .blink else if anyOwner s .pendant then .on else .off

def lampFault (s : State) : Lamp :=
  if s.cn.machine = .tripped then .on else if faultLatched s then .blink else .off

def lampClip (s : State) : Lamp := if s.pp.clipT.on then .on else .off

def lampArmed (s : State) : Lamp :=
  if rawOf s .pendantEnableMismatch then .blink else if s.pp.armed then .on else .off

/-- The lamps as an answer carries them (Table 11-9). -/
def lampWord (s : State) : Nat :=
  (lampHold s).num + 4 * (lampJog s).num + 16 * (lampFault s).num + 64 * (lampClip s).num +
    256 * (lampArmed s).num

/-- The lowest-numbered line whose NEW flag is set (R176). -/
def freshLine (s : State) : Option (Fin 4) := [0, 1, 2, 3].find? fun i : Fin 4 => s.pp.lines[i].fresh

/-- The frame of an answer (Table 11-9). -/
def answerFrame (s : State) (seq : Nat) (line : Option (Fin 4)) : List Byte :=
  frameOf 0x60 seq
    (bytes2 (lampWord s) ++
      match line with
      | some i => byteOf (i.val + 1) :: s.pp.lines[i].text.map byteOf
      | none => [0])

/-- A due answer is built and sent when the pendant transmitter is idle (R161). -/
def pendantSend (s : State) : State :=
  match s.pp.tx, s.pp.last with
  | none, some f =>
    if s.pp.answerDue = true ∧ s.pp.st = .present then
      let line := freshLine s
      let lines := match line with
        | some i => s.pp.lines.set i ⟨s.pp.lines[i].text, false⟩
        | none => s.pp.lines
      { s with pp.tx := some (answerFrame s f.seq line), pp.lines := lines, pp.answerDue := false }
    else s
  | _, _ => s

/-! ## The end of a command -/

/-- What follows every command in its event: the closing rules, then the two transmitters. -/
def finish (s : State) : State := transmit (pendantSend (quiesce s))

end Sys2Proof.Machine
end

