-- ==== Sys2Proof/Machine/PendantPort.lean ====
section
/-! DEFINITION. The Pendant Port (chapter 8): status frames, the enabling switch, buttons, takes, the handwheel and
the line test. -/

namespace Sys2Proof.Machine

/-! ## Status frames (R159, Table 11-9) -/

/-- The selector's axis: 0 OFF, 1 to 5 for X to B. -/
def selOf (n : Nat) : Option (Option Axis) :=
  match n with
  | 0 => some none
  | n + 1 => (axisOf n).map some

def multOf : Nat → Option Mult
  | 0 => some .m1 | 1 => some .m10 | 2 => some .m100 | _ => none

def enableOf : Nat → Option Enable
  | 0 => some .released | 1 => some .middle | 2 => some .panic | _ => none

/-- A multiplier in pu per count. -/
def Mult.num : Mult → Nat
  | .m1 => 1 | .m10 => 10 | .m100 => 100

/-- The CRC of a received frame matches: its bytes from LENGTH on, and its two CRC bytes (R209). -/
def crcMatches (inner : List Byte) (hi lo : Byte) : Bool := crc16 inner == hi.toNat * 256 + lo.toNat

/-- The status frame that received bytes spell, from LENGTH to the second CRC byte (R159). -/
def parseStatus (l : List Byte) : Option StatusFrame :=
  match l with
  | [len, kind, seq, cnt, sel, mult, btn, en, knob, es, hi, lo] =>
    if len = 9 ∧ kind = 0x20 ∧ crcMatches [len, kind, seq, cnt, sel, mult, btn, en, knob, es] hi lo = true
        ∧ btn.toNat < 64 then
      match selOf sel.toNat, multOf mult.toNat, enableOf en.toNat with
      | some sl, some m, some e =>
        some { seq := seq.toNat, counter := cnt.toNat, sel := sl, mult := m,
               jogP := btn.getLsbD 0, jogM := btn.getLsbD 1, rapid := btn.getLsbD 2,
               hold := btn.getLsbD 3, start := btn.getLsbD 4, flood := btn.getLsbD 5,
               enable := e, knob := knob.toNat, estop := es != 0 }
      | _, _, _ => none
    else none
  | _ => none

/-! ## Pendant states (section 8.3) -/

/-- A change of pendant state queues PENDANT_STATE (Table 8-4). -/
def setPend (st : PendState) (cause : PendCause) (s : State) : State :=
  queueReport (.pendantState st s.pp.st cause) { s with pp.st := st }

/-- A valid frame in ABSENT or LOST (R162). -/
def enterPresent (s : State) : State :=
  setPend .present .frame
    { s with pp.armed := false, pp.lines := s.pp.lines.map fun l => { l with fresh := true },
             pp.freshT := .start 50 }

/-! ## The enabling switch (section 8.4) -/

/-- The two channels agree (R165). -/
def enablesAgree (s : State) (f : StatusFrame) : Bool :=
  if f.enable = .middle then enableContact s else !enableContact s

/-- The mismatch timer (R165): it starts at the first disagreement, and agreement stops it and lets the raw
fall. -/
def mismatchStep (s : State) : State :=
  match s.pp.st, s.pp.last with
  | .present, some f =>
    if enablesAgree s f then fall .pendantEnableMismatch { s with pp.mismT := .stopped }
    else if s.pp.mismT.on then s
    else { s with pp.mismT := .start 50 }
  | _, _ => s

/-- The arming is set (R164). -/
def armStep (s : State) : State :=
  match s.pp.st, s.pp.last with
  | .present, some f =>
    if f.enable = .released ∧ enableContact s = false then { s with pp.armed := true } else s
  | _, _ => s

/-- The enable as a frame shows it (R160 step 5). -/
def enableStep (f : StatusFrame) (s : State) : State :=
  let s1 := if f.enable = .panic then { s with pp.armed := false } else s
  let s2 := mismatchStep (armStep s1)
  match f.enable with
  | .middle => s2
  | .released => endAllJogs .jog s2
  | .panic => endAllJogs .panic s2

/-- I3 has changed (R164 to R166). -/
def contactChanged (s : State) : State :=
  let s1 := mismatchStep (armStep s)
  if enableContact s then s1 else endAllJogs .jog s1

/-! ## Handwheel intervals (R174) -/

/-- The interval limit (R174). -/
def intervalLimit (s : State) (sel : Option Axis) (m : Mult) : Nat :=
  match sel with
  | some a => max 1 ((s.ax.get a).p.hwSpeed * 20 / (1000 * m.num))
  | none => 1

/-- A handwheel interval starts (R174). -/
def startInterval (s : State) : State :=
  let sel := if s.pp.seen then selected s else none
  let m := if s.pp.seen then (s.pp.last.map fun f => f.mult).getD .m1 else .m1
  { s with pp.intT := .start 20, pp.intCount := 0, pp.clipped := false, pp.intAxis := sel, pp.intMult := m,
           pp.intLimit := intervalLimit s sel m }

/-- A change of selector or multiplier (R160 step 6). -/
def selectorStep (prev : Option StatusFrame) (f : StatusFrame) (s : State) : State :=
  match prev with
  | none => s
  | some o =>
    let s1 := if o.sel ≠ f.sel ∨ o.mult ≠ f.mult then startInterval s else s
    if o.sel = f.sel then s1
    else allAxes.foldl (fun s a => if f.sel = some a then s else endJog .jog a s) s1

/-! ## Takes (R168) -/

/-- What a take attempt finds (R168). -/
inductive Take where
  | taken | held | ignored
deriving DecidableEq, Repr

/-- The outcome of a take attempt on an axis. -/
def takeOutcome (s : State) (a : Axis) : Take :=
  if jogPermitted s then
    match (s.ax.get a).owner with
    | .none => .taken
    | .queue => if s.sq.st = .held then .taken else .ignored
    | .pendant => .held
    | .homing => .ignored
  else .ignored

/-- An axis joins the displaced set (R49). -/
def displace (a : Axis) (s : State) : State :=
  { s with pi.hold := s.pi.hold.map fun h => { h with displaced := h.displaced.upd a fun _ => true } }

/-- The owner of a taken axis becomes PENDANT (R168). -/
def takeAxis (a : Axis) (s : State) : State :=
  let s1 := if (s.ax.get a).owner = .queue then displace a s else s
  updAx a (fun k => { k with owner := .pendant }) s1

/-- An ignored attempt starts the refuse timer (R168). -/
def refuse (s : State) : State := { s with pp.refuseT := .start 500 }

/-- A release need of a jog when the axis is not RELEASED (R168). -/
def jogNeed (a : Axis) (s : State) : State := if released s a then s else axisNeed a 0 s

/-- A button jog starts on an axis (R170). It forgets a braking of the jog before it: R171's test decides anew. -/
def startJog (a : Axis) (d : JogDir) (s : State) : State :=
  updJog a (fun j => { j with mode := .button, dir := d, fin := .none, brk := false,
                              wheel := if j.mode = .wheel then (s.ax.get a).setpoint else j.wheel }) s

/-- A press of JOG+ or JOG− on the selected axis (R168, R170). -/
def jogPress (a : Axis) (d : JogDir) (s : State) : State :=
  match takeOutcome s a with
  | .taken => jogNeed a (startJog a d (takeAxis a s))
  | .held => jogNeed a (startJog a d s)
  | .ignored => refuse s

/-- A frame ends an axis's motion by its buttons (R172): the button of the jog's direction is no longer pressed, or JOG+
and JOG− both are, which ends wheel motion too. -/
def buttonsEnd (f : StatusFrame) (j : Jog) : Bool :=
  match j.mode with
  | .wheel => f.jogP && f.jogM
  | _ => (j.dir == .plus && (!f.jogP || f.jogM)) || (j.dir == .minus && (!f.jogM || f.jogP))

/-- A jog whose button is no longer pressed ends, as does every motion at a frame that shows both buttons (R172). -/
def jogReleases (f : StatusFrame) (s : State) : State :=
  allAxes.foldl (fun s a => if buttonsEnd f (s.pp.jogs.get a) then endJog .jog a s else s) s

/-! ## Presses (R160 step 7, R167) -/

/-- The FLOOD press (R141). -/
def floodPress (s : State) : State :=
  if s.cn.machine = .tripped then s
  else coolantWrite (if s.cu.floodDem then .off else .on) .unchanged .unchanged none s

/-- A button is pressed in a frame (R160). -/
def pressed (prev : Option StatusFrame) (f : StatusFrame) (b : StatusFrame → Bool) : Bool :=
  match prev with
  | some o => b f && !b o
  | none => false

/-- The HOLD press (R167). -/
def holdPress (s : State) : State := endAllJogs .jog (sqHold s)

/-- A press is delivered, and what follows from it in the event follows before the next press of the frame meets it: the
dispatch that a START brings (R7, R16), or the HELD of a HOLD that finds the rate 0 (R9). -/
def deliverPress (press : Bool) (act : State → State) (s : State) : State := if press then settle 512 (act s) else s

/-- The presses of a frame, in the order HOLD, START, FLOOD, JOG+ or JOG− (R160 step 7). -/
def pressStep (prev : Option StatusFrame) (f : StatusFrame) (s : State) : State :=
  let s1 := deliverPress (pressed prev f (·.hold)) holdPress s
  let s2 := deliverPress (pressed prev f (·.start) && s1.pp.armed) pendantStart s1
  let s3 := deliverPress (pressed prev f (·.flood)) floodPress s2
  let s4 := jogReleases f s3
  match f.sel with
  | none => s4
  | some a =>
    if f.jogP && f.jogM then s4
    else if pressed prev f (·.jogP) then jogPress a .plus s4
    else if pressed prev f (·.jogM) then jogPress a .minus s4
    else s4

/-! ## The handwheel (R173 to R175) -/

/-- The handwheel delta between two counters (R173). -/
def wheelDelta (old new : Nat) : Int :=
  let d := (((new : Int) - old) % 256)
  if d ≤ 127 then d else d - 256

/-- Accepted counts move the wheel target (R175). The target of a REFERENCED axis is limited to its soft limits also
where no count is accepted: the model's choice (assumption log, entry 52). -/
def moveWheel (a : Axis) (z : Int) (s : State) : State :=
  let k := s.ax.get a
  let t := (s.pp.jogs.get a).wheel + z
  let w := if k.refd then clampInt k.p.softMin k.p.softMax t else t
  updJog a (fun j => { j with wheel := w }) s

/-- Counts are offered to the interval limit (R174). -/
def offerCounts (a : Axis) (m : Mult) (d : Int) (s : State) : State :=
  let acc := min d.natAbs (s.pp.intLimit - s.pp.intCount)
  let drop := d.natAbs - acc
  let s1 := moveWheel a ((if d < 0 then -1 else 1) * acc * m.num)
    { s with pp.intCount := s.pp.intCount + acc }
  if 0 < drop ∧ s.pp.clipped = false then
    latch .handwheelClipped 0 drop { s1 with pp.clipped := true, pp.clipT := .start 200 }
  else s1

/-- The jog mode of an axis taken or held by the handwheel is WHEEL (R175). -/
def wheelMode (a : Axis) (s : State) : State :=
  updJog a (fun j => if j.mode = .none then { j with mode := .wheel, wheel := (s.ax.get a).setpoint } else j) s

/-- A handwheel delta that is not 0 on the selected axis (R168, R173). -/
def wheelMove (a : Axis) (m : Mult) (d : Int) (s : State) : State :=
  if (s.pp.jogs.get a).mode = .button then s
  else
    let taken : Option State :=
      match takeOutcome s a with
      | .taken => some (jogNeed a (wheelMode a (takeAxis a s)))
      | .held => some (jogNeed a (wheelMode a s))
      | .ignored => none
    match taken with
    | none => refuse s
    | some s1 => if released s1 a then offerCounts a m d s1 else s1

/-- The handwheel of a frame (R160 step 8). -/
def wheelStep (prev : Option StatusFrame) (f : StatusFrame) (s : State) : State :=
  match prev, f.sel with
  | some o, some a =>
    let d := wheelDelta o.counter f.counter
    if d = 0 then s else wheelMove a f.mult d s
  | _, _ => s

/-! ## Taking a frame (R160) -/

/-- The knob writes the feed override while the source is PENDANT (R35). -/
def knobStep (f : StatusFrame) (s : State) : State :=
  if s.pi.source = .pendant then { s with pi.feed := min 150 f.knob } else s

/-- Steps 3 to 8 of R160; `prev` is the previous last frame, absent for the first frame since PRESENT. -/
def takeWhole (prev : Option StatusFrame) (f : StatusFrame) (s : State) : State :=
  let s1 := enableStep f (knobStep f { s with pp.last := some f, pp.seen := true })
  wheelStep prev f (pressStep prev f (selectorStep prev f s1))

/-- A valid frame outside TESTING (R160, R162). -/
def takeFrame (f : StatusFrame) (s : State) : State :=
  let first := s.pp.st != .present
  let s0 := if first then enterPresent s else s
  let s1 := { s0 with pp.freshT := .start 50, pp.answerDue := true }
  match first, s.pp.last with
  | false, some o => if o.seq = f.seq then s1 else takeWhole (some o) f s1
  | _, _ => takeWhole none f s1

/-! ## The loss of the link (R163) and the mismatch (R165) -/

/-- 50 ms without a valid frame (R163). An answer that is being sent goes on: the model's choice (assumption log,
entry 50). -/
def pendantLost (s : State) : State :=
  let owned := pendantAxes s
  let middle := match s.pp.last with
    | some f => f.enable == .middle
    | none => false
  let s1 := setPend .lost .timeout
    { s with pp.freshT := .stopped, pp.mismT := .stopped, pp.armed := false }
  let s2 := if 0 < owned ∨ middle = true then raiseHold .pendantLost 0 owned s1 else s1
  fall .pendantEnableMismatch (endAllJogs .panic s2)

/-- Codes of the enable (R165). -/
def Enable.num : Enable → Nat
  | .released => 0 | .middle => 1 | .panic => 2

/-- The channels have disagreed for 50 ms (R165). -/
def mismatchRaise (s : State) : State :=
  match s.pp.last with
  | some f => riseHold .pendantEnableMismatch 0 f.enable.num { s with pp.armed := false }
  | none => s

/-! ## The line test (section 8.10) -/

/-- A line test that is taken (R178). An answer that is being sent goes on: the model's choice (assumption log,
entry 50). -/
def startLineTest (s : State) : State :=
  fall .pendantEnableMismatch
    (setPend .testing .testStart
      { s with pp.armed := false, pp.freshT := .stopped, pp.mismT := .stopped, pp.answerDue := false,
               pp.power := false, pp.ltPhase := .wait, pp.ltT := .start 300, pp.rx := .hunting })

/-- A line test ends with a result (R178). -/
def endLineTest (r : LtResult) (s : State) : State :=
  queueReport (.lineTestDone r)
    (setPend .absent .testEnd
      { s with pp.ltLast := some r, pp.ltPhase := .none, pp.ltT := .stopped, pp.power := true })

/-- The distance of a reflection (R179). -/
def echoDistance (ns vf : Nat) : Nat := ns * vf * 3 / 4000

end Sys2Proof.Machine
end

