-- ==== Sys2Proof/Machine/Sensors.lean ====
section
/-! DEFINITION. The Input Filter and the Analog Monitor (chapter 9) with the deliveries to the blocks that consume
them. -/

namespace Sys2Proof.Machine

/-! ## Digital inputs (section 9.1) -/

/-- Changes one input. -/
def updInp (n : Fin 32) (f : InputCh → InputCh) (s : State) : State :=
  { s with inp := s.inp.set n (f s.inp[n]) }

/-- A TRIP-class level entry follows its input (R196). -/
def tripInput (c : Cond) (good : Bool) (s : State) : State := if good then fall c s else riseTrip c 0 0 s

/-- A limit input has changed (R66): HARD_LIMIT of an axis that the pendant does not own follows it at once. -/
def limitChanged (a : Axis) (s : State) : State :=
  if (s.ax.get a).owner = .pendant then s else hardLimitTest s a

/-- A clamp sensor has been delivered (R98, R106): the check after a hardware reset, and CLAMP_LOST when the
clamped sensor has come on. -/
def clampSensorChanged (c : ClampAxis) (lost : Bool) (s : State) : State :=
  let s1 := clampCheck c s
  if lost then clampLost c s1 else s1

/-- The hydraulic overload input has changed (R101). -/
def hydOverloadChanged (active : Bool) (s : State) : State :=
  if active && (s.hs.st == .starting || s.hs.st == .ready) then supplyLow 2 s else s

/-- The delivery of an input's filtered state to its consumer (Table 9-1). -/
def deliver (n : Fin 32) (s : State) : State :=
  let on := inputOn s n
  match n.val with
  | 0 => tripInput .estopOpen on s
  | 1 => tripInput .drivesNotReady on s
  | 2 => spindleReadyChanged s
  | 3 => contactChanged s
  | 4 => limitChanged .x s
  | 5 => limitChanged .x s
  | 6 => limitChanged .y s
  | 7 => limitChanged .y s
  | 8 => limitChanged .z s
  | 9 => limitChanged .z s
  | 10 => limitChanged .w s
  | 11 => limitChanged .w s
  | 12 => homeSwitchChanged .x s
  | 13 => homeSwitchChanged .y s
  | 14 => homeSwitchChanged .z s
  | 15 => homeSwitchChanged .w s
  | 16 => homeSwitchChanged .b s
  | 17 => clampSensorChanged .x on s
  | 18 => clampSensorChanged .x false s
  | 19 => clampSensorChanged .y on s
  | 20 => clampSensorChanged .y false s
  | 21 => clampSensorChanged .z on s
  | 22 => clampSensorChanged .z false s
  | 23 => clampSensorChanged .b on s
  | 24 => clampSensorChanged .b false s
  | 25 => gearFirstRead s
  | 26 => gearFirstRead s
  | 27 => gearFirstRead s
  | 28 => gearFirstRead s
  | 29 => hydOverloadChanged on s
  | 30 => floodOverloadChanged on s
  | _ => tscOverloadChanged on s

/-- An input is due: its timer stands at its filter time, and it has not settled or its raw state differs from
the filtered one (R184, R185). -/
def InputCh.due (i : InputCh) : Bool := decide (i.ft ≤ i.t) && (!i.settled || i.raw != i.filt)

/-- An input that is due takes its raw state, and the state is delivered (R184, R185). -/
def filterStep (n : Fin 32) (s : State) : State :=
  if s.inp[n].due then deliver n (updInp n (fun i => { i with filt := i.raw, settled := true }) s) else s

/-- The raw level of an input changes (R184). -/
def rawChange (n : Fin 32) (level : Bool) (s : State) : State :=
  if s.inp[n].raw = level then s else filterStep n (updInp n (fun i => { i with raw := level, t := 0 }) s)

/-! ## Analog channels (section 9.2) -/

/-- The scaled value of counts (R189). -/
def scaleCounts (k : AnalogCh) (counts : Nat) : Nat :=
  (clampInt 0 k.span (divFloor (((counts : Int) - k.zero) * k.span) (4095 - k.zero))).toNat

/-- A comparator's work on a sample (R190). -/
def cmpStep (c : Cmp) (scaled : Nat) : Cmp :=
  if decide (c.thr ≤ scaled) = c.above then { c with cnt := 0 }
  else if c.conf ≤ c.cnt + 1 then { c with above := !c.above, cnt := 0 }
  else { c with cnt := c.cnt + 1 }

/-- A channel's comparators (Table 9-3). -/
def channelCmps (ch : Fin 7) : List (Fin 7) :=
  match ch.val with
  | 0 => [0]
  | 1 => [1]
  | 2 => []
  | 3 => [2, 3]
  | 4 => [4]
  | 5 => [5]
  | _ => [6]

/-- HYD_MIN has changed (R101). -/
def hydMinChanged (s : State) : State := if !hydMin s && s.hs.st == .ready then supplyLow 1 s else s

/-- The delivery of a comparator change (Table 9-3). LOAD_MAX and OIL_MIN act by the closing rules. -/
def deliverCmp (i : Fin 7) (s : State) : State :=
  match i.val with
  | 0 => hydMinChanged s
  | 1 => floodMinChanged s
  | 2 => filterWarnChanged s
  | 3 => filterBlockChanged s
  | 5 => levelChanged s
  | _ => s

/-- One comparator works on its channel's sample. -/
def cmpWork (scaled : Nat) (s : State) (i : Fin 7) : State :=
  { s with am.cmps := s.am.cmps.set i (cmpStep s.am.cmps[i] scaled) }

/-- The comparators of a channel that have changed. -/
def changedCmps (old new : State) (ch : Fin 7) : List (Fin 7) :=
  (channelCmps ch).filter fun i => old.am.cmps[i].above != new.am.cmps[i].above

/-- The completion of a conversion of the next channel (R188). -/
def conversion (counts : Nat) (s : State) : State :=
  let ch := s.am.next
  let scaled := scaleCounts s.am.chans[ch] counts
  let s1 := { s with
    am.chans := s.am.chans.set ch { s.am.chans[ch] with counts := counts, scaled := scaled }
    am.next := ch + 1 }
  let s2 := (channelCmps ch).foldl (cmpWork scaled) s1
  let s3 := (changedCmps s1 s2 ch).foldl (fun s i => deliverCmp i s) s2
  if ch = 2 then tscSample scaled s3 else s3

end Sys2Proof.Machine
end

