-- ==== Sys2Proof/Machine/Params.lean ====
section
/-! DEFINITION. The parameters (R214): their ids and instances, ranges, write conditions, values, and what a taken
write does (R28, R54, R76, R87, R105, R136, R156, R181, R186, R191). -/

namespace Sys2Proof.Machine

/-- The axis parameters of Tables 3-3 and 8-5. -/
inductive AxisField where
  | softMin | softMax | kp | kff | feLimit | inposWindow | encDir | homeDir
  | searchSpeed | latchSpeed | homePosition | indexWindow | homeTravel | jogSpeed | rapidJogSpeed | jogAccel | hwSpeed
deriving DecidableEq, Repr

/-- The spindle and gear parameters of Table 6-4 that have one instance; the last three are instance 5 of the
axis parameters. -/
inductive SguField where
  | motorMax | accel | cpr | atSpeedPct | overloadTime | oilGrace | orientSpeed | inpos
  | positionTime | prepareTime | strokeTime | jogStep | meshDwell | settleTime
  | meshTol | meshAge | kp | kff | feLimit
deriving DecidableEq, Repr

/-- The coolant parameters of Table 7-2. -/
inductive CuField where
  | floodProve | dryTime | minRpm | dutyStart | deadband | step | window
  | faultBand | rampTime | suspendKeep | purgeTime
deriving DecidableEq, Repr

/-- The clamp parameters of Table 5-6. -/
inductive ClampField where
  | policy | delay | releaseTime | clampTime
deriving DecidableEq, Repr

/-- Every parameter, with its instance. -/
inductive Param where
  | flowHigh | flowLow | pathRamp | holdRamp | stopRamp | returnSpeed
  | axis (f : AxisField) (a : Axis)
  | compSlew (a : Axis)
  | clamp (f : ClampField) (c : ClampAxis)
  | hydOffDelay | hydStartTime
  | rangeMax (r : Range) | rangeRatio (r : Range)
  | sgu (f : SguField)
  | cu (f : CuField)
  | lineVf
  | filter (n : Fin 32)
  | zero (n : Fin 7) | span (n : Fin 7) | threshold (n : Fin 7) | confirm (n : Fin 7)
deriving DecidableEq, Repr

/-! ## Ids and instances -/

/-- The axis parameter of an id (Tables 3-3 and 8-5). -/
def axisFieldOf (id : Nat) : Option AxisField :=
  match id with
  | 0x0301 => some .softMin
  | 0x0302 => some .softMax
  | 0x0303 => some .kp
  | 0x0304 => some .kff
  | 0x0305 => some .feLimit
  | 0x0306 => some .inposWindow
  | 0x0307 => some .encDir
  | 0x0308 => some .homeDir
  | 0x0309 => some .searchSpeed
  | 0x030A => some .latchSpeed
  | 0x030B => some .homePosition
  | 0x030C => some .indexWindow
  | 0x030D => some .homeTravel
  | 0x0801 => some .jogSpeed
  | 0x0802 => some .rapidJogSpeed
  | 0x0803 => some .jogAccel
  | 0x0804 => some .hwSpeed
  | _ => none

/-- The spindle's instance of an axis parameter (R76, R136). -/
def spindleLoopOf : AxisField → Option SguField
  | .kp => some .kp | .kff => some .kff | .feLimit => some .feLimit | _ => none

/-- The spindle and gear parameter of an id (Table 6-4). -/
def sguFieldOf (id : Nat) : Option SguField :=
  match id with
  | 0x0603 => some .motorMax
  | 0x0604 => some .accel
  | 0x0605 => some .cpr
  | 0x0606 => some .atSpeedPct
  | 0x0607 => some .overloadTime
  | 0x0608 => some .oilGrace
  | 0x0609 => some .orientSpeed
  | 0x060A => some .inpos
  | 0x060B => some .positionTime
  | 0x060C => some .prepareTime
  | 0x060D => some .strokeTime
  | 0x060E => some .jogStep
  | 0x060F => some .meshDwell
  | 0x0610 => some .settleTime
  | 0x0611 => some .meshTol
  | 0x0612 => some .meshAge
  | _ => none

/-- The coolant parameter of an id (Table 7-2). -/
def cuFieldOf (id : Nat) : Option CuField :=
  match id with
  | 0x0701 => some .floodProve
  | 0x0702 => some .dryTime
  | 0x0703 => some .minRpm
  | 0x0704 => some .dutyStart
  | 0x0705 => some .deadband
  | 0x0706 => some .step
  | 0x0707 => some .window
  | 0x0708 => some .faultBand
  | 0x0709 => some .rampTime
  | 0x070A => some .suspendKeep
  | 0x070B => some .purgeTime
  | _ => none

/-- The clamp parameter of an id (Table 5-6). -/
def clampFieldOf (id : Nat) : Option ClampField :=
  match id with
  | 0x0501 => some .policy
  | 0x0502 => some .delay
  | 0x0503 => some .releaseTime
  | 0x0504 => some .clampTime
  | _ => none

/-- A parameter with instance 0 only that has an id of its own. -/
def singleOf (id : Nat) : Option Param :=
  match id with
  | 0x0101 => some .flowHigh
  | 0x0102 => some .flowLow
  | 0x0201 => some .pathRamp
  | 0x0202 => some .holdRamp
  | 0x0203 => some .stopRamp
  | 0x0204 => some .returnSpeed
  | 0x0505 => some .hydOffDelay
  | 0x0506 => some .hydStartTime
  | 0x0805 => some .lineVf
  | _ => none

/-- A parameter of chapter 9 (Tables 9-2 and 9-4). -/
def sensorOf (id : Nat) : Option Param :=
  if h : 0x0900 ≤ id ∧ id < 0x0920 then some (.filter ⟨id - 0x0900, by omega⟩)
  else if h : 0x0920 ≤ id ∧ id < 0x0927 then some (.zero ⟨id - 0x0920, by omega⟩)
  else if h : 0x0930 ≤ id ∧ id < 0x0937 then some (.span ⟨id - 0x0930, by omega⟩)
  else if h : 0x0940 ≤ id ∧ id < 0x0947 then some (.threshold ⟨id - 0x0940, by omega⟩)
  else if h : 0x0950 ≤ id ∧ id < 0x0957 then some (.confirm ⟨id - 0x0950, by omega⟩)
  else none

/-- The parameters that take instance 0 only. -/
def singleParam (id : Nat) : Option Param :=
  (singleOf id) <|> ((sguFieldOf id).map .sgu) <|> ((cuFieldOf id).map .cu) <|> (sensorOf id)

/-- The parameters that take an axis, clamp or range as instance. -/
def manyParam (id inst : Nat) : Option Param :=
  match axisFieldOf id, clampFieldOf id with
  | some f, _ => if inst = 5 then (spindleLoopOf f).map .sgu else (axisOf inst).map (.axis f)
  | none, some f => (clampOf inst).map (.clamp f)
  | none, none =>
    match id with
    | 0x0401 => (axisOf inst).map .compSlew
    | 0x0601 => (rangeOf inst).map .rangeMax
    | 0x0602 => (rangeOf inst).map .rangeRatio
    | _ => none

/-- The parameter of an id and instance; absent for an id no chapter defines and for a wrong instance (R214). -/
def paramOf (id inst : Nat) : Option Param :=
  match singleParam id with
  | some p => if inst = 0 then some p else none
  | none => manyParam id inst

/-! ## Values -/

def AxisField.get (p : AxisParams) : AxisField → Int
  | .softMin => p.softMin
  | .softMax => p.softMax
  | .kp => p.kp
  | .kff => p.kff
  | .feLimit => p.feLimit
  | .inposWindow => p.inposWindow
  | .encDir => p.encDir
  | .homeDir => p.homeDir
  | .searchSpeed => p.searchSpeed
  | .latchSpeed => p.latchSpeed
  | .homePosition => p.homePosition
  | .indexWindow => p.indexWindow
  | .homeTravel => p.homeTravel
  | .jogSpeed => p.jogSpeed
  | .rapidJogSpeed => p.rapidJogSpeed
  | .jogAccel => p.jogAccel
  | .hwSpeed => p.hwSpeed

def AxisField.set (p : AxisParams) (v : Int) : AxisField → AxisParams
  | .softMin => { p with softMin := v }
  | .softMax => { p with softMax := v }
  | .kp => { p with kp := v.toNat }
  | .kff => { p with kff := v.toNat }
  | .feLimit => { p with feLimit := v.toNat }
  | .inposWindow => { p with inposWindow := v.toNat }
  | .encDir => { p with encDir := v.toNat }
  | .homeDir => { p with homeDir := v.toNat }
  | .searchSpeed => { p with searchSpeed := v.toNat }
  | .latchSpeed => { p with latchSpeed := v.toNat }
  | .homePosition => { p with homePosition := v }
  | .indexWindow => { p with indexWindow := v.toNat }
  | .homeTravel => { p with homeTravel := v.toNat }
  | .jogSpeed => { p with jogSpeed := v.toNat }
  | .rapidJogSpeed => { p with rapidJogSpeed := v.toNat }
  | .jogAccel => { p with jogAccel := v.toNat }
  | .hwSpeed => { p with hwSpeed := v.toNat }

def SguField.get (p : SguParams) : SguField → Int
  | .motorMax => p.motorMax
  | .accel => p.accel
  | .cpr => p.cpr
  | .atSpeedPct => p.atSpeedPct
  | .overloadTime => p.overloadTime
  | .oilGrace => p.oilGrace
  | .orientSpeed => p.orientSpeed
  | .inpos => p.inpos
  | .positionTime => p.positionTime
  | .prepareTime => p.prepareTime
  | .strokeTime => p.strokeTime
  | .jogStep => p.jogStep
  | .meshDwell => p.meshDwell
  | .settleTime => p.settleTime
  | .meshTol => p.meshTol
  | .meshAge => p.meshAge
  | .kp => p.kp
  | .kff => p.kff
  | .feLimit => p.feLimit

def SguField.set (p : SguParams) (v : Nat) : SguField → SguParams
  | .motorMax => { p with motorMax := v }
  | .accel => { p with accel := v }
  | .cpr => { p with cpr := v }
  | .atSpeedPct => { p with atSpeedPct := v }
  | .overloadTime => { p with overloadTime := v }
  | .oilGrace => { p with oilGrace := v }
  | .orientSpeed => { p with orientSpeed := v }
  | .inpos => { p with inpos := v }
  | .positionTime => { p with positionTime := v }
  | .prepareTime => { p with prepareTime := v }
  | .strokeTime => { p with strokeTime := v }
  | .jogStep => { p with jogStep := v }
  | .meshDwell => { p with meshDwell := v }
  | .settleTime => { p with settleTime := v }
  | .meshTol => { p with meshTol := v }
  | .meshAge => { p with meshAge := v }
  | .kp => { p with kp := v }
  | .kff => { p with kff := v }
  | .feLimit => { p with feLimit := v }

def CuField.get (p : CuParams) : CuField → Int
  | .floodProve => p.floodProve
  | .dryTime => p.dryTime
  | .minRpm => p.minRpm
  | .dutyStart => p.dutyStart
  | .deadband => p.deadband
  | .step => p.step
  | .window => p.window
  | .faultBand => p.faultBand
  | .rampTime => p.rampTime
  | .suspendKeep => p.suspendKeep
  | .purgeTime => p.purgeTime

def CuField.set (p : CuParams) (v : Nat) : CuField → CuParams
  | .floodProve => { p with floodProve := v }
  | .dryTime => { p with dryTime := v }
  | .minRpm => { p with minRpm := v }
  | .dutyStart => { p with dutyStart := v }
  | .deadband => { p with deadband := v }
  | .step => { p with step := v }
  | .window => { p with window := v }
  | .faultBand => { p with faultBand := v }
  | .rampTime => { p with rampTime := v }
  | .suspendKeep => { p with suspendKeep := v }
  | .purgeTime => { p with purgeTime := v }

/-- Codes of the policies (Table 5-6). -/
def Policy.num : Policy → Nat
  | .auto => 0 | .host => 1 | .never => 2

/-- The policy of a code. -/
def policyOf (v : Int) : Policy := if v = 0 then .auto else if v = 1 then .host else .never

def ClampField.get (k : Clamp) : ClampField → Int
  | .policy => k.policy.num
  | .delay => k.delay
  | .releaseTime => k.releaseTime
  | .clampTime => k.clampTime

/-- The value of a parameter as it stands. -/
def paramValue (s : State) : Param → Int
  | .flowHigh => s.sq.flowHigh
  | .flowLow => s.sq.flowLow
  | .pathRamp => s.pi.pathRamp
  | .holdRamp => s.pi.holdRamp
  | .stopRamp => s.pi.stopRamp
  | .returnSpeed => s.pi.returnSpeed
  | .axis f a => f.get (s.ax.get a).p
  | .compSlew a => (s.cs.get a).slew
  | .clamp f c => f.get (s.cc.get c)
  | .hydOffDelay => s.hs.offDelayP
  | .hydStartTime => s.hs.startTimeP
  | .rangeMax r => s.sgu.p.rangeMax.get r
  | .rangeRatio r => s.sgu.p.rangeRatio.get r
  | .sgu f => f.get s.sgu.p
  | .cu f => f.get s.cu.p
  | .lineVf => s.pp.lineVf
  | .filter n => s.inp[n].ft
  | .zero n => s.am.chans[n].zero
  | .span n => s.am.chans[n].span
  | .threshold n => s.am.cmps[n].thr
  | .confirm n => s.am.cmps[n].conf

/-! ## Ranges -/

/-- The bound of the soft limits of an axis (Table 3-3). -/
def softBound : Axis → Int
  | .b => 36000000
  | _ => 2000000000

/-- The range of an axis parameter (Tables 3-3 and 8-5), with the limits that the soft limits set on each
other. -/
def axisRange (k : AxisParams) (a : Axis) : AxisField → Int × Int
  | .softMin => (-(softBound a), min (softBound a) (k.softMax - 1))
  | .softMax => (max (-(softBound a)) (k.softMin + 1), softBound a)
  | .kp => (0, 65535)
  | .kff => (0, 65535)
  | .feLimit => (1, 1000000)
  | .inposWindow => (0, 10000)
  | .encDir => (0, 1)
  | .homeDir => (0, 1)
  | .searchSpeed => (1000, 200000)
  | .latchSpeed => (1000, 20000)
  | .homePosition => (-2000000000, 2000000000)
  | .indexWindow => (100, 1000000)
  | .homeTravel => (1000, 2000000000)
  | .jogSpeed => (100, 200000)
  | .rapidJogSpeed => (1000, 200000)
  | .jogAccel => (1000, 2000000)
  | .hwSpeed => (1000, 200000)

/-- The range of a spindle or gear parameter (Table 6-4). -/
def sguRange : SguField → Int × Int
  | .motorMax => (500, 12000)
  | .accel => (10, 20000)
  | .cpr => (256, 65535)
  | .atSpeedPct => (1, 50)
  | .overloadTime => (100, 60000)
  | .oilGrace => (0, 60000)
  | .orientSpeed => (1, 60)
  | .inpos => (1, 256)
  | .positionTime => (100, 10000)
  | .prepareTime => (1000, 120000)
  | .strokeTime => (200, 10000)
  | .jogStep => (1, 512)
  | .meshDwell => (50, 2000)
  | .settleTime => (50, 5000)
  | .meshTol => (1, 256)
  | .meshAge => (0, 1000)
  | .kp => (0, 65535)
  | .kff => (0, 65535)
  | .feLimit => (1, 65535)

/-- The range of a coolant parameter (Table 7-2), with the limits of tsc_window and tsc_fault_band on each
other (R156). -/
def cuRange (p : CuParams) : CuField → Int × Int
  | .floodProve => (500, 20000)
  | .dryTime => (0, 60000)
  | .minRpm => (1, 6000)
  | .dutyStart => (0, 1000)
  | .deadband => (0, 100)
  | .step => (1, 100)
  | .window => (1, min 200 ((p.faultBand : Int) - 1))
  | .faultBand => (max 2 ((p.window : Int) + 1), 300)
  | .rampTime => (1000, 60000)
  | .suspendKeep => (0, 60000)
  | .purgeTime => (100, 30000)

/-- The range of a clamp parameter (Table 5-6). -/
def clampRange : ClampField → Int × Int
  | .policy => (0, 2)
  | .delay => (0, 60000)
  | .releaseTime | .clampTime => (500, 10000)

/-- The range of a parameter as it stands. -/
def paramRange (s : State) : Param → Int × Int
  | .flowHigh => (max 8 ((s.sq.flowLow : Int) + 1), 63)
  | .flowLow => (0, min 62 ((s.sq.flowHigh : Int) - 1))
  | .pathRamp | .holdRamp | .stopRamp => (1, 65536)
  | .returnSpeed => (1000, 200000)
  | .axis f a => axisRange (s.ax.get a).p a f
  | .compSlew _ => (1, 100)
  | .clamp f _ => clampRange f
  | .hydOffDelay => (0, 600000)
  | .hydStartTime => (1000, 20000)
  | .rangeMax _ => (1, 6000)
  | .rangeRatio _ => (100, 20000)
  | .sgu f => sguRange f
  | .cu f => cuRange s.cu.p f
  | .lineVf => (500, 900)
  | .filter _ => (0, 255)
  | .zero _ => (0, 4094)
  | .span _ => (1, 65535)
  | .threshold _ => (0, 65535)
  | .confirm _ => (1, 32)

/-! ## Write conditions -/

/-- The spindle or gear parameter is marked "spindle OFF" (Table 6-4). -/
def sguNeedsOff : SguField → Bool
  | .motorMax | .cpr | .inpos | .kp | .kff | .feLimit => true
  | _ => false

/-- The axis parameter may be written in TRIPPED only: enc_dir (R76). -/
def needsTrip : AxisField → Bool
  | .encDir => true
  | _ => false

/-- A write of clamp_policy (R105). -/
def policyRefusal (s : State) (c : ClampAxis) (v : Int) : Option Code :=
  let st := (s.cc.get c).st
  if (s.ax.get (clampAxis c)).owner ≠ .none then some .busy
  else if st ≠ .clamped ∧ st ≠ .released then some .wrongState
  else if v = 2 ∧ st ≠ .released then some .wrongState
  else none

/-- The refusal of a write by the parameter's condition (R214 step 3). -/
def writeRefusal (s : State) (p : Param) (v : Int) : Option Code :=
  match p with
  | .pathRamp | .holdRamp | .stopRamp => if s.sq.st = .idle then none else some .busy
  | .axis f a =>
    if (s.ax.get a).owner ≠ .none then some .busy
    else if needsTrip f = true ∧ s.cn.machine ≠ .tripped then some .wrongState
    else none
  | .clamp .policy c => policyRefusal s c v
  | .rangeMax _ | .rangeRatio _ => if s.sgu.st = .off ∧ shifting s = false then none else some .busy
  | .sgu f =>
    if shifting s = true ∨ (sguNeedsOff f = true ∧ s.sgu.st ≠ .off) then some .busy else none
  | .lineVf => if s.pp.st = .testing then some .busy else none
  | _ => none

/-! ## Taken writes -/

/-- A taken write of clamp_policy (R105). A write of the policy in force restarts the idle time too: the model's choice
(assumption log, entry 37). -/
def writePolicy (c : ClampAxis) (v : Int) (s : State) : State :=
  let k := s.cc.get c
  let pol := policyOf v
  let st : ClampState :=
    if k.policy = .never ∧ pol ≠ .never ∧ ¬(releasedSensor s c = true ∧ clampedSensor s c = false) then .fault
    else k.st
  updClamp c (fun k => { k with policy := pol, idle := 0, st := st,
                                follow := if pol = .never then .none else k.follow }) s

/-- A taken write of clamp_delay acts against the idle time already counted (R93). -/
def writeDelay (c : ClampAxis) (v : Nat) (s : State) : State :=
  let s1 := updClamp c (fun k => { k with delay := v }) s
  if idleRuns s1 c && decide (v ≤ (s1.cc.get c).idle) then
    clampNeed c (updClamp c (fun k => { k with idle := 0 }) s1)
  else s1

/-- A taken write of a clamp parameter. -/
def writeClamp (f : ClampField) (c : ClampAxis) (v : Int) (s : State) : State :=
  match f with
  | .policy => writePolicy c v s
  | .delay => writeDelay c v.toNat s
  | .releaseTime => updClamp c (fun k => { k with releaseTime := v.toNat }) s
  | .clampTime => updClamp c (fun k => { k with clampTime := v.toNat }) s

/-- A taken write of a spindle or gear parameter: mesh_tol compacts the mesh table, and cpr clears it with the
indexed flag (R135). -/
def writeSgu (f : SguField) (v : Nat) (s : State) : State :=
  let s1 := { s with sgu.p := f.set s.sgu.p v }
  match f with
  | .meshTol => { s1 with sgu.mesh := meshCompact s.sgu.p.cpr v s.sgu.mesh.length s.sgu.mesh }
  | .cpr => { s1 with sgu.mesh := [], sgu.indexPos := none }
  | _ => s1

/-- A taken write of an axis parameter: enc_dir makes the axis UNREFERENCED (R59). -/
def writeAxis (f : AxisField) (a : Axis) (v : Int) (s : State) : State :=
  updAx a (fun k => { k with p := f.set k.p v, refd := k.refd && !needsTrip f }) s

/-- Changes one analog channel. -/
def updChan (n : Fin 7) (f : AnalogCh → AnalogCh) (s : State) : State :=
  { s with am.chans := s.am.chans.set n (f s.am.chans[n]) }

/-- Changes one comparator. -/
def updCmp (n : Fin 7) (f : Cmp → Cmp) (s : State) : State :=
  { s with am.cmps := s.am.cmps.set n (f s.am.cmps[n]) }

/-- A taken write (R214). -/
def writeParam (p : Param) (v : Int) (s : State) : State :=
  match p with
  | .flowHigh => flowEval { s with sq.flowHigh := v.toNat }
  | .flowLow => flowEval { s with sq.flowLow := v.toNat }
  | .pathRamp => { s with pi.pathRamp := v.toNat }
  | .holdRamp => { s with pi.holdRamp := v.toNat }
  | .stopRamp => { s with pi.stopRamp := v.toNat }
  | .returnSpeed => { s with pi.returnSpeed := v.toNat }
  | .axis f a => writeAxis f a v s
  | .compSlew a => updBank a (fun b => { b with slew := v.toNat }) s
  | .clamp f c => writeClamp f c v s
  | .hydOffDelay => { s with hs.offDelayP := v.toNat }
  | .hydStartTime => { s with hs.startTimeP := v.toNat }
  | .rangeMax r =>
    let s1 := { s with sgu.p.rangeMax := s.sgu.p.rangeMax.set r v.toNat }
    if engagedRange s = some r then retarget s1 else s1
  | .rangeRatio r => { s with sgu.p.rangeRatio := s.sgu.p.rangeRatio.set r v.toNat }
  | .sgu f => writeSgu f v.toNat s
  | .cu f => { s with cu.p := f.set s.cu.p v.toNat }
  | .lineVf => { s with pp.lineVf := v.toNat }
  | .filter n => filterStep n (updInp n (fun i => { i with ft := v.toNat }) s)
  | .zero n => updChan n (fun k => { k with zero := v.toNat }) s
  | .span n => updChan n (fun k => { k with span := v.toNat }) s
  | .threshold n => updCmp n (fun c => { c with thr := v.toNat }) s
  | .confirm n => updCmp n (fun c => { c with conf := v.toNat }) s

end Sys2Proof.Machine
end

