-- ==== Sys2Proof/Machine/Requests.lean ====
section
/-! DEFINITION. The blocks' handling of each request and the reply it gets (R211, Table 11-10): one definition per
request, `serveX`, which answers the reply code with its fields and the state after the request. -/

namespace Sys2Proof.Machine

/-- A reply of a code alone. -/
def codeOnly (c : Code) : Answer := ⟨c, []⟩

/-- A request refused with a code alone, or taken with OK alone. -/
def plain (c : Code) (s : State) : Answer × State := (codeOnly c, s)

/-! ## Host Link Port and Condition Unit -/

/-- IDENTIFY (R207). -/
def serveIdentify (s : State) : Answer × State :=
  (⟨.ok, [.u16 614, .u8 1, .u8 (causeNum s.hlp.cause), .u8 s.hlp.rate, .u32 s.hlp.ms]⟩, s)

/-- Machine state codes (R199). -/
def MState.num : MState → Nat
  | .ready => 0 | .stopping => 1 | .tripped => 2

/-- The first latched entry of a class in order of code and instance (R203). -/
def topOf (s : State) (k : Class) : Option Cond :=
  allConds.find? fun c => c.cls == k && (condEntry s c).latched

/-- The top condition (R203). -/
def topCond (s : State) : Option Cond :=
  (topOf s .trip) <|> (topOf s .stop) <|> (topOf s .hold) <|> (topOf s .note)

/-- The number of latched entries of a class (R203). -/
def latchedOf (s : State) (k : Class) : Nat :=
  (allConds.filter fun c => c.cls == k && (condEntry s c).latched).length

/-- The number of latched entries (R202). -/
def latchedCount (s : State) : Nat := (allConds.filter fun c => (condEntry s c).latched).length

/-- The top condition's fields (R203). -/
def condFields (s : State) (c : Cond) : List WField :=
  let e := condEntry s c
  let l := e.last.getD ⟨0, 0, 0⟩
  [.u8 c.code, .u8 c.inst, .u8 c.cls.num, flag e.raw, .u32 l.time, .u16 l.seq, .i32 l.value]

/-- STATUS (R203). -/
def serveStatus (s : State) : Answer × State :=
  (⟨.ok, .u8 s.cn.machine.num :: (optGroup ((topCond s).map (condFields s)) ++
    [.u8 (latchedOf s .trip), .u8 (latchedOf s .stop), .u8 (latchedOf s .hold), .u8 (latchedOf s .note),
     .u8 s.sq.st.num, .u8 s.pp.st.num, .u8 (rangeNum (engagedRange s))])⟩, s)

/-- An entry acknowledged (R202): the latched flag is cleared when the raw is false. -/
def ackEntry (s : State) (c : Cond) : State :=
  updCond c (fun e => { e with latched := e.latched && e.raw }) s

/-- ACK_CONDITIONS (R202). -/
def serveAck (all : Nat) (pairs : List (Nat × Nat)) (s : State) : Answer × State :=
  if all = 1 then
    let s1 := allConds.foldl ackEntry s
    (⟨.ok, [.u8 (latchedCount s1)]⟩, s1)
  else if all ≠ 0 ∨ pairs.length < 1 ∨ 16 < pairs.length then (⟨.outOfRange, optField none⟩, s)
  else
    match pairs.findIdx? fun p => (condOf p.1 p.2).isNone with
    | some i => (⟨.outOfRange, optField (some (.u8 i))⟩, s)
    | none =>
      let s1 := (pairs.filterMap fun p => condOf p.1 p.2).foldl ackEntry s
      (⟨.ok, [.u8 (latchedCount s1)]⟩, s1)

/-- RESET_TRIP (R201). The kept follow-ons and the pump follow by the closing rules (R104). Where no path period has
passed in TRIPPED the setpoints stay as they were before the TRIP: the model's choice (assumption log, entry 34). -/
def serveResetTrip (s : State) : Answer × State :=
  if s.cn.machine ≠ .tripped then plain .wrongState s
  else if rawOf s .estopOpen || rawOf s .drivesNotReady then plain .wrongState s
  else plain .ok { s with cn.machine := .ready }

/-- RESTART (R208): its teardown comes when the reply has been sent. -/
def serveRestart (s : State) : Answer × State := plain .ok s

/-- SET_PARAM (R214). -/
def serveSetParam (id inst : Nat) (v : Int) (s : State) : Answer × State :=
  match paramOf id inst with
  | none => plain .outOfRange s
  | some p =>
    if v < (paramRange s p).1 ∨ (paramRange s p).2 < v then plain .outOfRange s
    else
      match writeRefusal s p v with
      | some c => plain c s
      | none =>
        let s1 := writeParam p v s
        (⟨.ok, [.i32 (paramValue s1 p)]⟩, s1)

/-- GET_PARAM (R214). -/
def serveGetParam (id inst : Nat) (s : State) : Answer × State :=
  match paramOf id inst with
  | none => plain .outOfRange s
  | some p => (⟨.ok, [.i32 (paramValue s p)]⟩, s)

/-! ## Segment Queue -/

/-- The motion kind of a control byte (Table 11-7). -/
def motionOf : Nat → Option Motion
  | 0 => some .rapid | 1 => some .feed | 2 => some .fpr | _ => none

/-- A coolant field's code (Tables 11-7 and 11-10). -/
def demOf : Nat → Option Dem
  | 0 => some .unchanged | 1 => some .on | 2 => some .off | _ => none

/-- The axes of an axis mask in index order. -/
def maskAxes (mask : Nat) : List Axis := allAxes.filter fun a => mask.testBit (axisIdx a)

/-- An end position lies in the usable range (R4). -/
def endOk (z : Int) : Bool := decide (-2000000000 ≤ z ∧ z ≤ 2000000000)

/-- S_ref is present and in range for FPR, and absent otherwise (R4). -/
def sRefOk (k : Motion) (r : Option Nat) : Bool :=
  match k, r with
  | .fpr, some v => decide (1 ≤ v ∧ v ≤ 6000)
  | .fpr, none => false
  | _, none => true
  | _, some _ => false

/-- A MOVE that passes R4. -/
def moveOf (seq control mask n : Nat) (sRef : Option Nat) (ends : List Int) : Option QRec :=
  match motionOf (control % 4) with
  | some k =>
    if control < 8 ∧ 1 ≤ mask ∧ mask < 32 ∧ 1 ≤ n ∧ n ≤ 65535 ∧ sRefOk k sRef = true ∧
        ends.length = (maskAxes mask).length ∧ ends.all endOk = true then
      some ⟨seq, .move ⟨k, control.testBit 2, (maskAxes mask).zip ends, n, sRef⟩⟩
    else none
  | none => none

/-- A COOLANT record that passes R4; its pressure is clamped. -/
def coolantOf (seq channels flags : Nat) (pressure : Option Nat) : Option QRec :=
  match demOf (channels % 4), demOf (channels / 4 % 4), demOf (channels / 16) with
  | some f, some t, some m =>
    if flags < 4 then
      some ⟨seq, .coolant f t m (pressure.map fun p => max 100 (min 700 p)) (flags.testBit 0)⟩
    else none
  | _, _, _ => none

/-- The record that a raw record becomes when it passes the range check (R4). -/
def recOf : RawRec → Option QRec
  | .move seq control mask n sRef ends => moveOf seq control mask n sRef ends
  | .dwell seq n => if 1 ≤ n ∧ n ≤ 65535 then some ⟨seq, .dwell n⟩ else none
  | .spindle seq speed flags =>
    if flags < 4 then
      some ⟨seq, .spindle (min 6000 speed) (if flags.testBit 0 then .ccw else .cw) (flags.testBit 1)⟩
    else none
  | .gear seq r => (rangeOf r).map fun g => ⟨seq, .gear g⟩
  | .coolant seq channels flags pressure => coolantOf seq channels flags pressure
  | .clamp seq axis action =>
    if action ≤ 1 then (clampOf axis).map fun c => ⟨seq, .clamp c (action == 0)⟩ else none
  | .mark seq flags => if flags ≤ 1 then some ⟨seq, .mark (flags == 1)⟩ else none
  | .bad _ => none

/-- Flow state codes (R25). -/
def Flow.num : Flow → Nat
  | .go => 0 | .stopped => 1

/-- An APPEND's reply (Table 11-10). -/
def appendAnswer (c : Code) (index : Option Nat) (s : State) : Answer :=
  ⟨c, .u8 (64 - s.sq.recs.length) :: .u8 s.sq.flow.num :: optField (index.map .u8)⟩

/-- The records of a taken APPEND join the tail (R5). -/
def appendRecs (rs : List QRec) (s : State) : State :=
  flowEval { s with sq.recs := s.sq.recs ++ rs, sq.armed := true }

/-- APPEND (R3 to R5). The reply shows the queue after the dispatch that the APPEND brings. A request that the walk of
R212 yields has no more records than its count. -/
def serveAppend (count : Nat) (raws : List RawRec) (s : State) : Answer × State :=
  if s.cn.machine = .tripped then (appendAnswer .tripped none s, s)
  else if s.sq.st = .stopping then (appendAnswer .wrongState none s, s)
  else if count < 1 ∨ 8 < count then (appendAnswer .outOfRange none s, s)
  else if 64 - s.sq.recs.length < max count raws.length then (appendAnswer .queueFull none s, s)
  else
    match raws.findIdx? fun r => (recOf r).isNone with
    | some i => (appendAnswer .outOfRange (some i) s, s)
    | none =>
      let s1 := quiesce (appendRecs (raws.filterMap recOf) s)
      (appendAnswer .ok none s1, s1)

/-- START (R7, R8). -/
def serveStart (s : State) : Answer × State := plain (startRequest s).1 (startRequest s).2

/-- HOLD (R9). -/
def serveHold (s : State) : Answer × State := plain .ok (sqHold s)

/-- RESUME (R10). -/
def serveResume (s : State) : Answer × State := plain (resumeRequest s).1 (resumeRequest s).2

/-- STOP (R12). -/
def serveStop (s : State) : Answer × State := plain .ok (sqStop s)

/-- FLUSH (R15). -/
def serveFlush (s : State) : Answer × State :=
  if s.sq.st = .idle then plain .ok (flowEval (clearRecords s)) else plain .wrongState s

/-- The phase that QUEUE_STATUS shows for the current record (R27). -/
def shownPhase (s : State) (r : QRec) : Nat :=
  match r.body with
  | .move _ =>
    match s.pi.move with
    | some m => m.p * 1000 / (m.n * 65536)
    | none => 0
  | .dwell n => (n - s.sq.dwellLeft) * 1000 / n
  | _ => 0

/-- QUEUE_STATUS (R27). -/
def serveQueueStatus (s : State) : Answer × State :=
  let n := s.sq.recs.length
  let cur := currentRec s
  (⟨.ok,
    .u8 s.sq.st.num :: .u8 n :: .u8 (64 - n) ::
      (optField (cur.map fun r => .u16 r.seq) ++ optField (cur.map fun r => .u8 r.body.kindCode) ++
       optField (cur.map fun r => .u16 (shownPhase s r)) ++
       .u32 s.pi.r :: flag s.pi.hold.isSome ::
        (listField ((displacedAxes s).map fun a => [.u8 (axisIdx a)]) ++
         [.u8 s.sq.flow.num, flag (decide (n = 0) && cur.isNone && allAtRest s)]))⟩, s)

/-! ## Path Interpolator -/

/-- Feed source codes (Table 11-10). -/
def FeedSource.num : FeedSource → Nat
  | .host => 0 | .pendant => 1

/-- The values of a taken SET_OVERRIDE, clamped and stored (R36). -/
def applyOverride (feed rapid spindle : Option Nat) (src : FeedSource) (s : State) : State :=
  let s1 := { s with
    pi.source := src
    pi.feed := (feed.map (min 150)).getD s.pi.feed
    pi.rapid := (rapid.map (min 100)).getD s.pi.rapid
    pi.spindleOvr := (spindle.map fun v => max 50 (min 120 v)).getD s.pi.spindleOvr }
  if s1.pi.spindleOvr = s.pi.spindleOvr then s1 else retarget s1

/-- The overrides as SET_OVERRIDE's reply shows them (Table 11-10). -/
def overrideFields (s : State) : List WField :=
  [.u8 s.pi.feed, .u8 s.pi.rapid, .u8 s.pi.spindleOvr, .u8 s.pi.source.num]

/-- SET_OVERRIDE (R36). -/
def serveOverride (feed rapid spindle source : Option Nat) (s : State) : Answer × State :=
  if source.any (fun v => decide (1 < v)) then plain .outOfRange s
  else
    let src : FeedSource := match source with
      | some v => if v = 0 then .host else .pendant
      | none => s.pi.source
    if feed.isSome ∧ src = .pendant then plain .wrongState s
    else
      let s1 := applyOverride feed rapid spindle src s
      (⟨.ok, overrideFields s1⟩, s1)

/-! ## Axis Channels and Compensation Store -/

/-- A HOME that is taken (R68). -/
def takeHome (a : Axis) (s : State) : State :=
  let s1 := updAx a (fun k => { k with owner := .homing, refd := false, hVel := 0, hRem := 0,
                                       hFail := none, phase := .waitRelease }) s
  if released s a then s1 else axisNeed a 0 s1

/-- HOME (R68). -/
def serveHome (axis : Nat) (s : State) : Answer × State :=
  match axisOf axis with
  | none => plain .outOfRange s
  | some a =>
    if s.cn.machine = .tripped then plain .tripped s
    else if s.cn.machine = .stopping then plain .wrongState s
    else if s.sq.st ≠ .idle then plain .busy s
    else if (s.ax.get a).owner ≠ .none then plain .busy s
    else if limitActive s a then plain .wrongState s
    else plain .ok (takeHome a s)

/-- Owner codes (R57). -/
def Owner.num : Owner → Nat
  | .none => 0 | .queue => 1 | .pendant => 2 | .homing => 3

/-- AXIS_STATUS's fields (R75). The limits, the home switch and the drive enable are flags, active or on 1: the model's
choice (assumption log, entry 14). -/
def snapFields (k : AxisSnap) : List WField :=
  [.u8 k.owner.num, flag k.refd, .u8 k.phase.num, .i32 k.setpoint, .i32 k.enc, .i32 k.c, .i32 k.target,
   .i32 k.e, .i32 k.out, flag k.inPos, flag k.atRest, flag k.limMinus, flag k.limPlus, flag k.homeSw,
   .u8 k.clamp, flag k.enable]

/-- AXIS_STATUS (R75). -/
def serveAxisStatus (axis : Nat) (s : State) : Answer × State :=
  match axisOf axis with
  | none => plain .outOfRange s
  | some a => (⟨.ok, snapFields (s.ax.get a).snap⟩, s)

/-- Bank state codes (R79). -/
def BankState.num : BankState → Nat
  | .empty => 0 | .loading => 1 | .active => 2

/-- The number of points marked written (R80). -/
def writtenCount (b : Bank) : Nat := (b.pts.toList.filter Option.isSome).length

/-- Point values stored at rising indices (R80). -/
def loadPoints (first : Nat) (vs : List Int) (pts : Vector (Option Int) 128) : Vector (Option Int) 128 :=
  Vector.ofFn fun i : Fin 128 =>
    if first ≤ i.val then
      match vs[i.val - first]? with
      | some v => some v
      | none => pts[i]
    else pts[i]

/-- A point value's range (Table 4-1). -/
def pointOk (v : Int) : Bool := decide (-5000 ≤ v ∧ v ≤ 5000)

/-- COMP_LOAD (R80). -/
def serveCompLoad (axis first : Nat) (vs : List Int) (s : State) : Answer × State :=
  match axisOf axis with
  | none => (⟨.outOfRange, optField none⟩, s)
  | some a =>
    if vs.length < 1 ∨ 32 < vs.length ∨ 127 < first ∨ 128 < first + vs.length then
      (⟨.outOfRange, optField none⟩, s)
    else
      match vs.findIdx? fun v => !pointOk v with
      | some i => (⟨.outOfRange, optField (some (.u8 (first + i)))⟩, s)
      | none =>
        if (s.cs.get a).st = .active then plain .wrongState s
        else
          let s1 := updBank a (fun b =>
            { b with st := .loading,
                     pts := loadPoints first vs
                       (if b.st = .empty then Vector.replicate 128 none else b.pts) }) s
          (⟨.ok, [.u8 BankState.loading.num, .u8 (writtenCount (s1.cs.get a))]⟩, s1)

/-- The lowest index below count that is not marked written (R81). -/
def firstMissing (b : Bank) (count : Nat) : Option Nat :=
  (List.range count).find? fun i => (b.pts[i]?.getD none).isNone

/-- The sum of the points of a map modulo 65536 (R81). -/
def pointSum (b : Bank) (count : Nat) : Nat :=
  (((List.range count).foldl (fun z i => z + b.point i) (0 : Int)) % 65536).toNat

/-- A committed bank (R81). -/
def commitBank (g : Geom) (b : Bank) : Bank :=
  { b with st := .active, geom := some g,
           pts := Vector.ofFn fun i : Fin 128 => if i.val < g.count then b.pts[i] else none }

/-- COMP_COMMIT (R81). -/
def serveCompCommit (axis count : Nat) (origin spacing : Int) (mode check : Nat) (s : State) :
    Answer × State :=
  match axisOf axis with
  | none => plain .outOfRange s
  | some a =>
    if count < 2 ∨ 128 < count ∨ endOk origin = false ∨ spacing < 1 ∨ 1000000 < spacing ∨ 1 < mode ∨
        65535 < check then plain .outOfRange s
    else if (s.cs.get a).st ≠ .loading then plain .wrongState s
    else
      match firstMissing (s.cs.get a) count with
      | some i => (⟨.incomplete, [.u8 i]⟩, s)
      | none =>
        if pointSum (s.cs.get a) count ≠ check then
          (⟨.badCheck, [.u16 (pointSum (s.cs.get a) count)]⟩, s)
        else
          plain .ok (updBank a (commitBank ⟨count, origin, spacing, if mode = 0 then .step else .linear, check⟩) s)

/-- COMP_CLEAR (R82). -/
def serveCompClear (axis : Nat) (s : State) : Answer × State :=
  match axisOf axis with
  | none => plain .outOfRange s
  | some a =>
    plain .ok (updBank a (fun b => { b with st := .empty, pts := Vector.replicate 128 none, geom := none }) s)

/-- Correction mode codes (Table 11-10). -/
def CompMode.num : CompMode → Nat
  | .step => 0 | .linear => 1

/-- The geometry of a bank as COMP_READ shows it (R83). -/
def geomFields (g : Geom) : List WField :=
  [.u8 g.count, .i32 g.origin, .u32 g.spacing.toNat, .u8 g.mode.num, .u16 g.check]

/-- The points of a bank as COMP_READ shows them (R83). -/
def readPoints (b : Bank) (first n : Nat) : List (List WField) :=
  let idx := (List.range n).map fun i => first + i
  let entry := fun i : Nat =>
    [WField.u8 i, .i16 (b.point i), flag (b.pts[i]?.getD none).isSome]
  match b.st with
  | .empty => []
  | .loading => idx.map entry
  | .active => (idx.filter fun i => decide (i < (b.geom.map fun g => g.count).getD 0)).map entry

/-- COMP_READ (R83). -/
def serveCompRead (axis first n : Nat) (s : State) : Answer × State :=
  match axisOf axis with
  | none => plain .outOfRange s
  | some a =>
    if 127 < first ∨ 32 < n ∨ 128 < first + n then plain .outOfRange s
    else
      let b := s.cs.get a
      (⟨.ok, .u8 b.st.num ::
        (optField (if b.st = .loading then some (.u8 (writtenCount b)) else none) ++
         optGroup (if b.st = .active then b.geom.map geomFields else none) ++
         listField (readPoints b first n))⟩, s)

/-! ## Clamp Controller and Hydraulic Supply -/

/-- Follow-on codes (Table 5-1). -/
def Follow.num : Follow → Nat
  | .none => 0 | .release => 1 | .clamp => 2

/-- Supply state codes (R100). -/
def Supply.num : Supply → Nat
  | .pumpOff => 0 | .starting => 1 | .ready => 2 | .low => 3

/-- Requester codes: X, Y, Z, B, GEAR (R94). -/
def Requester.num : Requester → Nat
  | .axis c => clampOrd c
  | .gear => 4

/-- Operation codes (R102). -/
def HydOp.num : HydOp → Nat
  | .release => 0 | .clamp => 1 | .stroke => 2

/-- One axis of the clamp report (R94). -/
def clampFields (s : State) (c : ClampAxis) : List WField :=
  let k := s.cc.get c
  [.u8 k.st.num, flag k.fromFault, .u8 k.policy.num, .u8 k.follow.num, flag (clampedSensor s c),
   flag (releasedSensor s c), flag (valveOn s c)]

/-- The clamp report (R94). Its sensors, valves and pump contactor are flags, on 1: the model's choice (assumption log,
entry 14). -/
def clampReport (s : State) : List WField :=
  (allClamps.map (clampFields s)).flatten ++
    [.u8 s.hs.st.num, flag (contactorOn s), flag s.hs.offDelay.on,
     .u8 ((s.hs.holder.map fun h => h.who.num).getD 5)] ++
    optField (s.hs.holder.map fun h => .u8 h.op.num) ++
    listField (s.hs.fifo.map fun r => [.u8 r.who.num, .u8 r.op.num])

/-- The reply of a taken CLAMP_SET. -/
def clampReply (s : State) : Answer × State := (⟨.ok, clampReport s⟩, s)

/-- CLAMP_SET CLAMP (R94). -/
def serveClamp (axis : Nat) (s : State) : Answer × State :=
  match clampOf axis with
  | none => plain .outOfRange s
  | some c =>
    if s.cn.machine = .tripped then plain .tripped s
    else if (s.cc.get c).policy = .never then plain .wrongState s
    else if (s.ax.get (clampAxis c)).owner ≠ .none then plain .busy s
    else clampReply (clampNeed c s)

/-- CLAMP_SET RELEASE (R94). -/
def serveRelease (axis : Nat) (s : State) : Answer × State :=
  match clampOf axis with
  | none => plain .outOfRange s
  | some c =>
    if s.cn.machine = .tripped then plain .tripped s
    else if (s.cc.get c).policy = .never then plain .wrongState s
    else clampReply (releaseNeed c s)

/-- CLAMP_SET with the action of its frame; NONE reads the report (R94). An action code above 2 is answered
OUT_OF_RANGE: the model's choice (assumption log, entry 38). -/
def serveClampSet (action axis : Nat) (s : State) : Answer × State :=
  match action with
  | 0 => serveClamp axis s
  | 1 => serveRelease axis s
  | 2 => clampReply s
  | _ => plain .outOfRange s

/-! ## Spindle and Gearbox Unit -/

def Dir.num : Dir → Nat
  | .cw => 0 | .ccw => 1

def CylEnd.num : CylEnd → Nat
  | .lo => 0 | .hi => 1

/-- Gear state codes (R118). -/
def GearState.num : GearState → Nat
  | .engaged _ => 0 | .unknown => 1 | .fault => 2 | .preparing => 3 | .orienting => 4 | .strokeWait => 5
  | .stroking => 6 | .meshing => 7 | .settling => 8

def keyFields (k : MeshKey) : List WField := [.u8 k.cyl.num, .u8 k.fin.num, .u8 k.other.num]

/-- A mesh table entry's fields (R135). -/
def meshFields (m : MeshEntry) : List WField :=
  keyFields m.key ++ [.u16 m.angle, .u8 m.hits, .u8 m.misses, .u32 m.stamp]

/-- The shift record's fields (R119). The stroke start position stands behind a presence byte, absent until the cylinder
in hand has had a grant: the model's choice (assumption log, entry 41). -/
def shiftFields (h : Shift) : List WField :=
  [.u8 h.target.num, .u16 h.origin, .u8 h.cyl.num, .u8 h.attA, .u8 h.attB] ++
    optField ((h.start h.cyl).map .i32) ++ optGroup ((h.key h.cyl).map keyFields) ++
    optGroup (h.entry.map meshFields) ++ [.u8 h.total]

/-- The spindle report (R113). What it gives as on or off, or as so or not so, is a flag: the model's choice (assumption
log, entry 14). -/
def spindleReport (s : State) : List WField :=
  let g := s.sgu
  [.u8 g.st.num, .u16 g.reqSpeed, .u8 g.reqDir.num, .u16 g.target, .u16 (g.ramped / 1000),
   .u8 g.turnDir.num, .u16 g.sAct, .u8 g.measDir.num, .i32 g.out, flag (spindleEnable s),
   flag (spindleReady s), flag g.indexPos.isSome] ++
    optField ((spindleAngle s).map .u16) ++
    [.u8 g.gear.num, .u8 (rangeNum (engagedRange s))] ++ optGroup (g.shift.map shiftFields) ++
    [.u32 g.shiftCount, flag (solenoidOn s .a .lo), flag (solenoidOn s .a .hi), flag (solenoidOn s .b .lo),
     flag (solenoidOn s .b .hi), flag (endSensor s .a .lo), flag (endSensor s .a .hi),
     flag (endSensor s .b .lo), flag (endSensor s .b .hi)]

/-- The reply of a taken SPINDLE_SET. -/
def spindleReply (s : State) : Answer × State := (⟨.ok, spindleReport s⟩, s)

/-- SPINDLE_SET STOP in a machine that is not TRIPPED, and RUN with speed 0 (R113). -/
def serveSpindleStop (s : State) : Answer × State :=
  if s.cn.machine = .tripped then spindleReply s
  else if shifting s then plain .busy s
  else spindleReply (spindleStopSpeed s)

/-- A start is refused for the drive: SPINDLE_DRIVE_FAULT is raw, or the ready input is off (R113, R115). -/
def driveRefuses (s : State) : Bool := rawOf s .spindleDriveFault || !spindleReady s

/-- SPINDLE_SET RUN (R113). -/
def serveSpindleRun (speed dir : Nat) (s : State) : Answer × State :=
  if 1 < dir then plain .outOfRange s
  else if speed = 0 then serveSpindleStop s
  else if s.cn.machine = .tripped then plain .tripped s
  else if s.cn.machine = .stopping then plain .wrongState s
  else if shifting s then plain .busy s
  else if (engagedRange s).isNone || driveRefuses s then plain .wrongState s
  else spindleReply (speedCommand (min 6000 speed) (if dir = 0 then .cw else .ccw) 0 s)

/-- SPINDLE_SET with the action of its frame (R113). -/
def serveSpindleSet (action speed dir : Nat) (s : State) : Answer × State :=
  match action with
  | 0 => serveSpindleRun speed dir s
  | 1 => serveSpindleStop s
  | 2 => spindleReply s
  | _ => plain .outOfRange s

/-- GEAR_SELECT (R119). -/
def serveGearSelect (range : Nat) (s : State) : Answer × State :=
  match rangeOf range with
  | none => plain .outOfRange s
  | some r =>
    if s.cn.machine = .tripped then plain .tripped s
    else if s.cn.machine = .stopping then plain .wrongState s
    else if s.sq.st ≠ .idle then plain .busy s
    else if shifting s then plain .busy s
    else if engagedRange s = some r then plain .ok s
    else plain .ok (startShift r 0 s)

/-- MESH_TABLE_READ (R135). -/
def serveMeshRead (s : State) : Answer × State :=
  (⟨.ok, [.u32 s.sgu.shiftCount, .i32 s.sgu.p.meshTol, .i32 s.sgu.p.meshAge, .i32 s.sgu.p.cpr] ++
    listField (s.sgu.mesh.map meshFields)⟩, s)

/-- MESH_TABLE_CLEAR (R135). -/
def serveMeshClear (s : State) : Answer × State := plain .ok { s with sgu.mesh := [] }

/-! ## Coolant Unit -/

/-- A demand's code, as a record or request spells it (Table 11-10). -/
def demandNum (on : Bool) : Nat := if on then 1 else 2

/-- Comparator state codes (R190). -/
def cmpNum (above : Bool) : Nat := if above then 0 else 1

def FloodState.num : FloodState → Nat
  | .off => 0 | .proving => 1 | .on => 2 | .fault => 3

def TscState.num : TscState → Nat
  | .off => 0 | .waitSpindle => 1 | .ramping => 2 | .on => 3 | .suspended => 4 | .purging => 5
  | .fault => 6

/-- The coolant report (R140). Its pumps, valves and timers are flags, on 1: the model's choice (assumption log,
entry 14). -/
def coolantReport (s : State) : List WField :=
  let c := s.cu
  [.u8 (demandNum c.floodDem), .u8 (demandNum c.tscDem), .u8 (demandNum c.mistDem), .u16 c.setP,
   .u8 c.flood.num, flag (floodPump s), .u8 (cmpNum (floodMin s)), flag c.floodDryT.on,
   .u8 c.tsc.num, .u16 c.duty, flag c.pump, flag (purgeValve s), .u16 (scaledOf s 2), flag (permit s),
   flag c.pendingOn, .u8 (mistState s), flag (mistValve s), .u8 (cmpNum (levelOk s)),
   .u8 (cmpNum (filterWarn s)), .u8 (cmpNum (filterBlock s))]

/-- COOLANT_SET (R140). Flood that is proved at once reads ON in the reply (R143). -/
def serveCoolant (flood tsc mist : Nat) (pressure : Option Nat) (s : State) : Answer × State :=
  match demOf flood, demOf tsc, demOf mist with
  | some f, some t, some m =>
    if s.cn.machine = .tripped then plain .tripped s
    else
      let s1 := coolantWrite f t m pressure s
      let s2 := (floodRule s1).getD s1
      (⟨.ok, coolantReport s2⟩, s2)
  | _, _, _ => plain .outOfRange s

/-! ## Pendant Port -/

/-- PENDANT_TEXT (R176). -/
def servePendantText (line : Nat) (chars : List Nat) (s : State) : Answer × State :=
  if h : 1 ≤ line ∧ line ≤ 4 then
    if chars.all fun c => decide (0x20 ≤ c ∧ c ≤ 0x7E) then
      plain .ok { s with pp.lines := s.pp.lines.set (line - 1) ⟨chars, true⟩ (by omega) }
    else plain .outOfRange s
  else plain .outOfRange s

/-- LINE_TEST (R178). -/
def serveLineTest (s : State) : Answer × State :=
  if s.pp.st = .testing ∨ anyOwner s .pendant = true then plain .busy s else plain .ok (startLineTest s)

/-- Selector codes (Table 11-9). -/
def selNum (a : Option Axis) : Nat := (a.map fun k => axisIdx k + 1).getD 0

def Mult.code : Mult → Nat
  | .m1 => 0 | .m10 => 1 | .m100 => 2

/-- The buttons of a frame in Table 11-9's byte. -/
def buttonByte (f : StatusFrame) : Nat :=
  f.jogP.toNat + 2 * f.jogM.toNat + 4 * f.rapid.toNat + 8 * f.hold.toNat + 16 * f.start.toNat +
    32 * f.flood.toNat

/-- The last frame's fields (R177). -/
def frameFields (f : StatusFrame) : List WField :=
  [.u8 f.seq, .u8 f.counter, .u8 (selNum f.sel), .u8 f.mult.code, .u8 (buttonByte f), .u8 f.enable.num,
   .u8 f.knob, flag f.estop]

def JogMode.num : JogMode → Nat
  | .none => 0 | .button => 1 | .wheel => 2

def JogDir.num : JogDir → Nat
  | .plus => 0 | .minus => 1 | .none => 2

def LtPhase.num : LtPhase → Nat
  | .none => 0 | .wait => 1 | .listen => 2 | .echo => 3

/-- One axis of PENDANT_STATUS (R177). -/
def jogFields (s : State) (a : Axis) : List WField :=
  let j := s.pp.jogs.get a
  [flag ((s.ax.get a).owner == .pendant), .u8 j.mode.num, .u8 j.dir.num, .i32 j.vel, .i32 j.wheel]

/-- A line-test result's fields (R177, R179). -/
def resultFields (r : LtResult) : List WField := .u8 r.num :: optField (r.distance.map .u16)

/-- PENDANT_STATUS (R177). Each display line is followed by its NEW flag: the model's choice (assumption log,
entry 14). -/
def servePendantStatus (s : State) : Answer × State :=
  let p := s.pp
  (⟨.ok, List.flatten
    [[.u8 p.st.num, flag p.armed, flag p.power],
     optGroup (p.last.map frameFields),
     optField (p.last.map fun f => .u8 f.enable.num),
     [flag (enableContact s), flag p.mismT.on, flag (rawOf s .pendantEnableMismatch)],
     (allAxes.map (jogFields s)).flatten,
     [.u8 (selNum p.intAxis), .u8 p.intMult.code, .u16 p.intLimit, .u16 p.intCount, .u16 (lampWord s)],
     p.lines.toList.flatMap fun l => l.text.map .u8 ++ [flag l.fresh],
     [.u8 p.ltPhase.num],
     optGroup (p.ltLast.map resultFields)]⟩, s)

/-! ## Input Filter and Analog Monitor -/

/-- One input of INPUT_READ (R187). The raw and filtered states are coded as flags, 1 for on: the model's choice
(assumption log, entry 14). -/
def inputFields (i : InputCh) : List WField :=
  [flag i.raw, flag i.filt, flag i.settled] ++ optField (if i.raw ≠ i.filt then some (.u8 i.t) else none)

/-- INPUT_READ (R187). -/
def serveInputRead (s : State) : Answer × State := (⟨.ok, s.inp.toList.flatMap inputFields⟩, s)

/-- ANALOG_READ (R192). -/
def serveAnalogRead (s : State) : Answer × State :=
  (⟨.ok, (s.am.chans.toList.flatMap fun k => [WField.u16 k.counts, .u16 k.scaled]) ++
    (s.am.cmps.toList.flatMap fun c => [WField.u8 (cmpNum c.above), .u8 c.cnt]) ++
    [.u8 s.am.next.val]⟩, s)

end Sys2Proof.Machine
end

