-- ==== Sys2Proof/Machine/Parse.lean ====
section
/-! DEFINITION. The request that a host frame's KIND and body spell (R211, R212, Tables 11-4, 11-6, 11-7, 11-10),
and the routing of a request to its block. -/

namespace Sys2Proof.Machine

/-! ## Numbers on the wire -/

/-- The number of a byte string, high byte first (R209). -/
def natOf (l : List Byte) : Nat := l.foldl (fun n b => n * 256 + b.toNat) 0

/-- Two bytes as a number. -/
def nat2 (a b : Byte) : Nat := a.toNat * 256 + b.toNat

/-- A number of n values in two's complement. -/
def signedOf (n m : Nat) : Int := if m < n / 2 then m else (m : Int) - n

/-- Four bytes as a signed number. -/
def int4 (a b c d : Byte) : Int := signedOf 4294967296 (natOf [a, b, c, d])

/-- Two bytes as a signed number. -/
def int2 (a b : Byte) : Int := signedOf 65536 (nat2 a b)

/-- A byte string as signed 32-bit numbers, where its length is four times their count. -/
def ints4 : Nat → List Byte → Option (List Int × List Byte)
  | 0, l => some ([], l)
  | n + 1, a :: b :: c :: d :: l => (ints4 n l).map fun r => (int4 a b c d :: r.1, r.2)
  | _ + 1, _ => none

/-- A byte string as signed 16-bit numbers. -/
def ints2 : List Byte → Option (List Int)
  | [] => some []
  | a :: b :: l => (ints2 l).map fun r => int2 a b :: r
  | [_] => none

/-- A byte string as pairs of bytes. -/
def pairsOf : List Byte → Option (List (Nat × Nat))
  | [] => some []
  | a :: b :: l => (pairsOf l).map fun r => (a.toNat, b.toNat) :: r
  | [_] => none

/-! ## The walk of an APPEND body (R212) -/

/-- What the walk of one record finds: the record and the bytes behind it, a record at which the walk stops, or
a body that is too short. -/
inductive Walked where
  | one (r : RawRec) (rest : List Byte)
  | halt (r : RawRec)
  | short
deriving DecidableEq, Repr

/-- A MOVE behind its kind code and seq. -/
def walkMove (seq : Nat) : List Byte → Walked
  | c :: l =>
    if c.toNat % 4 = 3 then .halt (.bad 1)
    else
      match l with
      | m :: n1 :: n0 :: l' =>
        if 32 ≤ m.toNat then .halt (.bad 1)
        else if c.toNat % 4 = 2 then
          match l' with
          | s1 :: s0 :: l'' =>
            match ints4 (maskAxes m.toNat).length l'' with
            | some (ends, rest) => .one (.move seq c.toNat m.toNat (nat2 n1 n0) (some (nat2 s1 s0)) ends) rest
            | none => .short
          | _ => .short
        else
          match ints4 (maskAxes m.toNat).length l' with
          | some (ends, rest) => .one (.move seq c.toNat m.toNat (nat2 n1 n0) none ends) rest
          | none => .short
      | m :: _ => if 32 ≤ m.toNat then .halt (.bad 1) else .short
      | [] => .short
  | [] => .short

/-- A COOLANT record behind its kind code and seq. -/
def walkCoolant (seq : Nat) : List Byte → Walked
  | ch :: f :: l =>
    if f.getLsbD 1 then
      match l with
      | p1 :: p0 :: rest => .one (.coolant seq ch.toNat f.toNat (some (nat2 p1 p0))) rest
      | _ => .short
    else .one (.coolant seq ch.toNat f.toNat none) l
  | _ => .short

/-- One record (Table 11-7). -/
def walkRec : List Byte → Walked
  | [] => .short
  | k :: l =>
    if k.toNat < 1 ∨ 7 < k.toNat then .halt (.bad k.toNat)
    else
      match l with
      | q1 :: q0 :: l' =>
        let seq := nat2 q1 q0
        match k.toNat, l' with
        | 1, l' => walkMove seq l'
        | 2, p1 :: p0 :: rest => .one (.dwell seq (nat2 p1 p0)) rest
        | 3, s1 :: s0 :: f :: rest => .one (.spindle seq (nat2 s1 s0) f.toNat) rest
        | 4, r :: rest => .one (.gear seq r.toNat) rest
        | 5, l' => walkCoolant seq l'
        | 6, a :: b :: rest => .one (.clamp seq a.toNat b.toNat) rest
        | 7, f :: rest => .one (.mark seq f.toNat) rest
        | _, _ => .short
      | _ => .short

/-- The records that a count declares; nothing for a body whose length does not match them. -/
def walkRecs : Nat → List Byte → Option (List RawRec)
  | 0, l => if l.isEmpty then some [] else none
  | n + 1, l =>
    match walkRec l with
    | .one r rest => (walkRecs n rest).map fun rs => r :: rs
    | .halt r => some [r]
    | .short => none

/-- An APPEND body (R212). -/
def parseAppend : List Byte → Request
  | [] => .badLength 0x10
  | c :: l =>
    if c.toNat < 1 ∨ 8 < c.toNat then .append c.toNat []
    else
      match walkRecs c.toNat l with
      | some rs => .append c.toNat rs
      | none => .badLength 0x10

/-! ## Optional fields -/

/-- An optional field: nothing for a body that is too short, else whether the presence byte is reserved, the
value and the bytes behind it. -/
def optBytes (width : Nat) : List Byte → Option (Bool × Option Nat × List Byte)
  | [] => none
  | p :: l =>
    if p = 0 then some (false, none, l)
    else if p = 1 then
      (if l.length < width then none else some (false, some (natOf (l.take width)), l.drop width))
    else some (true, none, [])

/-- A SET_OVERRIDE body. -/
def parseOverride (l : List Byte) : Request :=
  match optBytes 2 l with
  | none => .badLength 0x17
  | some (true, _, _) => .reserved 0x17
  | some (false, f, l1) =>
    match optBytes 2 l1 with
    | none => .badLength 0x17
    | some (true, _, _) => .reserved 0x17
    | some (false, r, l2) =>
      match optBytes 2 l2 with
      | none => .badLength 0x17
      | some (true, _, _) => .reserved 0x17
      | some (false, sp, l3) =>
        match optBytes 1 l3 with
        | none => .badLength 0x17
        | some (true, _, _) => .reserved 0x17
        | some (false, src, l4) => if l4.isEmpty then .setOverride f r sp src else .badLength 0x17

/-- A COOLANT_SET body. -/
def parseCoolant : List Byte → Request
  | f :: t :: m :: l =>
    match optBytes 2 l with
    | none => .badLength 0x24
    | some (true, _, _) => .reserved 0x24
    | some (false, p, l1) =>
      if l1.isEmpty then .coolantSet f.toNat t.toNat m.toNat p else .badLength 0x24
  | _ => .badLength 0x24

/-- An ACK_CONDITIONS body. -/
def parseAck : List Byte → Request
  | [] => .badLength 0x03
  | a :: l =>
    if a = 0 then
      match l with
      | c :: l' =>
        match pairsOf l' with
        | some ps => if ps.length = c.toNat then .ackConditions 0 ps else .badLength 0x03
        | none => .badLength 0x03
      | [] => .badLength 0x03
    else if l.isEmpty then .ackConditions a.toNat [] else .badLength 0x03

/-- A COMP_LOAD body. -/
def parseCompLoad : List Byte → Request
  | a :: f :: c :: l =>
    match ints2 l with
    | some vs => if vs.length = c.toNat then .compLoad a.toNat f.toNat vs else .badLength 0x1A
    | none => .badLength 0x1A
  | _ => .badLength 0x1A

/-- A body that must be empty. -/
def parseEmpty (kind : Nat) (r : Request) (l : List Byte) : Request :=
  if l.isEmpty then r else .badLength kind

/-- The request of a KIND and a body (R211, R212). -/
def parseRequest (kind : Nat) (l : List Byte) : Request :=
  match kind with
  | 0x01 => parseEmpty kind .identify l
  | 0x02 => parseEmpty kind .status l
  | 0x03 => parseAck l
  | 0x04 => parseEmpty kind .resetTrip l
  | 0x05 => parseEmpty kind .restart l
  | 0x06 =>
    match l with
    | [a, b, i, v3, v2, v1, v0] => .setParam (nat2 a b) i.toNat (int4 v3 v2 v1 v0)
    | _ => .badLength kind
  | 0x07 =>
    match l with
    | [a, b, i] => .getParam (nat2 a b) i.toNat
    | _ => .badLength kind
  | 0x10 => parseAppend l
  | 0x11 => parseEmpty kind .start l
  | 0x12 => parseEmpty kind .hold l
  | 0x13 => parseEmpty kind .resume l
  | 0x14 => parseEmpty kind .stop l
  | 0x15 => parseEmpty kind .flush l
  | 0x16 => parseEmpty kind .queueStatus l
  | 0x17 => parseOverride l
  | 0x18 =>
    match l with
    | [a] => .home a.toNat
    | _ => .badLength kind
  | 0x19 =>
    match l with
    | [a] => .axisStatus a.toNat
    | _ => .badLength kind
  | 0x1A => parseCompLoad l
  | 0x1B =>
    match l with
    | [a, c, o3, o2, o1, o0, s3, s2, s1, s0, m, k1, k0] =>
      .compCommit a.toNat c.toNat (int4 o3 o2 o1 o0) (natOf [s3, s2, s1, s0]) m.toNat (nat2 k1 k0)
    | _ => .badLength kind
  | 0x1C =>
    match l with
    | [a] => .compClear a.toNat
    | _ => .badLength kind
  | 0x1D =>
    match l with
    | [a, f, n] => .compRead a.toNat f.toNat n.toNat
    | _ => .badLength kind
  | 0x1E =>
    match l with
    | [c, a] => .clampSet c.toNat a.toNat
    | _ => .badLength kind
  | 0x20 =>
    match l with
    | [c, s1, s0, d] => .spindleSet c.toNat (nat2 s1 s0) d.toNat
    | _ => .badLength kind
  | 0x21 =>
    match l with
    | [r] => .gearSelect r.toNat
    | _ => .badLength kind
  | 0x22 => parseEmpty kind .meshTableRead l
  | 0x23 => parseEmpty kind .meshTableClear l
  | 0x24 => parseCoolant l
  | 0x28 =>
    match l with
    | n :: cs => if cs.length = 20 then .pendantText n.toNat (cs.map BitVec.toNat) else .badLength kind
    | [] => .badLength kind
  | 0x29 => parseEmpty kind .lineTest l
  | 0x2A => parseEmpty kind .pendantStatus l
  | 0x2C => parseEmpty kind .inputRead l
  | 0x2D => parseEmpty kind .analogRead l
  | _ => .unknown kind

/-- The KIND of a request (Table 11-4). -/
def requestKind : Request → Nat
  | .identify => 0x01 | .status => 0x02 | .ackConditions .. => 0x03 | .resetTrip => 0x04
  | .restart => 0x05 | .setParam .. => 0x06 | .getParam .. => 0x07 | .append .. => 0x10
  | .start => 0x11 | .hold => 0x12 | .resume => 0x13 | .stop => 0x14 | .flush => 0x15
  | .queueStatus => 0x16 | .setOverride .. => 0x17 | .home _ => 0x18 | .axisStatus _ => 0x19
  | .compLoad .. => 0x1A | .compCommit .. => 0x1B | .compClear _ => 0x1C | .compRead .. => 0x1D
  | .clampSet .. => 0x1E | .spindleSet .. => 0x20 | .gearSelect _ => 0x21 | .meshTableRead => 0x22
  | .meshTableClear => 0x23 | .coolantSet .. => 0x24 | .pendantText .. => 0x28 | .lineTest => 0x29
  | .pendantStatus => 0x2A | .inputRead => 0x2C | .analogRead => 0x2D
  | .unknown k | .badLength k | .reserved k => k

/-- A request is routed to its block (R211). -/
def serve (r : Request) (s : State) : Answer × State :=
  match r with
  | .identify => serveIdentify s
  | .status => serveStatus s
  | .ackConditions all pairs => serveAck all pairs s
  | .resetTrip => serveResetTrip s
  | .restart => serveRestart s
  | .setParam id inst v => serveSetParam id inst v s
  | .getParam id inst => serveGetParam id inst s
  | .append count recs => serveAppend count recs s
  | .start => serveStart s
  | .hold => serveHold s
  | .resume => serveResume s
  | .stop => serveStop s
  | .flush => serveFlush s
  | .queueStatus => serveQueueStatus s
  | .setOverride f r sp src => serveOverride f r sp src s
  | .home a => serveHome a s
  | .axisStatus a => serveAxisStatus a s
  | .compLoad a f vs => serveCompLoad a f vs s
  | .compCommit a c o sp m k => serveCompCommit a c o sp m k s
  | .compClear a => serveCompClear a s
  | .compRead a f n => serveCompRead a f n s
  | .clampSet action a => serveClampSet action a s
  | .spindleSet action speed dir => serveSpindleSet action speed dir s
  | .gearSelect r => serveGearSelect r s
  | .meshTableRead => serveMeshRead s
  | .meshTableClear => serveMeshClear s
  | .coolantSet f t m p => serveCoolant f t m p s
  | .pendantText n cs => servePendantText n cs s
  | .lineTest => serveLineTest s
  | .pendantStatus => servePendantStatus s
  | .inputRead => serveInputRead s
  | .analogRead => serveAnalogRead s
  | .unknown _ => plain .unknownKind s
  | .badLength _ => plain .badLength s
  | .reserved _ => plain .outOfRange s

end Sys2Proof.Machine
end

