-- ==== Sys2Proof/Machine/Resets.lean ====
section
/-! DEFINITION. The two resets (R206 to R208): the hardware reset and the teardown of a RESTART, block by block. -/

namespace Sys2Proof.Machine

/-! ## Hardware reset (R207) -/

/-- The rate code of the straps (Table 11-1): 0 for 1, 1 for 2 and 2 for 4 Mbit/s. -/
def strapRate (sel1Tied sel0Tied : Bool) : Nat :=
  match sel1Tied, sel0Tied with
  | false, true => 1
  | true, false => 2
  | _, _ => 0

/-- The frame that goes on being sent over a hardware reset: none at power-on, and at the RESET pin a frame that
has begun, whose end removes nothing (R206, R207). -/
def frameOverReset (cause : ResetCause) (tx : Option TxFrame) : Option TxFrame :=
  match cause with
  | .pin => tx.map fun f => { f with live := false }
  | _ => none

/-- Every block at its hardware-reset values, with the causes, straps and pins given (R207). -/
def hardwareReset (cause : ResetCause) (sel1Tied sel0Tied : Bool) (pins : BitVec 32) (s : State) : State :=
  let rate := strapRate sel1Tied sel0Tied
  { State.reset with
    pending := s.pending
    free := s.free
    inp := inputsReset pins
    rq := ⟨.hello cause rate, 0, 0⟩ :: reportsReset.tail
    hlp := { rx := .hunting, fifo := [], slot := none, tx := frameOverReset cause s.hlp.tx, cause := cause,
             rate := rate, ms := 0 } }

/-! ## The teardown of a RESTART (R208), block by block and without reports -/

/-- SQ (R29). -/
def restartSq (s : State) : State :=
  { s with sq := { SegQueue.reset with flowHigh := s.sq.flowHigh, flowLow := s.sq.flowLow } }

/-- One axis channel (R74, R77): it stands where the axis is, and a homing in SETTLE has completed. -/
def restartAxis (c : Int) (k : AxisCh) : AxisCh :=
  { k with owner := .none, setpoint := k.enc - c, prev := k.enc - c,
           refd := if k.phase = .none then k.refd else k.phase == .settle,
           phase := .none, hVel := 0, hRem := 0, hStep := .active, hFail := none, e := 0, inPos := true,
           atRest := true, out := 0, satCount := 0 }

/-- The axis channels (R77). -/
def restartAxes (s : State) : State := mapAx (fun a k => restartAxis (s.cs.get a).c k) s

/-- SGU (R137): FAULT is kept, and a shift is abandoned without its report. -/
def restartSgu (s : State) : State :=
  let s1 := if shifting s then shiftTeardown s else s
  { s1 with
    sgu.st := if s.sgu.st = .fault then .fault else .off
    sgu.reqSpeed := 0
    sgu.target := 0
    sgu.ramped := 0
    sgu.out := 0
    sgu.posMoving := false
    sgu.positionT := .stopped
    sgu.overload := 0
    sgu.overDone := false
    sgu.oilT := 0
    sgu.oilDone := false
    sgu.satCount := 0
    sgu.lostRange := 0
    sgu.shift := none }

/-- PP (R182): the axes' setpoints are those the axis channels have taken. The receiver hunts and a begun answer goes on:
the model's choice (assumption log, entry 28). -/
def restartPendant (s : State) : State :=
  { s with pp :=
    { Pendant.reset with
      last := s.pp.last
      jogs := s.ax.map fun _ k => Jog.still k.setpoint
      lines := s.pp.lines.map fun l => { l with fresh := false }
      tx := s.pp.tx
      ltLast := if s.pp.st = .testing then some .failed else s.pp.ltLast
      lineVf := s.pp.lineVf } }

/-- Every block's teardown (R208), the clamps and the supply as at a TRIP (R104). -/
def restartBlocks (s : State) : State :=
  restartPendant (restartAxes (restartSgu (clampsTrip (coolantTrip (piDrop (restartSq s))))))

/-! ## The rebuild (R206) -/

/-- The value of a level entry whose cause holds at a RESTART, and nothing for one whose cause does not hold
(R206). -/
def restartCause (s : State) : Cond → Option Int
  | .estopOpen => if inputOn s 0 then none else some 0
  | .drivesNotReady => if inputOn s 1 then none else some 0
  | .hardLimit a => if limitActive s a then some (if limitPlus s a then 1 else 0) else none
  | .gearPositionLost => if gearLostCause s then some s.sgu.lostRange else none
  | .spindleDriveFault =>
    if s.sgu.st = .fault ∧ spindleReady s = false then some s.sgu.faultFrom.num else none
  | .tscFilterWarn => if filterWarn s then some (scaledOf s 3) else none
  | .tscFilterBlocked => if filterBlock s then some (scaledOf s 3) else none
  | .coolantLevelLow => if levelOk s then none else some (scaledOf s 5)
  | _ => none

/-- A level entry rises with the reaction of its class. -/
def riseLevel (c : Cond) (value : Int) (s : State) : State :=
  match c.cls with
  | .note => riseNote c 0 value s
  | .hold => riseHold c 0 value s
  | .stop => riseStop c 0 value s
  | .trip => riseTrip c 0 value s

/-- Step 5 of R206 for one entry. -/
def rebuildEntry (s : State) (c : Cond) : State :=
  match restartCause s c with
  | some v => riseLevel c v s
  | none => s

/-- Steps 1 to 3 of R206: table and report queue are emptied and HELLO is queued. -/
def restartReports (s : State) : State :=
  queueReport (.hello .host s.hlp.rate)
    { s with cn.table := Vector.replicate 62 .clear, rq := [], hlp.cause := .host }

/-- Step 4 of R206. -/
def restartMachine (s : State) : State :=
  { s with cn.machine := if inputOn s 0 && inputOn s 1 then .ready else .tripped }

/-! ## The reports of the blocks, after HELLO and the rebuild (R206) -/

/-- The homing of one axis that a RESTART has ended (R74): `old` is the state before. -/
def restartHome (old s : State) (a : Axis) : State :=
  let k := old.ax.get a
  let failed := fun (r : HomeReason) (ph : HomePhase) =>
    queueReport (.homeDone a (.failed r ph)) (latch (.referenceFailed a) 0 r.num s)
  match k.phase with
  | .none => s
  | .settle => queueReport (.homeDone a (.ok k.p.homePosition)) s
  | .ending =>
    match k.hFail with
    | some (r, ph) => failed r ph
    | none => s
  | ph => failed (homeReason old a .aborted) ph

/-- GEAR_DONE of a shift that a RESTART has abandoned (R130). -/
def restartGear (old s : State) : State :=
  match old.sgu.shift with
  | some h => if shifting old then abortReport h s else s
  | none => s

/-- LINE_TEST_DONE of a test that a RESTART has ended (R178). -/
def restartTest (old s : State) : State :=
  if old.pp.st = .testing then queueReport (.lineTestDone .failed) s else s

/-- HLP (R208). -/
def restartLink (s : State) : State :=
  { s with hlp.rx := .hunting, hlp.fifo := [], hlp.slot := none, hlp.tx := none }

/-- The teardown of a RESTART (R206, R208). The blocks' reports follow the rebuild's CONDITION_RAISED, in the order
HOME_DONE, GEAR_DONE, LINE_TEST_DONE: the model's choice (assumption log, entry 53). -/
def restartTeardown (s : State) : State :=
  let s1 := restartMachine (restartReports (restartBlocks (restartLink s)))
  let s2 := (allConds.filter Cond.level).foldl rebuildEntry s1
  restartTest s (restartGear s (allAxes.foldl (restartHome s) s2))

end Sys2Proof.Machine
end

