-- ==== Sys2Proof/Machine/HostLink.lean ====
section
/-! DEFINITION. The Host Link Port's FIFO, reply slot and transmitter (R210, R211, R213), and the commands of the
link: the resets, the frames and the requests. Every command of this file answers a next state. -/

namespace Sys2Proof.Machine

/-- The outcome of a command. -/
abbrev Out := Host.Outcome State Fault Refusal

/-- What every command answers: the state after its effect and the closing rules of its event. -/
def done (s : State) : Out := .next (finish s)

/-! ## FIFO, slot and transmitter -/

/-- HLP takes the head request when its slot is empty: the request is served and its reply placed in the slot
(R211). -/
def takeNext (s : State) : State :=
  match s.hlp.slot, s.hlp.fifo with
  | none, e :: es =>
    let r := serve e.req { s with hlp.fifo := es }
    { r.2 with hlp.slot := some ⟨requestKind e.req, e.tag, r.1⟩ }
  | _, _ => s

/-- FRAME_DISCARDED with a value of Table 11-2 (R210). -/
def discardFrame (value : Int) (s : State) : State := latch .frameDiscarded 0 value s

/-- A request frame that has passed HLP's checks joins the FIFO, or is discarded when it holds 4 (R210). -/
def accept (tag : Nat) (r : Request) (s : State) : State :=
  let s1 := { s with hlp.rx := .hunting }
  if 4 ≤ s.hlp.fifo.length then discardFrame 3 s1
  else takeNext { s1 with hlp.fifo := s.hlp.fifo ++ [⟨tag, r⟩] }

/-- A frame read whole, from LENGTH to the second CRC byte (R210). -/
def frameRead (l : List Byte) (s : State) : State :=
  match l with
  | len :: kind :: tag :: rest =>
    if rest.length = len.toNat then
      let s1 := { s with hlp.rx := .hunting }
      let body := rest.take (len.toNat - 2)
      let crc := rest.drop (len.toNat - 2)
      if len.toNat < 2 ∨ 250 < len.toNat then discardFrame 0 s1
      else if crcMatches (len :: kind :: tag :: body) (crc.getD 0 0) (crc.getD 1 0) = false then
        discardFrame 2 s1
      else if kind.toNat < 1 ∨ 0x3F < kind.toNat then discardFrame 4 s1
      else accept tag.toNat (parseRequest kind.toNat body) s
    else s
  | _ => s

/-- The byte that ends a gap is examined as a hunting byte (R210). -/
def huntByte (b : Byte) : RxState := if b = 0x5A then .inFrame else .hunting

/-- The reply in the slot is RESTART's (R208). -/
def restartWaits (s : State) : Bool :=
  match s.hlp.slot with
  | some r => r.kind == 0x05 && r.ans.code == .ok
  | none => false

/-- A reply frame has been fully sent (R208, R211, R213). -/
def replyDone (s : State) : State :=
  match s.hlp.tx with
  | some ⟨true, true, _⟩ =>
    if restartWaits s then restartTeardown s
    else takeNext { s with hlp.tx := none, hlp.slot := none }
  | some ⟨true, false, _⟩ => { s with hlp.tx := none }
  | _ => s

/-- A report frame has been fully sent (R205). -/
def reportDone (s : State) : State :=
  match s.hlp.tx with
  | some ⟨false, true, _⟩ =>
    match s.rq with
    | e :: es =>
      let s1 := { s with hlp.tx := none, rq := es }
      if 0 < e.overran then latch .reportLost 0 e.overran s1 else s1
    | [] => { s with hlp.tx := none }
  | some ⟨false, false, _⟩ => { s with hlp.tx := none }
  | _ => s

/-! ## The link's commands -/

/-- HARDWARE_RESET (R207). -/
def execHardwareReset (cause : ResetCause) (sel1Tied sel0Tied : Bool) (pins : BitVec 32) (s : State) : Out :=
  done (hardwareReset cause sel1Tied sel0Tied pins s)

/-- HOST_FRAME_RECEIVED (R210). -/
def execHostFrameReceived (bytes : List Byte) (s : State) : Out := done (frameRead bytes s)

/-- FRAME_GAP_TIMEOUT (R210). -/
def execFrameGapTimeout (next : Byte) (s : State) : Out :=
  done (discardFrame 1 { s with hlp.rx := huntByte next })

/-- LENGTH_OUT_OF_RANGE (R210). -/
def execLengthOutOfRange (len : Byte) (s : State) : Out :=
  done (if len.toNat < 2 ∨ 250 < len.toNat then discardFrame 0 { s with hlp.rx := .hunting } else s)

/-- UNKNOWN_KIND (R211). -/
def execUnknownKind (kind tag : Nat) (s : State) : Out := done (accept tag (.unknown kind) s)

/-- REPLY_SENT (R213). -/
def execReplySent (s : State) : Out := done (replyDone s)

/-- REPORT_SENT (R205). -/
def execReportSent (s : State) : Out := done (reportDone s)

/-- RESTART_TEARDOWN (R208): the event in which the RESTART reply has been fully sent. -/
def execRestartTeardown (s : State) : Out :=
  done (if restartWaits s && (match s.hlp.tx with
      | some f => f.isReply && f.live
      | none => false) then restartTeardown s else s)

/-! ## The requests -/

/-- IDENTIFY (R207). -/
def execIdentify (tag : Nat) (s : State) : Out := done (accept tag .identify s)

/-- STATUS (R203). -/
def execStatus (tag : Nat) (s : State) : Out := done (accept tag .status s)

/-- ACK_CONDITIONS (R202). -/
def execAckConditions (tag all : Nat) (pairs : List (Nat × Nat)) (s : State) : Out :=
  done (accept tag (.ackConditions all pairs) s)

/-- RESET_TRIP (R201). -/
def execResetTrip (tag : Nat) (s : State) : Out := done (accept tag .resetTrip s)

/-- RESTART (R208). -/
def execRestart (tag : Nat) (s : State) : Out := done (accept tag .restart s)

/-- SET_PARAM (R214). -/
def execSetParam (tag id inst : Nat) (value : Int) (s : State) : Out :=
  done (accept tag (.setParam id inst value) s)

/-- GET_PARAM (R214). -/
def execGetParam (tag id inst : Nat) (s : State) : Out := done (accept tag (.getParam id inst) s)

/-- APPEND (R3 to R5). -/
def execAppend (tag count : Nat) (recs : List RawRec) (s : State) : Out :=
  done (accept tag (.append count recs) s)

/-- START (R7, R8). -/
def execStart (tag : Nat) (s : State) : Out := done (accept tag .start s)

/-- HOLD (R9). -/
def execHold (tag : Nat) (s : State) : Out := done (accept tag .hold s)

/-- RESUME (R10). -/
def execResume (tag : Nat) (s : State) : Out := done (accept tag .resume s)

/-- STOP (R12). -/
def execStop (tag : Nat) (s : State) : Out := done (accept tag .stop s)

/-- FLUSH (R15). -/
def execFlush (tag : Nat) (s : State) : Out := done (accept tag .flush s)

/-- QUEUE_STATUS (R27). -/
def execQueueStatus (tag : Nat) (s : State) : Out := done (accept tag .queueStatus s)

/-- SET_OVERRIDE (R36). -/
def execSetOverride (tag : Nat) (feed rapid spindle source : Option Nat) (s : State) : Out :=
  done (accept tag (.setOverride feed rapid spindle source) s)

/-- HOME (R68). -/
def execHome (tag axis : Nat) (s : State) : Out := done (accept tag (.home axis) s)

/-- AXIS_STATUS (R75). -/
def execAxisStatus (tag axis : Nat) (s : State) : Out := done (accept tag (.axisStatus axis) s)

/-- COMP_LOAD (R80). -/
def execCompLoad (tag axis first : Nat) (values : List Int) (s : State) : Out :=
  done (accept tag (.compLoad axis first values) s)

/-- COMP_COMMIT (R81). -/
def execCompCommit (tag axis count : Nat) (origin spacing : Int) (mode check : Nat) (s : State) : Out :=
  done (accept tag (.compCommit axis count origin spacing mode check) s)

/-- COMP_CLEAR (R82). -/
def execCompClear (tag axis : Nat) (s : State) : Out := done (accept tag (.compClear axis) s)

/-- COMP_READ (R83). -/
def execCompRead (tag axis first count : Nat) (s : State) : Out :=
  done (accept tag (.compRead axis first count) s)

/-- CLAMP_SET_CLAMP (R94). -/
def execClampSetClamp (tag axis : Nat) (s : State) : Out := done (accept tag (.clampSet 0 axis) s)

/-- CLAMP_SET_RELEASE (R94). -/
def execClampSetRelease (tag axis : Nat) (s : State) : Out := done (accept tag (.clampSet 1 axis) s)

/-- CLAMP_SET_NONE (R94). -/
def execClampSetNone (tag axis : Nat) (s : State) : Out := done (accept tag (.clampSet 2 axis) s)

/-- SPINDLE_SET_RUN (R113). -/
def execSpindleSetRun (tag speed dir : Nat) (s : State) : Out :=
  done (accept tag (.spindleSet 0 speed dir) s)

/-- SPINDLE_SET_STOP (R113). -/
def execSpindleSetStop (tag : Nat) (s : State) : Out := done (accept tag (.spindleSet 1 0 0) s)

/-- SPINDLE_SET_NONE (R113). -/
def execSpindleSetNone (tag : Nat) (s : State) : Out := done (accept tag (.spindleSet 2 0 0) s)

/-- GEAR_SELECT (R119). -/
def execGearSelect (tag range : Nat) (s : State) : Out := done (accept tag (.gearSelect range) s)

/-- MESH_TABLE_READ (R135). -/
def execMeshTableRead (tag : Nat) (s : State) : Out := done (accept tag .meshTableRead s)

/-- MESH_TABLE_CLEAR (R135). -/
def execMeshTableClear (tag : Nat) (s : State) : Out := done (accept tag .meshTableClear s)

/-- COOLANT_SET (R140). -/
def execCoolantSet (tag flood tsc mist : Nat) (pressure : Option Nat) (s : State) : Out :=
  done (accept tag (.coolantSet flood tsc mist pressure) s)

/-- PENDANT_TEXT (R176). -/
def execPendantText (tag line : Nat) (chars : List Nat) (s : State) : Out :=
  done (accept tag (.pendantText line chars) s)

/-- LINE_TEST (R178). -/
def execLineTest (tag : Nat) (s : State) : Out := done (accept tag .lineTest s)

/-- PENDANT_STATUS (R177). -/
def execPendantStatus (tag : Nat) (s : State) : Out := done (accept tag .pendantStatus s)

/-- INPUT_READ (R187). -/
def execInputRead (tag : Nat) (s : State) : Out := done (accept tag .inputRead s)

/-- ANALOG_READ (R192). -/
def execAnalogRead (tag : Nat) (s : State) : Out := done (accept tag .analogRead s)

end Sys2Proof.Machine
end

