-- ==== Sys2Proof/Machine/Events.lean ====
section
/-! DEFINITION. The commands that are no host frames: path periods, edges, input and analog events, the ends of the
blocks' timers, and the pendant link. A timer's command acts when its timer runs and stands at its limit; at any
other time the event it names is not there, and nothing changes (assumption log, entry 5). Every command of this
file answers a next state. -/

namespace Sys2Proof.Machine

/-- A change made where a condition holds. -/
def whenDue (b : Bool) (f : State → State) (s : State) : State := if b then f s else s

/-! ## Queue and path -/

/-- A current MOVE waits at step 3 of R17 in RUNNING, and all its axes are RELEASED. -/
def moveReady (s : State) : Option (Nat × MoveRec) :=
  match currentRec s with
  | some ⟨q, .move m⟩ => if s.sq.st = .running ∧ s.sq.waiting = true ∧ legsReleased s m = true then some (q, m) else none
  | _ => none

/-- Step 4 of R17 for a MOVE that waited. -/
def moveGo (s : State) : State :=
  match moveReady s with
  | some (q, m) => moveStep4 q m s
  | none => s

/-- MOVE_START (R17). -/
def execMoveStart (s : State) : Out := done (moveGo s)

/-- PATH_PERIOD (R31, R60, R110): the period's work, what follows from it, and the values AXIS_STATUS shows from
then on (R75). -/
def execPathPeriod (s : State) : Out := .next (snapAll (finish (periodWork s)))

/-- A DWELL is current in RUNNING with its count at 0 (R19). -/
def dwellOver (s : State) : Bool :=
  match currentRec s with
  | some ⟨_, .dwell _⟩ => s.sq.st == .running && s.sq.dwellLeft == 0
  | _ => false

/-- DWELL_END (R19). -/
def execDwellEnd (s : State) : Out := done (whenDue (dwellOver s) completeHead s)

/-! ## Edges -/

/-- The encoder position after an edge (R59). -/
def encCount (forward : Bool) (k : AxisCh) : AxisCh :=
  { k with enc := fit32 (if forward = (k.p.encDir == 0) then k.enc + 1 else k.enc - 1) }

/-- ENCODER_EDGE (R59). -/
def execEncoderEdge (a : Axis) (forward : Bool) (s : State) : Out := done (updAx a (encCount forward) s)

/-- AXIS_INDEX_EDGE (R59). Of two edges before the path period that takes the reference mark (R71) the later one counts:
the model's choice (assumption log, entry 32). -/
def execAxisIndexEdge (a : Axis) (s : State) : Out :=
  done (updAx a (fun k => { k with latch := some k.enc }) s)

/-- The position count after an edge (R111). -/
def spindleCount (cw : Bool) (s : State) : State :=
  { s with sgu.pos := fit32 (if cw then s.sgu.pos + 1 else s.sgu.pos - 1) }

/-- SPINDLE_ENCODER_EDGE (R111). -/
def execSpindleEncoderEdge (cw : Bool) (s : State) : Out := done (spindleCount cw s)

/-- The index position after an index edge (R111): only the first edge since the flag was cleared is taken. -/
def spindleIndex (s : State) : State := { s with sgu.indexPos := some (s.sgu.indexPos.getD s.sgu.pos) }

/-- SPINDLE_INDEX_EDGE (R111). -/
def execSpindleIndexEdge (s : State) : Out := done (spindleIndex s)

/-! ## Inputs and analog -/

/-- INPUT_RAW_CHANGE (R184). -/
def execInputRawChange (n : Fin 32) (level : Bool) (s : State) : Out := done (rawChange n level s)

/-- INPUT_FILTER_TIME_REACHED (R184, R185). -/
def execInputFilterTimeReached (n : Fin 32) (s : State) : Out := done (filterStep n s)

/-- ANALOG_CONVERSION (R188 to R190): the channel whose turn it is reads the counts given, of 12 bits. -/
def execAnalogConversion (counts : Nat) (s : State) : Out := done (conversion (min 4095 counts) s)

/-! ## Clamps and supply -/

/-- The idle time stands at clamp_delay (R93). -/
def idleDue (s : State) (c : ClampAxis) : Bool := idleRuns s c && decide ((s.cc.get c).delay ≤ (s.cc.get c).idle)

/-- The idle clamp of an axis (R93). -/
def idleClampStep (c : ClampAxis) (s : State) : State := clampNeed c (updClamp c (fun k => { k with idle := 0 }) s)

/-- IDLE_CLAMP (R93). -/
def execIdleClamp (c : ClampAxis) (s : State) : Out := done (whenDue (idleDue s c) (idleClampStep c) s)

/-- A release stands at release_time (R96). -/
def releaseDue (s : State) (c : ClampAxis) : Bool := (s.cc.get c).st == .releasing && (s.cc.get c).op.due

/-- RELEASE_TIMEOUT (R96). -/
def execReleaseTimeout (c : ClampAxis) (s : State) : Out := done (whenDue (releaseDue s c) (clampTimedOut c 0) s)

/-- A clamp stands at clamp_time (R97). -/
def clampDue (s : State) (c : ClampAxis) : Bool := (s.cc.get c).st == .clamping && (s.cc.get c).op.due

/-- CLAMP_TIMEOUT (R97). -/
def execClampTimeout (c : ClampAxis) (s : State) : Out := done (whenDue (clampDue s c) (clampTimedOut c 1) s)

/-- PUMP_OFF_DELAY (R100). -/
def execPumpOffDelay (s : State) : Out := done (whenDue s.hs.offDelay.due pumpStop s)

/-- STARTING stands at hyd_start_time (R101). -/
def startDue (s : State) : Bool := s.hs.st == .starting && s.hs.startT.due

/-- HYD_START_TIMEOUT (R101). -/
def execHydStartTimeout (s : State) : Out := done (whenDue (startDue s) (supplyLow 0) s)

/-! ## Gear shift and spindle -/

/-- PREPARE_TIMEOUT (R120). -/
def execPrepareTimeout (s : State) : Out := done (whenDue s.sgu.prepareT.due (shiftFail .prepare) s)

/-- POSITION_TIMEOUT (R122). -/
def execPositionTimeout (s : State) : Out := done (whenDue s.sgu.positionT.due (shiftFail .position) s)

/-- A stroke stands at stroke_time (R124). -/
def strokeDue (s : State) : Bool := s.sgu.gear == .stroking && s.sgu.strokeT.due

/-- STROKE_TIMEOUT (R124). -/
def execStrokeTimeout (s : State) : Out := done (whenDue (strokeDue s) enterMeshing s)

/-- The end of a dwell in MESHING (R125): the next attempt, or the failure after attempt 8. -/
def dwellNext (s : State) : State :=
  match s.sgu.shift with
  | some h => if 8 ≤ h.att h.cyl then shiftFail .mesh s else nextAttempt s
  | none => s

/-- A dwell of MESHING stands at mesh_dwell (R125). -/
def meshDue (s : State) : Bool := s.sgu.gear == .meshing && s.sgu.dwellT.due

/-- MESH_DWELL_END (R125). -/
def execMeshDwellEnd (s : State) : Out := done (whenDue (meshDue s) dwellNext s)

/-- SETTLING stands at settle_time (R128). -/
def settleDue (s : State) : Bool := s.sgu.gear == .settling && s.sgu.settleT.due

/-- SETTLE_TIME_REACHED (R128). -/
def execSettleTimeReached (s : State) : Out := done (whenDue (settleDue s) shiftSuccess s)

/-- The overload time stands at overload_time and has not raised (R116). -/
def overloadDue (s : State) : Bool :=
  loadMax s && spindleRuns s && !s.sgu.overDone && decide (s.sgu.p.overloadTime ≤ s.sgu.overload)

/-- SPINDLE_OVERLOAD's raise (R116). -/
def overloadRaise (s : State) : State :=
  raiseStop .spindleOverload (moveSeq s) s.sgu.sAct { s with sgu.overDone := true }

/-- SPINDLE_OVERLOAD (R116). -/
def execSpindleOverload (s : State) : Out := done (whenDue (overloadDue s) overloadRaise s)

/-- The oil grace time stands at oil_grace (R116). Once it is over it stays over until the spindle starts again, whatever
oil_grace is then written: the model's choice (assumption log, entry 47). -/
def oilDue (s : State) : Bool := spindleRuns s && !s.sgu.oilDone && decide (s.sgu.p.oilGrace ≤ s.sgu.oilT)

/-- OIL_GRACE_END (R116). GEAR_OIL_LOW follows by the closing rules. -/
def execOilGraceEnd (s : State) : Out := done (whenDue (oilDue s) (fun s => { s with sgu.oilDone := true }) s)

/-! ## Coolant -/

/-- FLOOD_PROVE_TIMEOUT (R143). -/
def execFloodProveTimeout (s : State) : Out := done (whenDue s.cu.proveT.due (floodFault 0) s)

/-- FLOOD_DRY_TIMEOUT (R144). -/
def execFloodDryTimeout (s : State) : Out := done (whenDue s.cu.floodDryT.due (floodFault 4) s)

/-- TSC_RAMP_TIMEOUT (R149). -/
def execTscRampTimeout (s : State) : Out := done (whenDue s.cu.rampT.due (tscFault 0) s)

/-- The pump goes off in SUSPENDED (R150); its dry timer has no pump to watch (R152). -/
def keepOver (s : State) : State := { s with cu.pump := false, cu.keepT := .stopped, cu.tscDryT := .stopped }

/-- SUSPEND_KEEP_END (R150). -/
def execSuspendKeepEnd (s : State) : Out := done (whenDue s.cu.keepT.due keepOver s)

/-- PURGE_END (R151, R152). -/
def execPurgeEnd (s : State) : Out := done (whenDue s.cu.purgeT.due purgeDone s)

/-- TSC_DRY_TIMEOUT (R152). -/
def execTscDryTimeout (s : State) : Out := done (whenDue s.cu.tscDryT.due (tscFault 3) s)

/-! ## Pendant link -/

/-- A pendant frame read whole (R159, R160): bytes that are no valid status frame are discarded, and in TESTING every
byte is ignored. -/
def pendantRead (l : List Byte) (s : State) : State :=
  if s.pp.st = .testing then s
  else
    let s1 := { s with pp.rx := .hunting }
    match parseStatus l with
    | some f => takeFrame f s1
    | none => s1

/-- PENDANT_FRAME (R160). -/
def execPendantFrame (bytes : List Byte) (s : State) : Out := done (pendantRead bytes s)

/-- PENDANT_FRAME_GAP (R159): the byte that ends the gap is examined as a hunting byte. -/
def execPendantFrameGap (next : Byte) (s : State) : Out :=
  done (whenDue (s.pp.st != .testing) (fun s => { s with pp.rx := huntByte next }) s)

/-- HANDWHEEL_INTERVAL (R174). -/
def execHandwheelInterval (s : State) : Out := done (whenDue s.pp.intT.due startInterval s)

/-- PENDANT_ANSWER_SENT (R161). A due answer is built by the end of the command. -/
def execPendantAnswerSent (s : State) : Out := done { s with pp.tx := none }

/-- The freshness timer stands at 50 ms in PRESENT (R163). -/
def freshDue (s : State) : Bool := s.pp.st == .present && s.pp.freshT.due

/-- PENDANT_TIMEOUT (R163). -/
def execPendantTimeout (s : State) : Out := done (whenDue (freshDue s) pendantLost s)

/-- The mismatch timer stands at 50 ms and has not raised (R165). -/
def mismatchDue (s : State) : Bool := s.pp.mismT.due && !rawOf s .pendantEnableMismatch

/-- ENABLE_MISMATCH (R165). -/
def execEnableMismatch (s : State) : Out := done (whenDue (mismatchDue s) mismatchRaise s)

/-- REFUSE_TIMER_END (R161). -/
def execRefuseTimerEnd (s : State) : Out :=
  done (whenDue s.pp.refuseT.due (fun s => { s with pp.refuseT := .stopped }) s)

/-- CLIP_TIMER_END (R161). -/
def execClipTimerEnd (s : State) : Out := done (whenDue s.pp.clipT.due (fun s => { s with pp.clipT := .stopped }) s)

/-! ## Line test -/

/-- WAIT stands at 300 ms (R178). -/
def waitDue (s : State) : Bool := s.pp.ltPhase == .wait && s.pp.ltT.due

/-- LINE_TEST_WAIT_END (R178). -/
def execLineTestWaitEnd (s : State) : Out :=
  done (whenDue (waitDue s) (fun s => { s with pp.ltPhase := .listen, pp.ltT := .start 50 }) s)

/-- LINE_TEST_ACTIVITY (R178). -/
def execLineTestActivity (s : State) : Out := done (whenDue (s.pp.ltPhase == .listen) (endLineTest .failed) s)

/-- LISTEN stands at 50 ms (R178). -/
def listenDue (s : State) : Bool := s.pp.ltPhase == .listen && s.pp.ltT.due

/-- LINE_TEST_LISTEN_END (R178). -/
def execLineTestListenEnd (s : State) : Out :=
  done (whenDue (listenDue s) (fun s => { s with pp.ltPhase := .echo, pp.ltT := .stopped }) s)

/-- The result of a reflection (R179). -/
def echoResult (ns vf : Nat) (inverted : Bool) : LtResult :=
  if inverted then .short (echoDistance ns vf) else .isOpen (echoDistance ns vf)

/-- A reflection comes within the echo window (R179). -/
def echoInWindow (s : State) (ns : Nat) : Bool :=
  s.pp.ltPhase == .echo && decide (echoDistance ns s.pp.lineVf ≤ 511)

/-- LINE_TEST_REFLECTION (R179). -/
def execLineTestReflection (ns : Nat) (inverted : Bool) (s : State) : Out :=
  done (whenDue (echoInWindow s ns) (endLineTest (echoResult ns s.pp.lineVf inverted)) s)

/-- LINE_TEST_ECHO_WINDOW_END (R179). -/
def execLineTestEchoWindowEnd (s : State) : Out :=
  done (whenDue (s.pp.ltPhase == .echo) (endLineTest .normal) s)

end Sys2Proof.Machine
end

