-- ==== Sys2Proof/Machine/Clock.lean ====
section
/-! DEFINITION. The millisecond (section 0.4): what step does when no command waits. Every timer of the blocks counts
one millisecond, and the events that fall due are put in the queue with the path period (assumption log, entry 6). -/

namespace Sys2Proof.Machine

/-- Clamp Controller timers (R93, R95). -/
def tickClamps (s : State) : State :=
  { s with cc := s.cc.map fun c k =>
      { k with op := k.op.tick, idle := if idleRuns s c then min (k.idle + 1) k.delay else k.idle } }

/-- Hydraulic Supply timers (R100). -/
def tickHyd (s : State) : State := { s with hs.offDelay := s.hs.offDelay.tick, hs.startT := s.hs.startT.tick }

/-- Spindle and gear timers (R116, R120, R122, R124, R125, R127). -/
def tickSgu (s : State) : State :=
  { s with
    sgu.overload :=
      if loadMax s && spindleRuns s then min (s.sgu.overload + 1) s.sgu.p.overloadTime else s.sgu.overload
    sgu.oilT := if spindleRuns s && !s.sgu.oilDone then s.sgu.oilT + 1 else s.sgu.oilT
    sgu.prepareT := s.sgu.prepareT.tick
    sgu.positionT := s.sgu.positionT.tick
    sgu.strokeT := s.sgu.strokeT.tick
    sgu.dwellT := s.sgu.dwellT.tick
    sgu.settleT := s.sgu.settleT.tick }

/-- Coolant timers (R143, R144, R149 to R152). -/
def tickCoolant (s : State) : State :=
  { s with cu.proveT := s.cu.proveT.tick, cu.floodDryT := s.cu.floodDryT.tick, cu.rampT := s.cu.rampT.tick,
           cu.keepT := s.cu.keepT.tick, cu.purgeT := s.cu.purgeT.tick, cu.tscDryT := s.cu.tscDryT.tick }

/-- Pendant timers (R161, R163, R165, R174, R178). -/
def tickPendant (s : State) : State :=
  { s with pp.freshT := s.pp.freshT.tick, pp.mismT := s.pp.mismT.tick, pp.intT := s.pp.intT.tick,
           pp.refuseT := s.pp.refuseT.tick, pp.clipT := s.pp.clipT.tick, pp.ltT := s.pp.ltT.tick }

/-- Input stability timers (R184): they stop at 255 ms, above every filter time. -/
def tickInputs (s : State) : State := { s with inp := s.inp.map fun i => { i with t := min (i.t + 1) 255 } }

/-- The millisecond counter (R204). -/
def tickMs (s : State) : State := { s with hlp.ms := (s.hlp.ms + 1) % 4294967296 }

/-- Every timer counts one millisecond. -/
def tickTimers (s : State) : State :=
  tickMs (tickInputs (tickPendant (tickCoolant (tickSgu (tickHyd (tickClamps s))))))

/-- The command given where its event is due. -/
def dueOne (b : Bool) (c : Instr) : List Instr := if b then [c] else []

/-- A DWELL that the period ahead brings to 0 (R19). -/
def dwellEnds (s : State) : Bool :=
  match currentRec s with
  | some ⟨_, .dwell _⟩ => s.sq.st == .running && decide (s.sq.dwellLeft ≤ 1)
  | _ => false

/-- The events that are due, in the order of the opcode table, with the path period behind them. -/
def dueEvents (s : State) : List Instr :=
  List.flatten
    [dueOne (moveReady s).isSome .moveStart,
     (List.finRange 32).flatMap fun n => dueOne s.inp[n].due (.inputFilterTimeReached n),
     allClamps.flatMap fun c => dueOne (idleDue s c) (.idleClamp c),
     allClamps.flatMap fun c => dueOne (releaseDue s c) (.releaseTimeout c),
     allClamps.flatMap fun c => dueOne (clampDue s c) (.clampTimeout c),
     dueOne s.hs.offDelay.due .pumpOffDelay, dueOne (startDue s) .hydStartTimeout,
     dueOne s.sgu.prepareT.due .prepareTimeout, dueOne s.sgu.positionT.due .positionTimeout,
     dueOne (strokeDue s) .strokeTimeout, dueOne (meshDue s) .meshDwellEnd,
     dueOne (settleDue s) .settleTimeReached, dueOne (overloadDue s) .spindleOverload,
     dueOne (oilDue s) .oilGraceEnd,
     dueOne s.cu.proveT.due .floodProveTimeout, dueOne s.cu.floodDryT.due .floodDryTimeout,
     dueOne s.cu.rampT.due .tscRampTimeout, dueOne s.cu.keepT.due .suspendKeepEnd,
     dueOne s.cu.purgeT.due .purgeEnd, dueOne s.cu.tscDryT.due .tscDryTimeout,
     dueOne s.pp.intT.due .handwheelInterval, dueOne (freshDue s) .pendantTimeout,
     dueOne (mismatchDue s) .enableMismatch, dueOne s.pp.refuseT.due .refuseTimerEnd,
     dueOne s.pp.clipT.due .clipTimerEnd, dueOne (waitDue s) .lineTestWaitEnd,
     dueOne (listenDue s) .lineTestListenEnd,
     [.pathPeriod],
     dueOne (dwellEnds s) .dwellEnd]

/-- One millisecond with no command waiting. -/
def tick (s : State) : State :=
  let s1 := tickTimers s
  { s1 with pending := dueEvents s1 }

end Sys2Proof.Machine
end

