-- ==== Sys2Proof/Machine/Dispatch.lean ====
section
/-! DEFINITION. What every command does to everything but the queue: one arm per row of the opcode table. -/

namespace Sys2Proof.Machine

def exec (i : Instr) (s : State) : Host.Outcome State Fault Refusal :=
  match i with
  | .hardwareReset cause sel1Tied sel0Tied pins => Sys2Proof.Machine.execHardwareReset cause sel1Tied sel0Tied pins s
  | .hostFrameReceived bytes => Sys2Proof.Machine.execHostFrameReceived bytes s
  | .frameGapTimeout next => Sys2Proof.Machine.execFrameGapTimeout next s
  | .unknownKind kind tag => Sys2Proof.Machine.execUnknownKind kind tag s
  | .replySent => Sys2Proof.Machine.execReplySent s
  | .reportSent => Sys2Proof.Machine.execReportSent s
  | .identify tag => Sys2Proof.Machine.execIdentify tag s
  | .status tag => Sys2Proof.Machine.execStatus tag s
  | .ackConditions tag flag pairs => Sys2Proof.Machine.execAckConditions tag flag pairs s
  | .resetTrip tag => Sys2Proof.Machine.execResetTrip tag s
  | .restart tag => Sys2Proof.Machine.execRestart tag s
  | .restartTeardown => Sys2Proof.Machine.execRestartTeardown s
  | .setParam tag id inst value => Sys2Proof.Machine.execSetParam tag id inst value s
  | .getParam tag id inst => Sys2Proof.Machine.execGetParam tag id inst s
  | .append tag count recs => Sys2Proof.Machine.execAppend tag count recs s
  | .start tag => Sys2Proof.Machine.execStart tag s
  | .hold tag => Sys2Proof.Machine.execHold tag s
  | .resume tag => Sys2Proof.Machine.execResume tag s
  | .stop tag => Sys2Proof.Machine.execStop tag s
  | .flush tag => Sys2Proof.Machine.execFlush tag s
  | .queueStatus tag => Sys2Proof.Machine.execQueueStatus tag s
  | .setOverride tag feed rapid spindle source => Sys2Proof.Machine.execSetOverride tag feed rapid spindle source s
  | .home tag axis => Sys2Proof.Machine.execHome tag axis s
  | .axisStatus tag axis => Sys2Proof.Machine.execAxisStatus tag axis s
  | .compLoad tag axis first values => Sys2Proof.Machine.execCompLoad tag axis first values s
  | .compCommit tag axis count origin spacing mode check => Sys2Proof.Machine.execCompCommit tag axis count origin spacing mode check s
  | .compClear tag axis => Sys2Proof.Machine.execCompClear tag axis s
  | .compRead tag axis first count => Sys2Proof.Machine.execCompRead tag axis first count s
  | .clampSetClamp tag axis => Sys2Proof.Machine.execClampSetClamp tag axis s
  | .clampSetRelease tag axis => Sys2Proof.Machine.execClampSetRelease tag axis s
  | .clampSetNone tag axis => Sys2Proof.Machine.execClampSetNone tag axis s
  | .spindleSetRun tag speed dir => Sys2Proof.Machine.execSpindleSetRun tag speed dir s
  | .spindleSetStop tag => Sys2Proof.Machine.execSpindleSetStop tag s
  | .spindleSetNone tag => Sys2Proof.Machine.execSpindleSetNone tag s
  | .gearSelect tag range => Sys2Proof.Machine.execGearSelect tag range s
  | .meshTableRead tag => Sys2Proof.Machine.execMeshTableRead tag s
  | .meshTableClear tag => Sys2Proof.Machine.execMeshTableClear tag s
  | .coolantSet tag flood tsc mist pressure => Sys2Proof.Machine.execCoolantSet tag flood tsc mist pressure s
  | .pendantText tag line chars => Sys2Proof.Machine.execPendantText tag line chars s
  | .lineTest tag => Sys2Proof.Machine.execLineTest tag s
  | .pendantStatus tag => Sys2Proof.Machine.execPendantStatus tag s
  | .inputRead tag => Sys2Proof.Machine.execInputRead tag s
  | .analogRead tag => Sys2Proof.Machine.execAnalogRead tag s
  | .moveStart => Sys2Proof.Machine.execMoveStart s
  | .pathPeriod => Sys2Proof.Machine.execPathPeriod s
  | .dwellEnd => Sys2Proof.Machine.execDwellEnd s
  | .axisIndexEdge a => Sys2Proof.Machine.execAxisIndexEdge a s
  | .spindleIndexEdge => Sys2Proof.Machine.execSpindleIndexEdge s
  | .inputRawChange n level => Sys2Proof.Machine.execInputRawChange n level s
  | .inputFilterTimeReached n => Sys2Proof.Machine.execInputFilterTimeReached n s
  | .idleClamp c => Sys2Proof.Machine.execIdleClamp c s
  | .releaseTimeout c => Sys2Proof.Machine.execReleaseTimeout c s
  | .clampTimeout c => Sys2Proof.Machine.execClampTimeout c s
  | .pumpOffDelay => Sys2Proof.Machine.execPumpOffDelay s
  | .hydStartTimeout => Sys2Proof.Machine.execHydStartTimeout s
  | .analogConversion counts => Sys2Proof.Machine.execAnalogConversion counts s
  | .prepareTimeout => Sys2Proof.Machine.execPrepareTimeout s
  | .positionTimeout => Sys2Proof.Machine.execPositionTimeout s
  | .strokeTimeout => Sys2Proof.Machine.execStrokeTimeout s
  | .meshDwellEnd => Sys2Proof.Machine.execMeshDwellEnd s
  | .settleTimeReached => Sys2Proof.Machine.execSettleTimeReached s
  | .spindleOverload => Sys2Proof.Machine.execSpindleOverload s
  | .oilGraceEnd => Sys2Proof.Machine.execOilGraceEnd s
  | .floodProveTimeout => Sys2Proof.Machine.execFloodProveTimeout s
  | .floodDryTimeout => Sys2Proof.Machine.execFloodDryTimeout s
  | .tscRampTimeout => Sys2Proof.Machine.execTscRampTimeout s
  | .suspendKeepEnd => Sys2Proof.Machine.execSuspendKeepEnd s
  | .purgeEnd => Sys2Proof.Machine.execPurgeEnd s
  | .tscDryTimeout => Sys2Proof.Machine.execTscDryTimeout s
  | .pendantFrame bytes => Sys2Proof.Machine.execPendantFrame bytes s
  | .pendantFrameGap next => Sys2Proof.Machine.execPendantFrameGap next s
  | .handwheelInterval => Sys2Proof.Machine.execHandwheelInterval s
  | .pendantAnswerSent => Sys2Proof.Machine.execPendantAnswerSent s
  | .pendantTimeout => Sys2Proof.Machine.execPendantTimeout s
  | .enableMismatch => Sys2Proof.Machine.execEnableMismatch s
  | .refuseTimerEnd => Sys2Proof.Machine.execRefuseTimerEnd s
  | .clipTimerEnd => Sys2Proof.Machine.execClipTimerEnd s
  | .lineTestWaitEnd => Sys2Proof.Machine.execLineTestWaitEnd s
  | .lineTestActivity => Sys2Proof.Machine.execLineTestActivity s
  | .lineTestListenEnd => Sys2Proof.Machine.execLineTestListenEnd s
  | .lineTestReflection ns inverted => Sys2Proof.Machine.execLineTestReflection ns inverted s
  | .lineTestEchoWindowEnd => Sys2Proof.Machine.execLineTestEchoWindowEnd s
  | .lengthOutOfRange len => Sys2Proof.Machine.execLengthOutOfRange len s
  | .encoderEdge a forward => Sys2Proof.Machine.execEncoderEdge a forward s
  | .spindleEncoderEdge cw => Sys2Proof.Machine.execSpindleEncoderEdge cw s

end Sys2Proof.Machine
end

