-- ==== Sys2Proof/Safety.lean ====
section
/-! DEFINITION. The terms that claims are stated in: states in which nothing is left to follow, the request that a
request row carries, and the invariants of the link, the report queue, the mesh table and the coolant interlock. -/

namespace Sys2Proof.Machine

/-! ## States in which nothing is left to follow -/

/-- No closing rule applies: everything that the spec lets follow "in the event in which …" has followed. -/
def Calm (s : State) : Prop := rules s = none

/-- Calm, and no answer is owed to the pendant (R161). -/
def Still (s : State) : Prop := Calm s ∧ s.pp.answerDue = false

/-- No pendant jog is under way. -/
def noJog (s : State) : Prop := ∀ a, (s.pp.jogs.get a).mode = .none

/-! ## The events of a millisecond -/

/-- The rows that a passing millisecond can bring, in the order of the opcode table; the path period and DWELL_END stand
behind them (assumption log, entry 6). -/
def timerRows : List Instr :=
  .moveStart :: (List.finRange 32).map .inputFilterTimeReached ++ allClamps.map .idleClamp ++
    allClamps.map .releaseTimeout ++ allClamps.map .clampTimeout ++
    [.pumpOffDelay, .hydStartTimeout, .prepareTimeout, .positionTimeout, .strokeTimeout, .meshDwellEnd,
     .settleTimeReached, .spindleOverload, .oilGraceEnd, .floodProveTimeout, .floodDryTimeout, .tscRampTimeout,
     .suspendKeepEnd, .purgeEnd, .tscDryTimeout, .handwheelInterval, .pendantTimeout, .enableMismatch, .refuseTimerEnd,
     .clipTimerEnd, .lineTestWaitEnd, .lineTestListenEnd]

/-- The event that a row names is due: what it waits for holds, and its timer runs and stands at its limit. -/
def eventDue (s : State) : Instr → Bool
  | .moveStart =>
    match currentRec s with
    | some ⟨_, .move m⟩ => s.sq.st == .running && s.sq.waiting && m.legs.all fun l => released s l.1
    | _ => false
  | .inputFilterTimeReached n =>
    decide (s.inp[n].ft ≤ s.inp[n].t) && (!s.inp[n].settled || s.inp[n].raw != s.inp[n].filt)
  | .idleClamp c =>
    (s.cc.get c).st == .released && (s.cc.get c).policy == .auto && (s.ax.get (clampAxis c)).owner == .none &&
      decide ((s.cc.get c).delay ≤ (s.cc.get c).idle)
  | .releaseTimeout c => (s.cc.get c).st == .releasing && (s.cc.get c).op.due
  | .clampTimeout c => (s.cc.get c).st == .clamping && (s.cc.get c).op.due
  | .pumpOffDelay => s.hs.offDelay.due
  | .hydStartTimeout => s.hs.st == .starting && s.hs.startT.due
  | .prepareTimeout => s.sgu.prepareT.due
  | .positionTimeout => s.sgu.positionT.due
  | .strokeTimeout => s.sgu.gear == .stroking && s.sgu.strokeT.due
  | .meshDwellEnd => s.sgu.gear == .meshing && s.sgu.dwellT.due
  | .settleTimeReached => s.sgu.gear == .settling && s.sgu.settleT.due
  | .spindleOverload =>
    loadMax s && spindleRuns s && !s.sgu.overDone && decide (s.sgu.p.overloadTime ≤ s.sgu.overload)
  | .oilGraceEnd => spindleRuns s && !s.sgu.oilDone && decide (s.sgu.p.oilGrace ≤ s.sgu.oilT)
  | .floodProveTimeout => s.cu.proveT.due
  | .floodDryTimeout => s.cu.floodDryT.due
  | .tscRampTimeout => s.cu.rampT.due
  | .suspendKeepEnd => s.cu.keepT.due
  | .purgeEnd => s.cu.purgeT.due
  | .tscDryTimeout => s.cu.tscDryT.due
  | .handwheelInterval => s.pp.intT.due
  | .pendantTimeout => s.pp.st == .present && s.pp.freshT.due
  | .enableMismatch => s.pp.mismT.due && !rawOf s .pendantEnableMismatch
  | .refuseTimerEnd => s.pp.refuseT.due
  | .clipTimerEnd => s.pp.clipT.due
  | .lineTestWaitEnd => s.pp.ltPhase == .wait && s.pp.ltT.due
  | .lineTestListenEnd => s.pp.ltPhase == .listen && s.pp.ltT.due
  | _ => false

/-! ## The host link -/

/-- The link can take a request at once: no reply waits and the FIFO is empty (R211). -/
def LinkFree (s : State) : Prop := s.hlp.slot = none ∧ s.hlp.fifo = []

/-- A request has been taken and answered: its reply stands in the slot, and the receiver hunts. -/
def replied (kind tag : Nat) (a : Answer) (s : State) : State :=
  { s with hlp.rx := .hunting, hlp.fifo := [], hlp.slot := some ⟨kind, tag, a⟩ }

/-- The TAG and the request of a request row. -/
def requestOf : Instr → Option (Nat × Request)
  | .unknownKind kind tag => some (tag, .unknown kind)
  | .identify tag => some (tag, .identify)
  | .status tag => some (tag, .status)
  | .ackConditions tag all pairs => some (tag, .ackConditions all pairs)
  | .resetTrip tag => some (tag, .resetTrip)
  | .restart tag => some (tag, .restart)
  | .setParam tag id inst v => some (tag, .setParam id inst v)
  | .getParam tag id inst => some (tag, .getParam id inst)
  | .append tag count recs => some (tag, .append count recs)
  | .start tag => some (tag, .start)
  | .hold tag => some (tag, .hold)
  | .resume tag => some (tag, .resume)
  | .stop tag => some (tag, .stop)
  | .flush tag => some (tag, .flush)
  | .queueStatus tag => some (tag, .queueStatus)
  | .setOverride tag f r sp src => some (tag, .setOverride f r sp src)
  | .home tag a => some (tag, .home a)
  | .axisStatus tag a => some (tag, .axisStatus a)
  | .compLoad tag a f vs => some (tag, .compLoad a f vs)
  | .compCommit tag a n o sp m k => some (tag, .compCommit a n o sp m k)
  | .compClear tag a => some (tag, .compClear a)
  | .compRead tag a f n => some (tag, .compRead a f n)
  | .clampSetClamp tag a => some (tag, .clampSet 0 a)
  | .clampSetRelease tag a => some (tag, .clampSet 1 a)
  | .clampSetNone tag a => some (tag, .clampSet 2 a)
  | .spindleSetRun tag speed dir => some (tag, .spindleSet 0 speed dir)
  | .spindleSetStop tag => some (tag, .spindleSet 1 0 0)
  | .spindleSetNone tag => some (tag, .spindleSet 2 0 0)
  | .gearSelect tag r => some (tag, .gearSelect r)
  | .meshTableRead tag => some (tag, .meshTableRead)
  | .meshTableClear tag => some (tag, .meshTableClear)
  | .coolantSet tag f t m p => some (tag, .coolantSet f t m p)
  | .pendantText tag n cs => some (tag, .pendantText n cs)
  | .lineTest tag => some (tag, .lineTest)
  | .pendantStatus tag => some (tag, .pendantStatus)
  | .inputRead tag => some (tag, .inputRead)
  | .analogRead tag => some (tag, .analogRead)
  | _ => none

/-- The request only reads, and its operands are ones that it takes. -/
def isQuery : Request → Bool
  | .identify | .status | .queueStatus | .meshTableRead | .pendantStatus | .inputRead | .analogRead
  | .clampSet 2 _ | .spindleSet 2 _ _ => true
  | .getParam id inst => (paramOf id inst).isSome
  | .axisStatus a => decide (a < 5)
  | .compRead a first n => decide (a < 5 ∧ first ≤ 127 ∧ n ≤ 32 ∧ first + n ≤ 128)
  | _ => false

/-- The FIFO holds at most 4 requests, and none while the slot is empty (R210, R211). -/
def LinkInv (s : State) : Prop := s.hlp.fifo.length ≤ 4 ∧ (s.hlp.slot = none → s.hlp.fifo = [])

/-- The report queue holds at most 32 entries and the segment queue at most 64 records (R2, R204). -/
def QueuesInv (s : State) : Prop := s.rq.length ≤ 32 ∧ s.sq.recs.length ≤ 64

/-- The flow thresholds stand in their ranges (R28). -/
def FlowInv (s : State) : Prop := 8 ≤ s.sq.flowHigh ∧ s.sq.flowLow < s.sq.flowHigh ∧ s.sq.flowHigh ≤ 63

/-- An axis under policy NEVER is RELEASED (R90). -/
def NeverInv (s : State) : Prop := ∀ c, (s.cc.get c).policy = .never → (s.cc.get c).st = .released

/-- The clamped sensor of an axis meant to be free is off: of one RELEASED, or in CLAMP_WAIT entered from RELEASED, and not
under NEVER (R98). -/
def ReleasedFree (s : State) : Prop :=
  ∀ c, (s.cc.get c).policy ≠ .never →
    (s.cc.get c).st = .released ∨ ((s.cc.get c).st = .clampWait ∧ (s.cc.get c).fromFault = false) →
    clampedSensor s c = false

/-- HOMING owns exactly the axes whose homing runs (R68, R72, R73). -/
def HomingInv (s : State) : Prop := ∀ a, (s.ax.get a).owner = .homing ↔ (s.ax.get a).phase ≠ .none

/-! ## The coolant interlock -/

/-- TSC is RAMPING or ON only under its permit, and its valve duty is 0 in every other state (R146). -/
def TscInv (s : State) : Prop :=
  (tscFlows s = true → permit s = true) ∧ (tscFlows s = false → s.cu.duty = 0)

/-! ## TRIPPED -/

/-- What TRIPPED holds (R14, R114, R155, R104, R200): the queue IDLE, the axis outputs 0, the spindle OFF or FAULT with no
speed asked for, no shift under way, CU at its cleared values, the pump off, and every clamp in a state whose valve is
off. -/
def TrippedOff (s : State) : Prop :=
  s.cn.machine = .tripped → s.sq.st = .idle ∧ (∀ a, (s.ax.get a).out = 0) ∧
    (s.sgu.st = .off ∨ s.sgu.st = .fault) ∧ s.sgu.reqSpeed = 0 ∧ s.sgu.target = 0 ∧ s.sgu.out = 0 ∧
    (s.sgu.shift = none ∨ shifting s = false) ∧ s.cu = .cleared s.cu.p ∧ s.hs.st = .pumpOff ∧
    ∀ c, (s.cc.get c).st = .clamped ∨ (s.cc.get c).st = .clamping ∨ (s.cc.get c).st = .released ∨
      (s.cc.get c).st = .fault

/-- In TRIPPED no homing runs, and no axis is owned by HOMING or PENDANT (R74, R180, R200). -/
def TrippedAxes (s : State) : Prop :=
  s.cn.machine = .tripped → ∀ a, (s.ax.get a).phase = .none ∧ (s.ax.get a).owner ≠ .homing ∧ (s.ax.get a).owner ≠ .pendant

/-- Every enable, DAC output, pump, valve and the TSC duty are off or 0. -/
def OutputsOff (s : State) : Prop :=
  driveEnable s = false ∧ (∀ a, (s.ax.get a).out = 0) ∧ spindleEnable s = false ∧ s.sgu.out = 0 ∧
    contactorOn s = false ∧ (∀ c, valveOn s c = false) ∧ (∀ y e, solenoidOn s y e = false) ∧
    floodPump s = false ∧ s.cu.pump = false ∧ s.cu.duty = 0 ∧ purgeValve s = false ∧ mistValve s = false

/-! ## The mesh table -/

/-- At most 12 entries, and two entries of one key lie further apart than a tolerance (R131). -/
def MeshApart (cpr tol : Nat) (t : List MeshEntry) : Prop :=
  t.length ≤ 12 ∧ t.Pairwise fun m n => m.key = n.key → tol < circDist cpr m.angle n.angle

/-! ## Records -/

/-- The head record is current, and its executor has not acted on it yet (R16). -/
def headCurrent (s : State) : State :=
  { s with sq.current := true, sq.waiting := false, sq.handed := false, sq.dwellLeft := 0 }

/-- The head record with the seq given has completed, and the records given stand behind it (R16). -/
def Completed (q : Nat) (rs : List QRec) (t : State) : Prop :=
  t.sq.recs = rs ∧ t.sq.current = false ∧ t.sq.lastSeq = q

/-- The head record is current and in its slot. -/
def Pends (s t : State) : Prop := t.sq.recs = s.sq.recs ∧ t.sq.current = true

/-- The current record is the head of the records given, and the queue lets a non-move record run (R9). -/
def RunsRecord (r : QRec) (rs : List QRec) (s : State) : Prop :=
  s.sq.recs = r :: rs ∧ s.sq.current = true ∧ (s.sq.st = .running ∨ s.sq.st = .holding)

/-- The queue in IDLE after a flush (R13): no record, current record or hold record, PI without a move, the QUEUE axes
free, and QUEUE_STATE queued before the FLOW_GO that a STOPPED flow state gives. -/
def flushed (s : State) : State :=
  let u := fall .queueStarved (queueReport (.queueState .idle s.sq.st none 0)
    { s with
      sq := { s.sq with st := .idle, recs := [], current := false, dwellLeft := 0, waiting := false, handed := false,
                        armed := false }
      pi := { s.pi with move := none, ret := none, r := 0, target := 0, braking := false, ahead := none, hold := none }
      ax := s.ax.map fun _ k => if k.owner = .queue then { k with owner := .none } else k })
  if s.sq.flow = .stopped then queueReport (.flowGo 0) { u with sq.flow := .go } else u

/-- The sensors are consistent with an engaged range, as they are wherever no closing rule is left to apply (R118). -/
def EngagedStands (s : State) : Prop := ∀ r, engagedRange s = some r → consistentWith s r = true

/-! ## The path -/

/-- The rate that a path period gives a move whose lookahead sum and its ending are given (R32, R33, R40). -/
def nextRate (s : State) (m : ActiveMove) (rem : Nat) (real : Bool) : Nat :=
  rateStep s.pi s.sq.st (rateTarget s m) (decide (rem ≤ s.pi.r * s.pi.r / (2 * s.pi.pathRamp) + s.pi.r))
    (slowsOn s.pi rem real)

/-- The axes of the legs are distinct, as those of a record's mask are. -/
def LegsApart (legs : List Leg) : Prop := (legs.map fun l => l.ax).Nodup

/-- Each axis of the legs that QUEUE owns and that is RELEASED takes its position at a phase (R44, R57, R58). -/
def LegsTaken (n p : Nat) (legs : List Leg) (s t : State) : Prop :=
  LegsApart legs → ∀ l ∈ legs, (s.ax.get l.ax).owner = .queue → released s l.ax = true →
    (t.ax.get l.ax).setpoint = legAt n p l

/-- The state in which the setpoints of a path period stand and no loop has run yet. -/
def periodSetpoints (s : State) : State := allAxes.foldl ownerWork (compWork (pathWork s))

/-! ## Homing -/

/-- A value moved toward a target by at most a step. -/
def toward (v target : Int) (step : Nat) : Int := max (v - step) (min (v + step) target)

/-- A homing of a RELEASED axis in a READY machine with the queue IDLE. -/
def HomingRuns (s : State) (a : Axis) : Prop :=
  s.cn.machine = .ready ∧ s.sq.st = .idle ∧ (s.ax.get a).owner = .homing ∧ released s a = true

/-- The axis stands within its window and has not been moved in the period before. -/
def standsAt (k : AxisCh) (c : Int) : Prop := (k.setpoint + c - k.enc).natAbs ≤ k.p.inposWindow ∧ k.setpoint = k.prev

/-! ## Jogs -/

/-- The target velocity of a button jog (R170 step 1). -/
def wantedVelocity (s : State) (k : AxisCh) (j : Jog) (f : StatusFrame) : Int :=
  let speed : Nat := if f.rapid then k.p.rapidJogSpeed * s.pi.rapid / 100 else k.p.jogSpeed * s.pi.feed / 100
  if j.fin ≠ .none then 0
  else
    match j.dir with
    | .plus => (speed : Int)
    | .minus => -(speed : Int)
    | .none => 0

/-- The step in force of a jog (R170): the PANIC step while it ends with it, else the JOG step. -/
def stepInForce (s : State) (k : AxisCh) (j : Jog) : Nat :=
  let step := max 1 (k.p.jogAccel / 1000)
  if j.fin = .panic then max step (step * s.pi.stopRamp / s.pi.pathRamp) else step

/-- The profile of R170 with a velocity: it joins the remainder, and the setpoint advances by whole pu. -/
def Advanced (k : AxisCh) (j : Jog) (v : Int) (n : AxisCh) (i : Jog) : Prop :=
  n.setpoint = k.setpoint + (j.rem + v).tdiv 1000 ∧ i.vel = v ∧ i.rem = (j.rem + v) - (j.rem + v).tdiv 1000 * 1000

/-- The distance of a jog to the limit ahead, in thousandths of a pu and in its direction (R171). -/
def aheadDistance (k : AxisCh) (j : Jog) (plus : Bool) : Int :=
  if plus then (k.p.softMax - k.setpoint) * 1000 - j.rem else (k.setpoint - k.p.softMin) * 1000 + j.rem

/-! ## Pendant frames -/

/-- A PRESENT pendant's frame that is no repeat, with the last frame before it. -/
def NewFrame (s : State) (o f : StatusFrame) (l : List Byte) : Prop :=
  s.pp.st = .present ∧ s.pp.last = some o ∧ parseStatus l = some f ∧ o.seq ≠ f.seq

/-- The frame keeps selector, multiplier and handwheel counter, and shows none of HOLD, START and FLOOD pressed. -/
def JogFrame (o f : StatusFrame) : Prop :=
  f.sel = o.sel ∧ f.mult = o.mult ∧ f.counter = o.counter ∧ f.hold = false ∧ f.start = false ∧ f.flood = false

/-- What a jog needs beside the enable MIDDLE of the frame (R166). -/
def JogReady (s : State) : Prop :=
  s.pp.armed = true ∧ enableContact s = true ∧ s.cn.machine = .ready ∧ (s.sq.st = .idle ∨ s.sq.st = .held)

/-! ## The machine state -/

/-- The order in which STATUS looks for the top condition (R203). -/
def Class.rank : Class → Nat
  | .trip => 0 | .stop => 1 | .hold => 2 | .note => 3

/-- A raise of a class leaves the machine state as R197, R198 and R200 give. -/
def machineAfter (k : Class) (m : MState) : MState :=
  match k, m with
  | .trip, _ => .tripped
  | .stop, .ready => .stopping
  | _, m => m

end Sys2Proof.Machine
end

