-- ==== Sys2Proof/Certificates/Slice0/Obligations.lean ====
section
/-! DEFINITION. The statements for the provers, each a proposition about the model. Where a statement's hypotheses ask
for `Still`, the command's own effect is all that happens in its event; where they do not, the statement gives the state
that `finish` then closes (assumption log, entry 1), and `WhatFollowsACommand` says what `finish` leaves alone. -/

open Sys2Proof Sys2Proof.Machine

/-! ## Steps and the end of an event -/

/-- One step takes the command at the front of the queue and runs it with the queue's rest. -/
def Obligations.StepRunsFrontCommand : Prop :=
  ∀ (c : Instr) (rest : List Instr) (s : State),
    step { s with pending := c :: rest } = exec c { s with pending := rest }

/-- With no command waiting a millisecond passes: the counter of R204 counts, every timer that runs counts by one toward
its limit, the idle times, the overload time and the oil grace time count where they run, and the inputs' timers count
up to 255 (entry 29). The events that are then due wait in the queue in the order of the table, the path period behind
them, and the end of a DWELL that the period brings to 0 last. Nothing else changes (entry 6: the model's choice). -/
def Obligations.IdleStepIsOneMillisecond : Prop :=
  (∀ s : State, s.pending = [] → ∃ (t : State) (last : List Instr), step s = .next t ∧
    t = { s with
      pending := timerRows.filter (eventDue t) ++ .pathPeriod :: last
      hlp.ms := (s.hlp.ms + 1) % 4294967296
      inp := s.inp.map fun i => { i with t := min (i.t + 1) 255 }
      cc := s.cc.map fun c k =>
        { k with
          op := k.op.tick
          idle := if k.st = .released ∧ k.policy = .auto ∧ (s.ax.get (clampAxis c)).owner = .none then
            min (k.idle + 1) k.delay else k.idle }
      hs.offDelay := s.hs.offDelay.tick
      hs.startT := s.hs.startT.tick
      sgu.overload := if loadMax s = true ∧ spindleRuns s = true then
        min (s.sgu.overload + 1) s.sgu.p.overloadTime else s.sgu.overload
      sgu.oilT := if spindleRuns s = true ∧ s.sgu.oilDone = false then s.sgu.oilT + 1 else s.sgu.oilT
      sgu.prepareT := s.sgu.prepareT.tick
      sgu.positionT := s.sgu.positionT.tick
      sgu.strokeT := s.sgu.strokeT.tick
      sgu.dwellT := s.sgu.dwellT.tick
      sgu.settleT := s.sgu.settleT.tick
      cu.proveT := s.cu.proveT.tick
      cu.floodDryT := s.cu.floodDryT.tick
      cu.rampT := s.cu.rampT.tick
      cu.keepT := s.cu.keepT.tick
      cu.purgeT := s.cu.purgeT.tick
      cu.tscDryT := s.cu.tscDryT.tick
      pp.freshT := s.pp.freshT.tick
      pp.mismT := s.pp.mismT.tick
      pp.intT := s.pp.intT.tick
      pp.refuseT := s.pp.refuseT.tick
      pp.clipT := s.pp.clipT.tick
      pp.ltT := s.pp.ltT.tick } ∧
    last = (match currentRec s with
      | some ⟨_, .dwell _⟩ => if s.sq.st = .running ∧ s.sq.dwellLeft ≤ 1 then [.dwellEnd] else []
      | _ => [])) ∧
  ∀ T : Timer, T.tick = if T.on then ⟨true, min (T.t + 1) T.lim, T.lim⟩ else T

/-- Every command of the table completes in every state: it answers a next state, and leaves the queue of waiting
commands as it is. That no command stops in any state is DEDUCED (entry 17), and a timer's row completes before its time
too, changing nothing (entry 5: the model's choice). This says that a command completes, not with what effect. -/
def Obligations.EveryCommandCompletes : Prop :=
  ∀ (c : Instr) (s : State), ∃ t : State, exec c s = .next t ∧ t.pending = s.pending

/-- What follows a command in its event changes none of these, whatever the state: the waiting commands, the banks, the
inputs, the analog channels, the link but the frame it sends, the parameters, the overrides, the axes' positions and
loops, the spindle's counts and speed, the display's text and the pendant's last frame and timers. In a still state
nothing follows but the idle transmitter's choice (R213): a reply in the slot is sent first, then the head of the report
queue; a transmitter that is sending goes on, and nothing is removed when a frame begins. -/
def Obligations.WhatFollowsACommand : Prop :=
  ∀ s : State, (finish s).pending = s.pending ∧ (finish s).cs = s.cs ∧ (finish s).inp = s.inp ∧
    (finish s).am = s.am ∧ { (finish s).hlp with tx := s.hlp.tx } = s.hlp ∧
    ((finish s).sq.flowHigh = s.sq.flowHigh ∧ (finish s).sq.flowLow = s.sq.flowLow) ∧
    ((finish s).pi.feed = s.pi.feed ∧ (finish s).pi.rapid = s.pi.rapid ∧
      (finish s).pi.spindleOvr = s.pi.spindleOvr ∧ (finish s).pi.source = s.pi.source ∧
      (finish s).pi.pathRamp = s.pi.pathRamp ∧ (finish s).pi.holdRamp = s.pi.holdRamp ∧
      (finish s).pi.stopRamp = s.pi.stopRamp ∧ (finish s).pi.returnSpeed = s.pi.returnSpeed) ∧
    (∀ c, ((finish s).cc.get c).policy = (s.cc.get c).policy ∧ ((finish s).cc.get c).delay = (s.cc.get c).delay ∧
      ((finish s).cc.get c).releaseTime = (s.cc.get c).releaseTime ∧
      ((finish s).cc.get c).clampTime = (s.cc.get c).clampTime) ∧
    ((finish s).hs.offDelayP = s.hs.offDelayP ∧ (finish s).hs.startTimeP = s.hs.startTimeP) ∧
    (∀ a, ((finish s).ax.get a).setpoint = (s.ax.get a).setpoint ∧ ((finish s).ax.get a).prev = (s.ax.get a).prev ∧
      ((finish s).ax.get a).enc = (s.ax.get a).enc ∧ ((finish s).ax.get a).latch = (s.ax.get a).latch ∧
      ((finish s).ax.get a).out = (s.ax.get a).out ∧ ((finish s).ax.get a).p = (s.ax.get a).p ∧
      ((finish s).ax.get a).e = (s.ax.get a).e ∧ ((finish s).ax.get a).inPos = (s.ax.get a).inPos ∧
      ((finish s).ax.get a).atRest = (s.ax.get a).atRest ∧
      ((finish s).ax.get a).satCount = (s.ax.get a).satCount) ∧
    ((finish s).sgu.p = s.sgu.p ∧ (finish s).sgu.pos = s.sgu.pos ∧ (finish s).sgu.indexPos = s.sgu.indexPos ∧
      (finish s).sgu.sAct = s.sgu.sAct) ∧
    (finish s).cu.p = s.cu.p ∧
    ((finish s).pp.st = s.pp.st ∧ (finish s).pp.last = s.pp.last ∧ (finish s).pp.armed = s.pp.armed ∧
      (finish s).pp.freshT = s.pp.freshT ∧ (finish s).pp.mismT = s.pp.mismT ∧ (finish s).pp.intT = s.pp.intT ∧
      (finish s).pp.intCount = s.pp.intCount ∧ (finish s).pp.refuseT = s.pp.refuseT ∧
      (finish s).pp.clipT = s.pp.clipT ∧ (finish s).pp.ltT = s.pp.ltT ∧ (finish s).pp.lineVf = s.pp.lineVf ∧
      ∀ i : Fin 4, (finish s).pp.lines[i].text = s.pp.lines[i].text) ∧
    (Still s → finish s = transmit s ∧
      (∀ f, s.hlp.tx = some f → transmit s = s) ∧
      (∀ r, s.hlp.tx = none → s.hlp.slot = some r →
        transmit s = { s with hlp.tx := some ⟨true, true, replyFrame r⟩ }) ∧
      (∀ e es, s.hlp.tx = none → s.hlp.slot = none → s.rq = e :: es →
        transmit s = { s with hlp.tx := some ⟨false, true, reportFrame e⟩ }) ∧
      (s.hlp.tx = none → s.hlp.slot = none → s.rq = [] → transmit s = s))

/-! ## Resets -/

/-- The machine right after power-on: TRIPPED, the queue IDLE and empty with flow GO, the override values and ramps of
R55, every bank EMPTY, every clamp CLAMPED, the pump off, the spindle OFF and the gear UNKNOWN, coolant off, the pendant
ABSENT, every input off and unsettled, every comparator BELOW, and the eight raised entries of the rebuilt table. The
invariants of this file hold, and the state is still. Where the spec gives no value the state's is the model's: the seq
last completed, the range last engaged and the like (entry 15), the idle pendant link (entry 28), GEAR_POSITION_LOST's
value (entry 4). -/
def Obligations.StateAfterPowerOn : Prop :=
  let s := State.reset
  s.pending = [] ∧ s.cn.machine = .tripped ∧
    (s.sq.st = .idle ∧ s.sq.recs = [] ∧ s.sq.flow = .go ∧ s.sq.armed = false ∧ s.sq.flowHigh = 56 ∧ s.sq.flowLow = 24) ∧
    (s.pi.r = 0 ∧ s.pi.feed = 100 ∧ s.pi.rapid = 100 ∧ s.pi.spindleOvr = 100 ∧ s.pi.source = .host ∧
      s.pi.pathRamp = 131 ∧ s.pi.holdRamp = 328 ∧ s.pi.stopRamp = 655) ∧
    (∀ a, (s.ax.get a).owner = .none ∧ (s.ax.get a).refd = false ∧ (s.ax.get a).enc = 0 ∧
      (s.cs.get a).st = .empty ∧ (s.cs.get a).c = 0) ∧
    (∀ c, (s.cc.get c).st = .clamped ∧ (s.cc.get c).policy = .auto) ∧ s.hs.st = .pumpOff ∧
    (s.sgu.st = .off ∧ s.sgu.gear = .unknown ∧ s.sgu.mesh = [] ∧ s.sgu.indexPos = none) ∧
    (s.cu.flood = .off ∧ s.cu.tsc = .off ∧ s.cu.duty = 0) ∧ s.pp.st = .absent ∧
    (∀ n : Fin 32, s.inp[n].filt = false ∧ s.inp[n].settled = false) ∧ (∀ i : Fin 7, s.am.cmps[i].above = false) ∧
    (allConds.filter fun c => rawOf s c) =
      [.estopOpen, .drivesNotReady, .hardLimit .x, .hardLimit .y, .hardLimit .z, .hardLimit .w, .gearPositionLost,
        .coolantLevelLow] ∧
    (TscInv s ∧ LinkInv s ∧ QueuesInv s ∧ FlowInv s ∧ NeverInv s ∧ TrippedOff s ∧ TrippedAxes s ∧ HomingInv s ∧
      ReleasedFree s ∧ Still s ∧ MeshApart s.sgu.p.cpr s.sgu.p.meshTol s.sgu.mesh)

/-- HARDWARE_RESET with any cause, straps and pins leaves every block at its power-on value, the inputs reading their
pins, HELLO at the head of the report queue, and a frame that the RESET pin found being sent going on as a dead frame;
else the transmitter sends HELLO at once. The equality covers fields whose value at reset the spec does not give: they
are the model's (entries 15, 28 and 4). -/
def Obligations.HardwareResetState : Prop :=
  ∀ (cause : ResetCause) (sel1 sel0 : Bool) (pins : BitVec 32) (s : State),
    exec (.hardwareReset cause sel1 sel0 pins) s = .next
      { State.reset with
        pending := s.pending
        free := s.free
        inp := inputsReset pins
        rq := ⟨.hello cause (strapRate sel1 sel0), 0, 0⟩ :: reportsReset.tail
        hlp :=
          { rx := .hunting, fifo := [], slot := none, cause := cause, rate := strapRate sel1 sel0, ms := 0
            tx := some ((frameOverReset cause s.hlp.tx).getD
              ⟨false, true, reportFrame ⟨.hello cause (strapRate sel1 sel0), 0, 0⟩⟩) } }

/-- The reply of a RESTART has been sent (REPLY_SENT and RESTART_TEARDOWN name that one event: entry 8, DEDUCED), and
each of the two answers a next state. The FIFO and the slot are empty, the receiver hunts, the cause is HOST, and HELLO
heads the report queue. The queue is IDLE and empty with flow GO, PI has no move, return move or hold record; every axis
stands where it is, free, without a homing, REFERENCED as before or by a homing in SETTLE; the spindle is OFF, or in a
FAULT that is not over, no shift is under way and mesh table and shift count stay; CU is cleared; each clamp is as after
a trip clamp, NEVER axes kept; the pendant is ABSENT. The machine is TRIPPED where I0 or I1 is off, else READY, or
STOPPING where a FAULT of the spindle and a raw STOP condition stand. The pump, off in TRIPPED, runs where an axis is
not CLAMPED (entry 35: the model's choice). Override values, feed source, maps, inputs, analog channels, parameters and
encoder positions are kept. -/
def Obligations.RestartTeardownState : Prop :=
  ∀ (s : State) (b : List Byte), s.hlp.tx = some ⟨true, true, b⟩ → restartWaits s = true →
    ∃ t : State, exec .replySent s = .next t ∧ exec .restartTeardown s = .next t ∧
      t.hlp.fifo = [] ∧ t.hlp.slot = none ∧ t.hlp.rx = .hunting ∧ t.hlp.cause = .host ∧ t.hlp.ms = s.hlp.ms ∧
      t.rq.head? = some ⟨.hello .host s.hlp.rate, s.hlp.ms, 0⟩ ∧
      t.cs = s.cs ∧ t.inp = s.inp ∧ t.am = s.am ∧ t.sgu.p = s.sgu.p ∧ t.cu = .cleared s.cu.p ∧ t.pending = s.pending ∧
      (t.pi.source = s.pi.source ∧ t.pi.feed = s.pi.feed ∧ t.pi.rapid = s.pi.rapid ∧
        t.pi.spindleOvr = s.pi.spindleOvr ∧ t.pi.pathRamp = s.pi.pathRamp ∧ t.pi.holdRamp = s.pi.holdRamp ∧
        t.pi.stopRamp = s.pi.stopRamp ∧ t.pi.returnSpeed = s.pi.returnSpeed) ∧
      (t.pi.move = none ∧ t.pi.ret = none ∧ t.pi.hold = none ∧ t.pi.r = 0) ∧
      (t.sq.st = .idle ∧ t.sq.recs = [] ∧ t.sq.current = false ∧ t.sq.armed = false ∧ t.sq.flow = .go ∧
        t.sq.flowHigh = s.sq.flowHigh ∧ t.sq.flowLow = s.sq.flowLow) ∧
      (∀ a, let k := s.ax.get a
        let n := t.ax.get a
        n.enc = k.enc ∧ n.p = k.p ∧ n.latch = k.latch ∧ n.setpoint = k.enc - (s.cs.get a).c ∧ n.prev = n.setpoint ∧
          n.owner = .none ∧ n.phase = .none ∧ n.hVel = 0 ∧ n.hRem = 0 ∧ n.e = 0 ∧ n.inPos = true ∧ n.atRest = true ∧
          n.out = 0 ∧ n.refd = if k.phase = .none then k.refd else k.phase == .settle) ∧
      ((EngagedStands s → t.sgu.st =
          if s.sgu.st = .fault ∧ (spindleReady s = false ∨ 10 < s.sgu.sAct) then .fault else .off) ∧
        (¬EngagedStands s → t.sgu.st = .off) ∧ t.sgu.reqSpeed = 0 ∧ t.sgu.target = 0 ∧ t.sgu.ramped = 0 ∧ t.sgu.out = 0 ∧ t.sgu.pos = s.sgu.pos ∧
        t.sgu.indexPos = s.sgu.indexPos ∧ t.sgu.sAct = s.sgu.sAct ∧ t.sgu.reqDir = s.sgu.reqDir ∧
        t.sgu.turnDir = s.sgu.turnDir ∧ t.sgu.measDir = s.sgu.measDir) ∧
      (t.sgu.mesh = s.sgu.mesh ∧ t.sgu.shiftCount = s.sgu.shiftCount ∧ t.sgu.shift = none ∧ shifting t = false ∧
        (shifting s = true → t.sgu.gear = match consistentRange s with
          | some r => .engaged r
          | none => .unknown) ∧
        (shifting s = false → t.sgu.gear = s.sgu.gear ∨ ¬EngagedStands s)) ∧
      t.cn.machine = (if ¬(inputOn s 0 = true ∧ inputOn s 1 = true) then .tripped
        else if t.sgu.st = .fault ∧ anyRaw t .stop = true then .stopping else .ready) ∧
      (∀ c, let k := s.cc.get c
        let n := t.cc.get c
        (n.policy = k.policy ∧ n.delay = k.delay ∧ n.releaseTime = k.releaseTime ∧ n.clampTime = k.clampTime) ∧
        (k.policy = .never → n.st = k.st) ∧
        (k.policy ≠ .never →
          (k.st = .clamped → k.follow ≠ .release ∨ t.cn.machine = .tripped → n.st = .clamped ∧ n.follow = k.follow) ∧
          (k.st ≠ .clamped → clampedSensor s c = false → n.st = .clamping ∧ n.granted = false ∧
            n.op = ⟨true, 0, k.clampTime⟩ ∧
            n.follow = if k.st = .clamping ∧ k.follow = .release then .release else .none) ∧
          (k.st ≠ .clamped → clampedSensor s c = true → k.st ≠ .clamping ∨ k.follow ≠ .release → n.st = .clamped))) ∧
      (t.hs.offDelayP = s.hs.offDelayP ∧ t.hs.startTimeP = s.hs.startTimeP ∧
        (t.cn.machine = .tripped → t.hs.st = .pumpOff ∧ t.hs.fifo = [] ∧ t.hs.holder = none) ∧
        (t.cn.machine ≠ .tripped → (t.hs.st = .pumpOff ↔ ∀ c, (t.cc.get c).st = .clamped))) ∧
      (t.pp.st = .absent ∧ t.pp.armed = false ∧ t.pp.power = true ∧ t.pp.lineVf = s.pp.lineVf ∧
        ∀ a, (t.pp.jogs.get a).mode = .none)

/-! ## The host link -/

/-- A frame built as R209 says is read back whole: its bytes behind the start byte, received as HOST_FRAME_RECEIVED, are
the request row that its KIND, TAG and body spell (entry 7: the model's choice that the two rows name one event).
Whatever the body, of a wrong length too, HOST_FRAME_RECEIVED answers a next state: a free link takes the request,
serves it and holds its reply with the frame's KIND and TAG; a link whose reply waits puts it at the tail of the FIFO,
of 4 at most. -/
def Obligations.FramesAreReadBack : Prop :=
  (∀ (kind tag : Nat) (body : List Byte) (c : Instr) (s : State), 1 ≤ kind → kind ≤ 63 → tag < 256 →
    body.length ≤ 248 → requestOf c = some (tag, parseRequest kind body) →
    exec (.hostFrameReceived (frameOf kind tag body).tail) s = exec c s) ∧
  ∀ (kind tag : Nat) (body : List Byte) (s : State), 1 ≤ kind → kind ≤ 63 → tag < 256 → body.length ≤ 248 →
    (LinkFree s → ∃ t : State, exec (.hostFrameReceived (frameOf kind tag body).tail) s = .next t ∧
      t.hlp.rx = .hunting ∧ t.hlp.fifo = [] ∧
      t.hlp.slot = some ⟨kind, tag,
        (serve (parseRequest kind body) { s with hlp.rx := .hunting }).1⟩ ∧
      (Still s → (serve (parseRequest kind body) s).1.code ≠ .ok →
        t = transmit (replied kind tag (serve (parseRequest kind body) s).1 s))) ∧
    (s.hlp.slot ≠ none → s.hlp.fifo.length < 4 →
      exec (.hostFrameReceived (frameOf kind tag body).tail) s = .next (finish
        { s with hlp.rx := .hunting, hlp.fifo := s.hlp.fifo ++ [⟨tag, parseRequest kind body⟩] }))

/-- The discards of Table 11-2, values 0, 1, 2 and 4: each raises FRAME_DISCARDED once with its value, gives no reply,
and changes nothing else; after a gap the byte that ended it is examined as a hunting byte. -/
def Obligations.DiscardedFrames : Prop :=
  ∀ s : State, Still s →
    (∀ next : Byte, exec (.frameGapTimeout next) s =
      .next (transmit (latch .frameDiscarded 0 1
        { s with hlp.rx := if next = 0x5A then .inFrame else .hunting }))) ∧
    (∀ len : Byte, len.toNat < 2 ∨ 250 < len.toNat →
      exec (.lengthOutOfRange len) s =
        .next (transmit (latch .frameDiscarded 0 0 { s with hlp.rx := .hunting }))) ∧
    (∀ (len kind tag hi lo : Byte) (body : List Byte), 2 ≤ len.toNat → len.toNat ≤ 250 →
      body.length + 2 = len.toNat →
      (crc16 (len :: kind :: tag :: body) ≠ hi.toNat * 256 + lo.toNat →
        exec (.hostFrameReceived (len :: kind :: tag :: (body ++ [hi, lo]))) s =
          .next (transmit (latch .frameDiscarded 0 2 { s with hlp.rx := .hunting }))) ∧
      (crc16 (len :: kind :: tag :: body) = hi.toNat * 256 + lo.toNat → kind.toNat < 1 ∨ 0x3F < kind.toNat →
        exec (.hostFrameReceived (len :: kind :: tag :: (body ++ [hi, lo]))) s =
          .next (transmit (latch .frameDiscarded 0 4 { s with hlp.rx := .hunting }))))

/-- While a reply waits, a request joins the tail of the FIFO and is not taken; the fifth is discarded with value 3. -/
def Obligations.RequestsWaitBehindAReply : Prop :=
  ∀ (s : State) (c : Instr) (tag : Nat) (r : Request), Still s → s.hlp.slot ≠ none → requestOf c = some (tag, r) →
    exec c s = .next (transmit
      (if s.hlp.fifo.length < 4 then
        { s with hlp.rx := .hunting, hlp.fifo := s.hlp.fifo ++ [⟨tag, r⟩] }
      else latch .frameDiscarded 0 3 { s with hlp.rx := .hunting }))

/-- When a reply has been sent its slot is emptied, and the head request of the FIFO, if there is one, is taken in the
same event and answered with its KIND and TAG. When a report has been sent it leaves the queue, and REPORT_LOST is
raised with its overran count when that is above 0. -/
def Obligations.SentFramesLeave : Prop :=
  (∀ (s : State) (b : List Byte), s.hlp.tx = some ⟨true, true, b⟩ → restartWaits s = false →
    (s.hlp.fifo = [] → exec .replySent s = .next (finish { s with hlp.tx := none, hlp.slot := none })) ∧
    (∀ e es, s.hlp.fifo = e :: es → ∃ t : State, exec .replySent s = .next t ∧ t.hlp.fifo = es ∧
      t.hlp.slot = some ⟨requestKind e.req, e.tag,
        (serve e.req { s with hlp.tx := none, hlp.slot := none, hlp.fifo := es }).1⟩)) ∧
  (∀ (s : State) (b : List Byte) (e : RptEntry) (es : List RptEntry), s.hlp.tx = some ⟨false, true, b⟩ → s.rq = e :: es →
    exec .reportSent s = .next (finish
      (if 0 < e.overran then latch .reportLost 0 e.overran { s with hlp.tx := none, rq := es }
       else { s with hlp.tx := none, rq := es })))

/-- A request that only reads is answered OK at once by a free link, and changes nothing: the state after it is the
state before it with the reply in the slot. It covers IDENTIFY, STATUS, GET_PARAM, QUEUE_STATUS, AXIS_STATUS, COMP_READ,
CLAMP_SET_NONE, SPINDLE_SET_NONE, MESH_TABLE_READ, PENDANT_STATUS, INPUT_READ and ANALOG_READ. -/
def Obligations.QueriesOnlyReply : Prop :=
  ∀ (s : State) (c : Instr) (tag : Nat) (r : Request), Still s → LinkFree s → requestOf c = some (tag, r) →
    isQuery r = true → (serve r s).1.code = .ok ∧
      exec c s = .next (transmit (replied (requestKind r) tag (serve r s).1 s))

/-- A request that is not answered OK changes nothing but the reply slot. -/
def Obligations.RefusedRequestsChangeNothing : Prop :=
  (∀ (r : Request) (s : State), (serve r s).1.code ≠ .ok → (serve r s).2 = s) ∧
  (∀ (s : State) (c : Instr) (tag : Nat) (r : Request), Still s → LinkFree s → requestOf c = some (tag, r) →
    (serve r s).1.code ≠ .ok → exec c s = .next (transmit (replied (requestKind r) tag (serve r s).1 s)))

/-! ## The Condition Unit -/

/-- A raise of any entry latches it and stores the time, the seq and the value whatever the reaction does; the machine
state follows the class; and in TRIPPED, as for a NOTE entry anywhere, the raise has no reaction. The reaction of a STOP
raise: a moving queue becomes STOPPING with its records kept, one at rate 0 or in HELD is flushed to IDLE; the spindle's
requested speed is 0 and no shift is under way; the coolant demands are OFF; every button jog that runs ends with the
PANIC step and every wheel target is the setpoint. STOPPING becomes READY exactly when the queue is IDLE, the spindle
OFF, no shift under way and every axis at rest. -/
def Obligations.RaisesLatchAndReact : Prop :=
  (∀ (c : Cond) (q : Nat) (v : Int) (s : State),
    condEntry (raise c q v s) c =
      { condEntry s c with latched := true, last := some ⟨s.hlp.ms, q, fit32 v⟩ } ∧
    (raise c q v s).cn.machine = machineAfter c.cls s.cn.machine ∧
    (s.cn.machine = .tripped ∨ c.cls = .note → raise c q v s = latch c q v s)) ∧
  (∀ (c : Cond) (q : Nat) (v : Int) (s : State), c.cls = .stop → s.cn.machine ≠ .tripped →
    let t := raise c q v s
    (s.sq.st = .running ∨ s.sq.st = .holding ∨ s.sq.st = .returning → s.pi.r ≠ 0 →
      t.sq.st = .stopping ∧ t.sq.recs = s.sq.recs ∧ t.pi.r = s.pi.r) ∧
    ((s.sq.st = .running ∨ s.sq.st = .holding ∨ s.sq.st = .returning) ∧ s.pi.r = 0 ∨ s.sq.st = .held →
      t.sq.st = .idle ∧ t.sq.recs = [] ∧ t.sq.current = false ∧ t.pi.move = none ∧ t.pi.hold = none ∧
        ∀ a, (t.ax.get a).owner ≠ .queue) ∧
    (s.sq.st = .idle ∨ s.sq.st = .stopping → t.sq = s.sq) ∧
    t.sgu.reqSpeed = 0 ∧ (s.sgu.shift ≠ none → shifting t = false ∧ (shifting s = true → t.sgu.shift = none)) ∧
    t.cu.floodDem = false ∧ t.cu.tscDem = false ∧ t.cu.mistDem = false ∧
    ∀ a, t.pp.jogs.get a =
      (let j := s.pp.jogs.get a
       match j.mode with
       | .none => j
       | .wheel => { j with wheel := (s.ax.get a).setpoint }
       | .button =>
         if j.dir = .none then j
         else if j.vel = 0 then { j with dir := .none, fin := .none } else { j with fin := .panic })) ∧
  ∀ s : State,
    let met := s.cn.machine = .stopping ∧ s.sq.st = .idle ∧ s.sgu.st = .off ∧ shifting s = false ∧
      ∀ a, (s.ax.get a).atRest = true
    (met → machineRule s = some { s with cn.machine := .ready }) ∧ (¬met → machineRule s = none)

/-- A TRIP raise outside TRIPPED turns everything off: in the state it leaves every enable, DAC output, pump and valve
is off and the TSC duty 0; the queue is IDLE, PI has no move, rate or hold record, no grant is held or asked for, and no
axis is the pendant's. An open E-stop chain, or a drive that is not ready, takes the machine to TRIPPED in the event of
the filtered change. -/
def Obligations.TripTurnsEverythingOff : Prop :=
  (∀ (c : Cond) (q : Nat) (v : Int) (s : State), NeverInv s → c.cls = .trip → s.cn.machine ≠ .tripped →
    let t := raise c q v s
    t.cn.machine = .tripped ∧ OutputsOff t ∧ TrippedOff t ∧ t.sgu.ramped = 0 ∧
      t.pi.r = 0 ∧ t.pi.move = none ∧ t.pi.ret = none ∧ t.pi.hold = none ∧
      t.hs.holder = none ∧ t.hs.fifo = [] ∧ ∀ a, (t.ax.get a).owner ≠ .pendant) ∧
  ∀ (s : State) (n : Fin 32), n.val ≤ 1 → s.inp[n].raw = false → s.inp[n].filt = true → s.inp[n].ft ≤ s.inp[n].t →
    rawOf s (if n.val = 0 then .estopOpen else .drivesNotReady) = false →
    ∃ t : State, exec (.inputFilterTimeReached n) s = .next t ∧ t.cn.machine = .tripped ∧ inputOn t n = false

/-- TRIPPED is left only by a RESET_TRIP that is taken with ESTOP_OPEN and DRIVES_NOT_READY not raw, or by a RESTART
with both inputs on. -/
def Obligations.TrippedIsLeftOnlyByResetTripOrRestart : Prop :=
  ∀ (s t : State) (c : Instr) (rest : List Instr), LinkInv s → s.cn.machine = .tripped → s.pending = c :: rest →
    step s = .next t → t.cn.machine ≠ .tripped →
    (rawOf s .estopOpen = false ∧ rawOf s .drivesNotReady = false ∧
      ((∃ tag, c = .resetTrip tag) ∨ (∃ b, c = .hostFrameReceived b ∧ b[1]? = some 0x04) ∨
        (c = .replySent ∧ ∃ e es, s.hlp.fifo = e :: es ∧ e.req = .resetTrip))) ∨
    (inputOn s 0 = true ∧ inputOn s 1 = true ∧ restartWaits s = true ∧ (c = .replySent ∨ c = .restartTeardown))

/-- ACK_CONDITIONS with the flag ALL clears the latched flag of every entry whose raw is false, keeps the others and all
raws, times, seqs and values, replies the number still latched, and changes nothing else; with a list of 1 to 16 pairs
of Table 10-1 it does so for the entries named. -/
def Obligations.AckClearsWhatHasFallen : Prop :=
  ∀ (s : State) (tag : Nat), Still s → LinkFree s →
    (∃ u : State, exec (.ackConditions tag 1 []) s =
        .next (transmit (replied 0x03 tag ⟨.ok, [.u8 (latchedCount u)]⟩ u)) ∧
      (∀ d, condEntry u d = { condEntry s d with latched := (condEntry s d).latched && (condEntry s d).raw }) ∧
      { u with cn := s.cn } = s ∧ u.cn.machine = s.cn.machine) ∧
    (∀ pairs : List (Nat × Nat), 1 ≤ pairs.length → pairs.length ≤ 16 → (∀ p ∈ pairs, (condOf p.1 p.2).isSome = true) →
      ∃ u : State, exec (.ackConditions tag 0 pairs) s =
          .next (transmit (replied 0x03 tag ⟨.ok, [.u8 (latchedCount u)]⟩ u)) ∧
        (∀ d, condEntry u d = { condEntry s d with
          latched := (condEntry s d).latched && ((condEntry s d).raw || !pairs.contains (d.code, d.inst)) }) ∧
        { u with cn := s.cn } = s ∧ u.cn.machine = s.cn.machine)

/-- RESET_TRIP in TRIPPED with neither TRIP condition raw makes the machine READY and is answered OK; where every clamp
is CLAMPED without a follow-on and no axis is the pendant's, nothing else changes: no latched flag is cleared and no
report is queued. Whatever the clamps: no entry changes, no report is queued, a kept follow-on RELEASE of a CLAMPED axis
is applied as a need, the valve of a NEVER axis is on, and the pump runs where an axis is not CLAMPED or is asked to
release. The premises on the axes and clamps are invariants of TRIPPED (`EveryStepKeepsTrippedOutputsOff`). Every
setpoint stays as it is, which without a path period in TRIPPED is the model's choice (entry 34). -/
def Obligations.ResetTripMakesReady : Prop :=
  (∀ (s : State) (tag : Nat), Still s → LinkFree s → s.cn.machine = .tripped → rawOf s .estopOpen = false →
    rawOf s .drivesNotReady = false → (∀ c, (s.cc.get c).st = .clamped ∧ (s.cc.get c).follow = .none) →
    s.hs.st = .pumpOff → s.hs.fifo = [] → s.hs.holder = none → anyOwner s .pendant = false →
    exec (.resetTrip tag) s = .next (transmit (replied 0x04 tag ⟨.ok, []⟩ { s with cn.machine := .ready }))) ∧
  ∀ (s : State) (tag : Nat), Still s → LinkFree s → s.cn.machine = .tripped → rawOf s .estopOpen = false →
    rawOf s .drivesNotReady = false → TrippedOff s → TrippedAxes s → NeverInv s → ReleasedFree s → s.hs.fifo = [] →
    s.hs.holder = none → rawOf s .hydPressureLow = false →
    ∃ t : State, exec (.resetTrip tag) s = .next t ∧ t.cn.machine = .ready ∧
      t.hlp.slot = some ⟨0x04, tag, ⟨.ok, []⟩⟩ ∧ (∀ d, condEntry t d = condEntry s d) ∧ t.rq = s.rq ∧ t.cs = s.cs ∧
      t.ax = s.ax ∧ t.sgu = s.sgu ∧ t.cu = s.cu ∧ t.pp.jogs = s.pp.jogs ∧ t.sq = s.sq ∧
      ∀ c, ((s.cc.get c).policy = .never → valveOn t c = true) ∧
        ((s.cc.get c).st = .clamped → (s.cc.get c).follow = .none → t.cc.get c = s.cc.get c) ∧
        ((s.cc.get c).st = .clamped → (s.cc.get c).follow = .release → (s.cc.get c).policy ≠ .never →
          (t.cc.get c).st ≠ .clamped ∧ (t.cc.get c).follow = .none ∧ contactorOn t = true) ∧
        ((s.cc.get c).st ≠ .clamped → contactorOn t = true)

/-- The top condition of STATUS: it is latched, no latched entry has a class before it in the order TRIP, STOP, HOLD,
NOTE, and none of its own class stands before it in order of code and instance; it is absent exactly when nothing is
latched. STATUS replies the machine state, the top condition's fields behind a presence byte (entry 14), the latched
counts of the four classes, and the queue, pendant and gear states; IDENTIFY and QUEUE_STATUS reply the values of the
state. -/
def Obligations.StatusShowsTheTopCondition : Prop :=
  ∀ s : State,
    (topCond s = none ↔ ∀ d, (condEntry s d).latched = false) ∧
    (∀ c, topCond s = some c → (condEntry s c).latched = true ∧
      ∀ d, (condEntry s d).latched = true →
        c.cls.rank < d.cls.rank ∨ (c.cls.rank = d.cls.rank ∧ c.place ≤ d.place)) ∧
    (serve .identify s).1.fields = [.u16 614, .u8 1, .u8 (causeNum s.hlp.cause), .u8 s.hlp.rate, .u32 s.hlp.ms] ∧
    (serve .queueStatus s).1.fields.take 3 =
      [.u8 s.sq.st.num, .u8 s.sq.recs.length, .u8 (64 - s.sq.recs.length)] ∧
    (serve .status s).2 = s ∧ (serve .status s).1.code = .ok ∧
    (serve .status s).1.fields =
      .u8 (match s.cn.machine with
        | .ready => 0 | .stopping => 1 | .tripped => 2) ::
        ((match topCond s with
          | none => [.u8 0]
          | some c =>
            let e := condEntry s c
            let l := e.last.getD ⟨0, 0, 0⟩
            [.u8 1, .u8 c.code, .u8 c.inst, .u8 c.cls.num, .u8 e.raw.toNat, .u32 l.time, .u16 l.seq, .i32 l.value]) ++
        ([Class.trip, .stop, .hold, .note].map fun k =>
          WField.u8 (allConds.countP fun d => d.cls == k && (condEntry s d).latched)) ++
        [.u8 s.sq.st.num, .u8 s.pp.st.num, .u8 (match s.sgu.gear with
          | .engaged r => r.num
          | _ => 0)]) ∧
    (serve .queueStatus s).2 = s ∧ (serve .queueStatus s).1.code = .ok ∧
    (serve .queueStatus s).1.fields.drop 3 =
      (match currentRec s with
        | none => [.u8 0, .u8 0, .u8 0]
        | some r => [.u8 1, .u16 r.seq, .u8 1, .u8 r.body.kindCode, .u8 1, .u16 (match r.body with
          | .move _ => (s.pi.move.map fun m => m.p * 1000 / (m.n * 65536)).getD 0
          | .dwell n => (n - s.sq.dwellLeft) * 1000 / n
          | _ => 0)]) ++
        [.u32 s.pi.r, .u8 s.pi.hold.isSome.toNat, .u8 (displacedAxes s).length] ++
        ((displacedAxes s).map fun a => WField.u8 (axisIdx a)) ++
        [.u8 s.sq.flow.num, .u8 (decide (s.sq.recs.length = 0 ∧ currentRec s = none ∧ allAtRest s = true)).toNat]

/-- SET_PARAM with a value in range and no refusal stores the value: the reply carries it, and GET_PARAM reads it from
then on; every other parameter keeps its value, and every axis its setpoint and its encoder position. -/
def Obligations.SetParamIsReadBack : Prop :=
  ∀ (s : State) (tag id inst : Nat) (v : Int) (p : Param), LinkFree s → paramOf id inst = some p →
    (paramRange s p).1 ≤ v → v ≤ (paramRange s p).2 → writeRefusal s p v = none →
    ∃ t : State, exec (.setParam tag id inst v) s = .next t ∧
      t.hlp.slot = some ⟨0x06, tag, ⟨.ok, [.i32 v]⟩⟩ ∧ (serve (.getParam id inst) t).1 = ⟨.ok, [.i32 v]⟩ ∧
      (∀ q, q ≠ p → paramValue t q = paramValue s q) ∧
      ∀ a, (t.ax.get a).setpoint = (s.ax.get a).setpoint ∧ (t.ax.get a).enc = (s.ax.get a).enc

/-! ## The Segment Queue -/

/-- A taken APPEND outside STOPPING, in RUNNING with a record already current: its records join the tail in their order,
the drained flag is armed, the flow state is evaluated, the reply shows the free slots and the flow state, and nothing
else changes. It is so in IDLE, HOLDING, HELD and RETURNING too, with a current record or without one. -/
def Obligations.AppendJoinsTheTail : Prop :=
  ∀ (s : State) (tag : Nat) (raws : List RawRec) (rs : List QRec), Still s → LinkFree s → s.cn.machine ≠ .tripped →
    s.sq.st ≠ .stopping → (s.sq.st = .running → s.sq.current = true) → (s.sq.current = true → s.sq.recs ≠ []) →
    1 ≤ raws.length → raws.length ≤ 8 →
    s.sq.recs.length + raws.length ≤ 64 → raws.map recOf = rs.map some →
    let u : State := { s with sq.recs := s.sq.recs ++ rs, sq.armed := true }
    let w : State :=
      if s.sq.flow = .go ∧ s.sq.flowHigh ≤ u.sq.recs.length then
        queueReport (.flowStop u.sq.recs.length) { u with sq.flow := .stopped }
      else if s.sq.flow = .stopped ∧ u.sq.recs.length ≤ s.sq.flowLow then
        queueReport (.flowGo u.sq.recs.length) { u with sq.flow := .go }
      else u
    exec (.append tag raws.length raws) s = .next (transmit (replied 0x10 tag
      ⟨.ok, [.u8 (64 - u.sq.recs.length), .u8 w.sq.flow.num, .u8 0]⟩ w))

/-- FLUSH: in IDLE it removes every waiting record, disarms the drained flag, and turns STOPPED into GO with a FLOW_GO
report of count 0; in every other queue state it is refused. The queue state does not change. -/
def Obligations.FlushEmptiesAnIdleQueue : Prop :=
  ∀ s : State, FlowInv s →
    let u : State := { s with sq.recs := [], sq.current := false, sq.dwellLeft := 0, sq.waiting := false,
                              sq.handed := false, sq.armed := false }
    let w : State := if s.sq.flow = .stopped then queueReport (.flowGo 0) { u with sq.flow := .go } else u
    serve .flush s = (if s.sq.st = .idle then (⟨.ok, []⟩, w) else (⟨.wrongState, []⟩, s)) ∧
      ∀ tag : Nat, Still s → LinkFree s → s.sq.st = .idle →
        exec (.flush tag) s = .next (transmit (replied 0x15 tag ⟨.ok, []⟩ w))

/-- START of an empty queue in IDLE makes it RUNNING with one QUEUE_STATE report and gives every free axis to QUEUE;
RESUME of an empty queue in HELD without displaced axes makes it RUNNING and drops the hold record; with displaced axes
it makes it RETURNING, with the return move of R51 from their setpoints to their hold positions; and START in HELD is
handled as RESUME. A RUNNING queue with records and none current dispatches its head. An END MARK becomes current; when
every QUEUE axis is at rest it completes: MARK_REACHED, the queue IDLE, and the QUEUE axes are free. -/
def Obligations.StartAndResumeRun : Prop :=
  (∀ (s : State) (tag : Nat), Still s → LinkFree s → s.sq.st = .idle → s.sq.recs = [] → s.sq.current = false →
    s.cn.machine = .ready → anyRaw s .hold = false → anyRaw s .stop = false → anyOwner s .pendant = false →
    anyOwner s .homing = false → (∀ c, (s.cc.get c).idle = 0) →
    exec (.start tag) s = .next (transmit (replied 0x11 tag ⟨.ok, []⟩
      (queueReport (.queueState .running .idle none 0)
        { s with sq.st := .running
                 ax := s.ax.map fun _ k => if k.owner = .none then { k with owner := .queue } else k })))) ∧
  (∀ (s : State) (tag : Nat), Still s → LinkFree s → s.sq.st = .held → s.sq.recs = [] → s.cn.machine = .ready →
    anyRaw s .hold = false → anyRaw s .stop = false → anyRaw s .trip = false → anyOwner s .pendant = false →
    displacedAxes s = [] →
    exec (.resume tag) s = .next (transmit (replied 0x13 tag ⟨.ok, []⟩
      (queueReport (.queueState .running .held none 0)
        { s with sq.st := .running, sq.waiting := false, pi.hold := none, pi.ret := none, pi.r := 0 })))) ∧
  (∀ (s : State) (tag : Nat) (h : HoldRec), Still s → LinkFree s → s.sq.st = .held → s.cn.machine = .ready →
    anyRaw s .hold = false → anyRaw s .stop = false → anyRaw s .trip = false → anyOwner s .pendant = false →
    s.pi.hold = some h → (∃ a, h.displaced.get a = true) → 1000 ≤ s.pi.returnSpeed →
    let way := fun a => (h.pos.get a - (s.ax.get a).setpoint).natAbs
    let pace := s.pi.returnSpeed / 1000
    ∃ n : Nat, 1 ≤ n ∧ (∀ a, h.displaced.get a = true → way a ≤ n * pace) ∧
      (n = 1 ∨ ∃ a, h.displaced.get a = true ∧ (n - 1) * pace < way a) ∧
      exec (.resume tag) s = .next (transmit (replied 0x13 tag ⟨.ok, []⟩
        (queueReport (.queueState .returning .held (curKey s) s.sq.recs.length)
          { s with
            sq.st := .returning
            pi.r := 0
            pi.ret := some ⟨.rapid, n, 1, (allAxes.filter fun a => h.displaced.get a).map fun a =>
              ⟨a, (s.ax.get a).setpoint, h.pos.get a⟩, 0⟩ })))) ∧
  (∀ s : State, s.sq.st = .held → serve .start s = serve .resume s) ∧
  (∀ s : State, s.sq.st = .running → s.sq.current = false → s.sq.recs ≠ [] → queueRule s = some (dispatchHead s)) ∧
  ∀ (s : State) (q : Nat) (rs : List QRec), s.sq.recs = ⟨q, .mark true⟩ :: rs → dispatchHead s = headCurrent s ∧
    (RunsRecord ⟨q, .mark true⟩ rs s →
      ((∃ a, (s.ax.get a).owner = .queue ∧ (s.ax.get a).atRest = false) → queueRule s = none) ∧
      ((∀ a, (s.ax.get a).owner = .queue → (s.ax.get a).atRest = true) → s.rq.length ≤ 29 →
        ∃ u : State, queueRule s = some u ∧ Completed q rs u ∧ u.sq.st = .idle ∧ u.pi.move = none ∧ u.pi.hold = none ∧
          u.rq[s.rq.length]? = some ⟨.markReached q, s.hlp.ms, 0⟩ ∧
          ∀ a, (u.ax.get a).owner = if (s.ax.get a).owner = .queue then .none else (s.ax.get a).owner))

/-- HOLD in RUNNING with the path moving makes the queue HOLDING, with one QUEUE_STATE report and the fall of
QUEUE_STARVED, and changes nothing else; STOP in RUNNING, HOLDING or RETURNING with the path moving and no GEAR record
current makes it STOPPING likewise. QUEUE_STATE is queued before CONDITION_CLEARED (entry 10: the model's choice). In
HOLDING, HELD, IDLE and STOPPING a HOLD changes nothing, nor does a STOP in IDLE and STOPPING. A STOP in HELD flushes
the queue to IDLE in the event, and nothing else changes where no axis then clamps at once; a STOPPING queue whose rate
is 0 is flushed likewise, by a closing rule. -/
def Obligations.HoldAndStopRampDown : Prop :=
  (∀ (s : State) (tag : Nat), Still s → LinkFree s →
    (s.sq.st = .running → s.pi.r ≠ 0 →
      exec (.hold tag) s = .next (transmit (replied 0x12 tag ⟨.ok, []⟩ (fall .queueStarved
        (queueReport (.queueState .holding .running (curKey s) s.sq.recs.length) { s with sq.st := .holding }))))) ∧
    (s.sq.st ≠ .running → s.sq.st ≠ .returning →
      exec (.hold tag) s = .next (transmit (replied 0x12 tag ⟨.ok, []⟩ s))) ∧
    (s.sq.st = .running ∨ s.sq.st = .holding ∨ s.sq.st = .returning → s.pi.r ≠ 0 → gearRecordCurrent s = false →
      exec (.stop tag) s = .next (transmit (replied 0x14 tag ⟨.ok, []⟩ (fall .queueStarved
        (queueReport (.queueState .stopping s.sq.st (curKey s) s.sq.recs.length) { s with sq.st := .stopping }))))) ∧
    (s.sq.st = .idle ∨ s.sq.st = .stopping →
      exec (.stop tag) s = .next (transmit (replied 0x14 tag ⟨.ok, []⟩ s))) ∧
    (s.sq.st = .held →
      exec (.stop tag) s = .next (finish (replied 0x14 tag ⟨.ok, []⟩ (flushed s))) ∧
      (s.cn.machine ≠ .stopping → (∀ c, (s.cc.get c).delay ≠ 0) →
        exec (.stop tag) s = .next (transmit (replied 0x14 tag ⟨.ok, []⟩ (flushed s)))))) ∧
  ∀ s : State, s.sq.st = .stopping → s.pi.r = 0 → queueRule s = some (flushed s)

/-- A MARK whose end flag is clear completes at dispatch and queues MARK_REACHED with its seq. -/
def Obligations.MarkCompletesAtDispatch : Prop :=
  ∀ (s : State) (q : Nat) (rs : List QRec), s.sq.recs = ⟨q, .mark false⟩ :: rs → s.rq.length ≤ 29 →
    (dispatchHead s).sq.recs = rs ∧ (dispatchHead s).sq.current = false ∧ (dispatchHead s).sq.lastSeq = q ∧
      (dispatchHead s).rq[s.rq.length]? = some ⟨.markReached q, s.hlp.ms, 0⟩

/-- MOVE_START of a MOVE that waits for clamps starts it at phase 0 and rate 0 from where its axes stand, once every
listed axis is RELEASED (an FPR MOVE with the spindle turning), and changes nothing else; DWELL_END of a DWELL whose
count is 0 completes it. Outside RUNNING neither is due, and the command changes nothing (entry 5: the model's choice).
That the two rows are steps of their own is DEDUCED (entry 9). The dispatch of a MOVE takes the steps of R17: its first
axis that is not REFERENCED raises NOT_REFERENCED, its first end position outside the soft limits SOFT_LIMIT; CLAMPED
axes are asked to release and the MOVE waits; an FPR MOVE without a turning spindle raises SPINDLE_NOT_TURNING; else it
is started. A DWELL's dispatch sets its count. -/
def Obligations.MoveStartAndDwellEnd : Prop :=
  (∀ (s : State) (q : Nat) (m : MoveRec) (rs : List QRec), Still s → s.sq.st = .running → s.sq.current = true →
    s.sq.recs = ⟨q, .move m⟩ :: rs → s.sq.waiting = true → (∀ l ∈ m.legs, released s l.1 = true) →
    (m.motion = .fpr → turning s = true) →
    exec .moveStart s = .next (transmit
      { s with pi.move := some ⟨m.motion, m.n, m.sRef.getD 1, m.legs.map fun l => ⟨l.1, (s.ax.get l.1).setpoint, l.2⟩, 0⟩
               pi.r := 0, sq.waiting := false })) ∧
  (∀ (s : State) (q n : Nat) (rs : List QRec), s.sq.st = .running → s.sq.current = true →
    s.sq.recs = ⟨q, .dwell n⟩ :: rs → s.sq.dwellLeft = 0 →
    exec .dwellEnd s = .next (finish (completeHead s)) ∧ (completeHead s).sq.recs = rs ∧
      (completeHead s).sq.lastSeq = q ∧ (completeHead s).sq.current = false) ∧
  (∀ s : State, Still s → s.sq.st ≠ .running →
    exec .moveStart s = .next (transmit s) ∧ exec .dwellEnd s = .next (transmit s)) ∧
  (∀ (s : State) (q : Nat) (m : MoveRec) (rs : List QRec), s.sq.recs = ⟨q, .move m⟩ :: rs →
    let h := headCurrent s
    let outside := fun l : Axis × Int => l.2 < (s.ax.get l.1).p.softMin ∨ (s.ax.get l.1).p.softMax < l.2
    (∀ pre l post, m.legs = pre ++ l :: post → (∀ k ∈ pre, (s.ax.get k.1).refd = true) →
      (s.ax.get l.1).refd = false → dispatchHead s = raiseStop (.notReferenced l.1) q 0 h) ∧
    ((∀ l ∈ m.legs, (s.ax.get l.1).refd = true) →
      (∀ pre l post, m.legs = pre ++ l :: post → (∀ k ∈ pre, ¬outside k) → outside l →
        dispatchHead s = raiseStop (.softLimit l.1) q l.2 h) ∧
      ((∀ l ∈ m.legs, ¬outside l) →
        ((m.legs.map fun l => l.1).Nodup → s.cn.machine ≠ .tripped → (∃ l ∈ m.legs, released s l.1 = false) →
          (∀ l ∈ m.legs, ∀ c, clampOfAxis l.1 = some c → (s.cc.get c).st = .released ∨
            ((s.cc.get c).st = .clamped ∧ (s.cc.get c).policy ≠ .never)) →
          dispatchHead s = { h with
            sq.waiting := true
            cc := s.cc.map fun c k => if clampAxis c ∈ m.legs.map (fun l => l.1) ∧ k.st = .clamped then
              { k with st := .releaseWait } else k
            hs.fifo := s.hs.fifo ++ m.legs.filterMap fun l => (clampOfAxis l.1).bind fun c =>
              if (s.cc.get c).st = .clamped then some ⟨.axis c, .release⟩ else none }) ∧
        ((∀ l ∈ m.legs, released s l.1 = true) →
          (m.motion = .fpr → turning s = false → dispatchHead s = raiseHold .spindleNotTurning q s.sgu.sAct h) ∧
          (m.motion ≠ .fpr ∨ turning s = true → dispatchHead s = { h with
            pi.move := some ⟨m.motion, m.n, m.sRef.getD 1, m.legs.map fun l => ⟨l.1, (s.ax.get l.1).setpoint, l.2⟩, 0⟩
            pi.r := 0 }))))) ∧
  ∀ (s : State) (q n : Nat) (rs : List QRec), s.sq.recs = ⟨q, .dwell n⟩ :: rs →
    dispatchHead s = { headCurrent s with sq.dwellLeft := n }

/-! ## The Path Interpolator -/

/-- SET_OVERRIDE with a valid source, and no feed value while the source in force is PENDANT, stores each value present
clamped to its range, keeps the absent ones, and replies the overrides and the source as they stand after. Without a
spindle value it changes nothing else. -/
def Obligations.SetOverrideStoresClamped : Prop :=
  ∀ (s : State) (tag : Nat) (feed rapid spindle source : Option Nat), LinkFree s →
    (∀ v, source = some v → v ≤ 1) →
    let src : FeedSource := (source.map fun v => if v = 0 then FeedSource.host else .pendant).getD s.pi.source
    (feed ≠ none → src = .host) →
    let f := (feed.map (min 150)).getD s.pi.feed
    let r := (rapid.map (min 100)).getD s.pi.rapid
    let o := (spindle.map fun v => max 50 (min 120 v)).getD s.pi.spindleOvr
    (∃ t : State, exec (.setOverride tag feed rapid spindle source) s = .next t ∧
      t.pi.source = src ∧ t.pi.feed = f ∧ t.pi.rapid = r ∧ t.pi.spindleOvr = o ∧
      t.hlp.slot = some ⟨0x17, tag, ⟨.ok, [.u8 f, .u8 r, .u8 o, .u8 src.num]⟩⟩) ∧
    (Still s → spindle = none →
      exec (.setOverride tag feed rapid none source) s = .next (transmit (replied 0x17 tag
        ⟨.ok, [.u8 f, .u8 r, .u8 s.pi.spindleOvr, .u8 src.num]⟩
        { s with pi.source := src, pi.feed := f, pi.rapid := r })))

/-- The rate step of Table 2-2: its value in each state, braking and not, and that it stays within 0 to 131072 and
changes by at most the step in force. A path that brakes in RUNNING or RETURNING does not fall below the creep floor
(entry 21 names `slows`, by which a rate that has braked does not rise toward the target). The targets are those of
Table 2-3. The lookahead sum is the rest of the move and of the moves of its kind behind it. The work of PATH_PERIOD
gives the started MOVE, or the return move, that rate, advances its phase by it, and sets the setpoints of its axes from
the new phase, where no reaction to the period's checks changes the queue state; what follows the work leaves the
setpoints alone (`WhatFollowsACommand`). The order of the period's work is DEDUCED (entry 20). -/
def Obligations.RateStepsAsTable22 : Prop :=
  (∀ (p : PathInt) (target : Nat) (braking slows : Bool), p.r ≤ 131072 → target ≤ 131072 → p.pathRamp ≤ 65536 →
    (∀ st : QState, st = .running ∨ st = .returning →
      (braking = true → rateStep p st target braking slows = max (p.r - p.pathRamp) p.pathRamp) ∧
      (braking = false → slows = false → p.r < target →
        rateStep p st target braking slows = min (p.r + p.pathRamp) target) ∧
      (braking = false → slows = false → target ≤ p.r →
        rateStep p st target braking slows = max (p.r - p.pathRamp) target) ∧
      rateStep p st target braking slows ≤ 131072 ∧
      rateStep p st target braking slows ≤ p.r + p.pathRamp ∧
      p.r ≤ rateStep p st target braking slows + p.pathRamp) ∧
    rateStep p .holding 0 braking slows = p.r - (if braking then max p.holdRamp p.pathRamp else p.holdRamp) ∧
    rateStep p .stopping 0 braking slows = p.r - (if braking then max p.stopRamp p.pathRamp else p.stopRamp)) ∧
  (∀ (s : State) (m : ActiveMove),
    (s.sq.st = .running → m.motion = .rapid → rateTarget s m = s.pi.rapid * 65536 / 100) ∧
    (s.sq.st = .running → m.motion = .feed → rateTarget s m = s.pi.feed * 65536 / 100) ∧
    (s.sq.st = .running → m.motion = .fpr →
      rateTarget s m = min 131072 (65536 * s.pi.feed * s.sgu.sAct / (100 * m.sRef))) ∧
    (s.sq.st = .returning → rateTarget s m = s.pi.feed * 65536 / 100) ∧
    (s.sq.st = .holding ∨ s.sq.st = .stopping → rateTarget s m = 0)) ∧
  (∀ (s : State) (m : ActiveMove) (q : Nat) (c : MoveRec) (rs : List QRec), s.sq.current = true →
    s.sq.recs = ⟨q, .move c⟩ :: rs →
    (s.sq.st = .stopping ∨ c.stop = true → lookahead s m = (m.n * 65536 - m.p, true)) ∧
    (s.sq.st ≠ .stopping → c.stop = false → rs = [] → lookahead s m = (m.n * 65536 - m.p, false)) ∧
    (∀ (k : Nat) (d : MoveRec), s.sq.st ≠ .stopping → c.stop = false → rs = [⟨k, .move d⟩] → d.motion = c.motion →
      (∀ l ∈ d.legs, released s l.1 = true) →
      lookahead s m = (m.n * 65536 - m.p + d.n * 65536, d.stop))) ∧
  (∀ (s : State) (m : ActiveMove) (q : Nat) (c : MoveRec) (rs : List QRec), s.pi.ret = none → s.pi.move = some m →
    s.sq.current = true → s.sq.recs = ⟨q, .move c⟩ :: rs →
    s.sq.st = .running ∨ s.sq.st = .holding ∨ s.sq.st = .stopping →
    let r := nextRate s m (lookahead s m).1 (lookahead s m).2
    let u := periodWork s
    exec .pathPeriod s = .next (snapAll (finish u)) ∧
      (s.cn.machine ≠ .tripped → m.p + r < m.n * 65536 → u.sq.st = s.sq.st →
        u.pi.r = r ∧ u.pi.target = rateTarget s m ∧ u.pi.move = some { m with p := m.p + r } ∧
          u.sq.recs = s.sq.recs ∧ LegsTaken m.n (m.p + r) m.legs s u)) ∧
  ∀ (s : State) (m : ActiveMove), s.pi.ret = some m → s.sq.st = .returning →
    let r := nextRate s m (m.n * 65536 - m.p) true
    let u := periodWork s
    exec .pathPeriod s = .next (snapAll (finish u)) ∧
      (s.cn.machine ≠ .tripped → m.p + r < m.n * 65536 → u.sq.st = .returning →
        u.pi.r = r ∧ u.pi.ret = some { m with p := m.p + r } ∧ LegsTaken m.n (m.p + r) m.legs s u)

/-- The setpoint of a listed axis: its start position at phase 0, its end position exactly at the move's end, and at
every phase between the start plus the exact quotient rounded to nearest, so never outside the two positions. The work
of a path period that reaches the end of a MOVE, where no reaction changes the queue state: at a stop point (a stop
flag, no record behind, STOPPING) the MOVE completes, the rate is 0 and the axes stand at their end positions; before a
MOVE of the same kind whose checks pass the rate and the surplus phase are carried over. The end of the return move
drops the hold record and goes on in RUNNING. In HELD and IDLE no setpoint moves that QUEUE owns. A HOLDING queue whose
rate is 0 with a MOVE current becomes HELD, as does one that a HOLD finds at rate 0; the hold record has the seq, the
phase and the positions. The order of the period's work is DEDUCED (entry 20). -/
def Obligations.MovePositions : Prop :=
  (∀ (n p : Nat) (l : Leg), 0 < n → p ≤ n * 65536 →
    legAt n 0 l = l.start ∧ legAt n (n * 65536) l = l.fin ∧
    2 * |(legAt n p l - l.start) * ((n * 65536 : Nat) : Int) - (l.fin - l.start) * p| ≤ ((n * 65536 : Nat) : Int) ∧
    min l.start l.fin ≤ legAt n p l ∧ legAt n p l ≤ max l.start l.fin) ∧
  (∀ (s : State) (m : ActiveMove) (q : Nat) (c : MoveRec) (rs : List QRec), s.pi.ret = none → s.pi.move = some m →
    s.sq.current = true → s.sq.recs = ⟨q, .move c⟩ :: rs → s.cn.machine ≠ .tripped →
    s.sq.st = .running ∨ s.sq.st = .holding ∨ s.sq.st = .stopping →
    let r := nextRate s m (lookahead s m).1 (lookahead s m).2
    let u := periodWork s
    exec .pathPeriod s = .next (snapAll (finish u)) ∧
    (m.n * 65536 ≤ m.p + r → c.stop = true ∨ rs = [] ∨ s.sq.st = .stopping → u.sq.st = s.sq.st →
      u.pi.r = 0 ∧ u.pi.move = none ∧ u.sq.recs = rs ∧ u.sq.current = false ∧ u.sq.lastSeq = q ∧
        LegsTaken m.n (m.n * 65536) m.legs s u) ∧
    (∀ (k : Nat) (d : MoveRec) (ds : List QRec), m.n * 65536 ≤ m.p + r → s.sq.st ≠ .stopping →
      c.stop = false → rs = ⟨k, .move d⟩ :: ds → d.motion = c.motion →
      (∀ l ∈ d.legs, (s.ax.get l.1).refd = true ∧ released s l.1 = true ∧ (s.ax.get l.1).p.softMin ≤ l.2 ∧
        l.2 ≤ (s.ax.get l.1).p.softMax) →
      (d.motion = .fpr → turning s = true) → m.p + r - m.n * 65536 < d.n * 65536 → u.sq.st = s.sq.st →
      let legs : List Leg := d.legs.map fun l =>
        ⟨l.1, ((m.legs.find? fun g => g.ax == l.1).map fun g => g.fin).getD (s.ax.get l.1).setpoint, l.2⟩
      u.pi.r = r ∧ u.pi.move = some ⟨d.motion, d.n, d.sRef.getD 1, legs, m.p + r - m.n * 65536⟩ ∧
        u.sq.recs = ⟨k, .move d⟩ :: ds ∧ u.sq.current = true ∧ u.sq.lastSeq = q ∧
        LegsTaken d.n (m.p + r - m.n * 65536) legs s u)) ∧
  (∀ (s : State) (m : ActiveMove), s.pi.ret = some m → s.sq.st = .returning → s.sq.recs = [] →
    s.cn.machine ≠ .tripped → m.n * 65536 ≤ m.p + nextRate s m (m.n * 65536 - m.p) true →
    let u := periodWork s
    exec .pathPeriod s = .next (snapAll (finish u)) ∧ (u.sq.st = .running →
      u.pi.ret = none ∧ u.pi.hold = none ∧ u.pi.r = 0 ∧ LegsTaken m.n (m.n * 65536) m.legs s u)) ∧
  (∀ s : State, s.sq.st = .held ∨ s.sq.st = .idle → s.cn.machine ≠ .tripped →
    ∃ t : State, exec .pathPeriod s = .next t ∧
      ∀ a, (s.ax.get a).owner = .queue → (t.ax.get a).setpoint = (s.ax.get a).setpoint) ∧
  (∀ (s : State) (q : Nat) (c : MoveRec) (rs : List QRec), s.sq.st = .holding → s.pi.r = 0 → s.sq.current = true →
    s.sq.recs = ⟨q, .move c⟩ :: rs →
    let h : HoldRec := ⟨some (q, (s.pi.move.map fun m => m.p).getD 0), s.ax.map fun _ k => k.setpoint,
      ⟨false, false, false, false, false⟩⟩
    queueRule s = some { queueReport (.queueState .held .holding (some (q, 1)) s.sq.recs.length) s with
      sq.st := .held, pi.hold := some (s.pi.hold.getD h), pi.ret := none }) ∧
  ∀ (s : State) (tag : Nat), Still s → LinkFree s → s.sq.st = .running → s.pi.r = 0 → s.sq.recs = [] →
    rawOf s .queueStarved = false →
    let h : HoldRec := ⟨none, s.ax.map fun _ k => k.setpoint, ⟨false, false, false, false, false⟩⟩
    exec (.hold tag) s = .next (transmit (replied 0x12 tag ⟨.ok, []⟩
      (queueReport (.queueState .held .holding none 0) (queueReport (.queueState .holding .running none 0)
        { s with sq.st := .held, pi.hold := some (s.pi.hold.getD h), pi.ret := none }))))

/-- A path period in every state: the applied corrections step by R85 and R86 and nothing else in the banks changes;
each previous setpoint takes the setpoint; AXIS_STATUS shows each axis as the period left it; in TRIPPED every output is
0 and every setpoint follows the encoder; and where the machine is not TRIPPED at the end, the axes that were not homing
hold the following error and the clamped loop output of R60 and R61. The checks of the period, on the setpoints that it
has given: the first axis whose following error exceeds fe_limit trips the machine with FOLLOWING_ERROR; where none does
and the machine is not TRIPPED, DRIVE_SATURATED follows the clamp of the output and its count of 20, and HARD_LIMIT the
limits, for a pendant axis only toward a limit. That the first axis from X to B trips is the model's choice of an order
(entries 1 and 20), and so is a follow-up beyond 2 000 000 000 pu (entry 31). -/
def Obligations.PathPeriodMovesTheAxes : Prop :=
  (∀ s : State, ∃ t : State, exec .pathPeriod s = .next t ∧
    t.cs = (s.cs.map fun a b => compStep b (s.ax.get a).refd (s.ax.get a).prev) ∧
    t.inp = s.inp ∧ t.am = s.am ∧
    (∀ a, (t.ax.get a).prev = (t.ax.get a).setpoint ∧ (t.ax.get a).snap = takeSnap t a (t.ax.get a) ∧
      (t.ax.get a).p = (s.ax.get a).p) ∧
    (s.cn.machine = .tripped → ∀ a, (t.ax.get a).out = 0 ∧ (t.ax.get a).enc = (s.ax.get a).enc ∧
      (t.ax.get a).setpoint = (s.ax.get a).enc - (t.cs.get a).c) ∧
    (t.cn.machine ≠ .tripped → ∀ a, (s.ax.get a).owner ≠ .homing →
      let k := t.ax.get a
      k.enc = (s.ax.get a).enc ∧ k.e = k.setpoint + (t.cs.get a).c - k.enc ∧
        k.out = max (-32767) (min 32767
          ((k.p.kp * k.e + k.p.kff * (k.setpoint - (s.ax.get a).prev)).tdiv 256)))) ∧
  ∀ s : State, s.cn.machine ≠ .tripped → ∃ t : State, exec .pathPeriod s = .next t ∧
    let w := periodSetpoints s
    let e := fun a => (w.ax.get a).setpoint + (w.cs.get a).c - (w.ax.get a).enc
    let z := fun a => ((w.ax.get a).p.kp * e a +
      (w.ax.get a).p.kff * ((w.ax.get a).setpoint - (w.ax.get a).prev)).tdiv 256
    let exceeds := fun a => (w.ax.get a).p.feLimit < (e a).natAbs
    (∀ pre a post, allAxes = pre ++ a :: post → (∀ b ∈ pre, ¬exceeds b) → exceeds a →
      t.cn.machine = .tripped ∧ (∀ b, (t.ax.get b).out = 0) ∧ (condEntry t (.followingError (.axis a))).latched = true ∧
      (condEntry t (.followingError (.axis a))).last =
        some ⟨s.hlp.ms, if (w.ax.get a).owner = .queue then moveSeq w else 0, fit32 (e a)⟩) ∧
    (t.cn.machine ≠ .tripped → ∀ a,
      let n := if 32767 < (z a).natAbs then 0 else min 20 ((s.ax.get a).satCount + 1)
      (t.ax.get a).satCount = n ∧
      (rawOf t (.driveSaturated (.axis a)) = true ↔
        32767 < (z a).natAbs ∨ (rawOf s (.driveSaturated (.axis a)) = true ∧ n < 20)) ∧
      (rawOf t (.hardLimit a) = true ↔
        if (w.ax.get a).owner = .pendant then
          (limitPlus s a = true ∧ (w.ax.get a).prev < (w.ax.get a).setpoint) ∨
            (limitMinus s a = true ∧ (w.ax.get a).setpoint < (w.ax.get a).prev)
        else limitActive s a = true) ∧
      (rawOf s (.hardLimit a) = false → rawOf t (.hardLimit a) = true → ∃ q,
        (condEntry t (.hardLimit a)).last = some ⟨s.hlp.ms, q, if limitPlus s a then 1 else 0⟩ ∧
          ((w.ax.get a).owner ≠ .queue → q = 0)))

/-! ## Axis Channels and Compensation Store -/

/-- HOME of a free axis in a READY machine with the queue IDLE and no limit active. A RELEASED axis goes to SEARCH in
the event, owned by HOMING and UNREFERENCED, and nothing else changes. A CLAMPED axis stands in WAIT_RELEASE, its
RELEASE request joins the FIFO and the pump starts, and nothing else changes. Then, in the work of a path period in
which no STOP or TRIP reaction comes: the profile moves the setpoint toward the phase's velocity; the switch ends
SEARCH, standstill begins LATCH, the switch steps LATCH on, the latched index shifts the axis and begins SETTLE, and at
rest it is REFERENCED. Travel beyond home_travel or index_window fails the homing, as do a limit, a STOP and a TRIP; a
failed homing ends at rest, by a closing rule, UNREFERENCED, with REFERENCE_FAILED and HOME_DONE. A change of the switch
ends SEARCH, or steps LATCH on, in the event of its delivery, and nothing else changes. That the latched index is taken
before the profile moves is DEDUCED (entry 24), as is the order of the period's work (entry 20); a setpoint beyond 2 000 000 000 pu goes on exactly, which is the model's
choice (entry 31). -/
def Obligations.HomeTakesTheAxis : Prop :=
  (∀ (s : State) (tag i : Nat) (a : Axis), Still s → LinkFree s → axisOf i = some a → s.cn.machine = .ready →
    s.sq.st = .idle → (s.ax.get a).owner = .none → limitActive s a = false → (∀ c, (s.cc.get c).idle = 0) →
    (released s a = true →
      exec (.home tag i) s = .next (transmit (replied 0x18 tag ⟨.ok, []⟩
        (updAx a (fun k => { k with owner := .homing, refd := false, hVel := 0, hRem := 0, hFail := none,
                                    phase := .search, hFrom := k.setpoint }) s)))) ∧
    (∀ c, clampOfAxis a = some c → (s.cc.get c).st = .clamped → (s.cc.get c).policy ≠ .never →
      s.hs.st = .pumpOff → s.hs.fifo = [] → s.hs.holder = none → hydMin s = false →
      exec (.home tag i) s = .next (transmit (replied 0x18 tag ⟨.ok, []⟩
        { s with
          ax := s.ax.upd a fun k => { k with owner := .homing, refd := false, hVel := 0, hRem := 0, hFail := none,
                                             phase := .waitRelease }
          cc := s.cc.upd c fun k => { k with st := .releaseWait }
          hs := { s.hs with fifo := [⟨.axis c, .release⟩], st := .starting, startT := .start s.hs.startTimeP,
                            offDelay := .stopped } })))) ∧
  (∀ (s : State) (a : Axis), HomingRuns s a →
    let k := s.ax.get a
    let vel := fun V : Int => toward k.hVel V (max 1 (k.p.jogAccel / 1000))
    let sign : Int := if k.p.homeDir = 0 then -1 else 1
    let on := homeSwitch s a
    let lim := limitActive s a
    let u := periodWork s
    exec .pathPeriod s = .next (snapAll (finish u)) ∧ (u.cn.machine = .ready →
      let n := u.ax.get a
      let moved := fun (v d : Int) => n.hVel = v ∧ n.hRem = (k.hRem + v) - (k.hRem + v).tdiv 1000 * 1000 ∧
        n.setpoint = k.setpoint + d + (k.hRem + v).tdiv 1000 ∧ n.owner = .homing
      let gone := (n.setpoint - n.hFrom).natAbs
      (k.phase = .search → on = false → lim = false → moved (vel (sign * k.p.searchSpeed)) 0 ∧ n.hFrom = k.hFrom ∧
        (gone ≤ k.p.homeTravel → n.phase = .search) ∧
        (k.p.homeTravel < gone → n.phase = .ending ∧ n.hFail = some (.travel, .search))) ∧
      ((k.phase = .search ∧ on = true) ∨ k.phase = .searchStop → moved (vel 0) 0 ∧
        (vel 0 ≠ 0 → n.phase = .searchStop ∧ n.hFrom = k.hFrom) ∧
        (vel 0 = 0 → n.phase = .latch ∧ n.hStep = (if on then .inactive else .active) ∧ n.hFrom = n.setpoint ∧
          n.latch = none)) ∧
      (k.phase = .latch → k.hStep = .active ∨ (k.hStep = .inactive ∧ on = true) → lim = false →
        moved (vel (-sign * k.p.latchSpeed)) 0 ∧ n.hFrom = k.hFrom ∧
        (gone ≤ k.p.homeTravel → n.phase = .latch ∧ n.hStep = (if on then .inactive else .active)) ∧
        (k.p.homeTravel < gone → n.phase = .ending ∧ n.hFail = some (.travel, .latch))) ∧
      (k.phase = .latch → (k.hStep = .inactive ∧ on = false) ∨ (k.hStep = .index ∧ k.latch = none) → lim = false →
        moved (vel (-sign * k.p.latchSpeed)) 0 ∧ n.latch = none ∧
        n.hFrom = (if k.hStep = .index then k.hFrom else k.setpoint) ∧
        (gone ≤ k.p.indexWindow → n.phase = .latch ∧ n.hStep = .index) ∧
        (k.p.indexWindow < gone → n.phase = .ending ∧ n.hFail = some (.index, .latch))) ∧
      ((k.phase = .search ∧ on = false) ∨ (k.phase = .latch ∧ (k.hStep = .index → k.latch = none)) → lim = true →
        moved (vel 0) 0 ∧ n.phase = .ending ∧ n.hFail = some (.limit, k.phase)) ∧
      (∀ l, k.phase = .latch → k.hStep = .index → k.latch = some l → vel 0 ≠ 0 →
        moved (vel 0) (k.p.homePosition - l) ∧ n.enc = fit32 (k.enc + (k.p.homePosition - l)) ∧ n.latch = none ∧
          n.phase = .settle) ∧
      (k.phase = .settle ∨ k.phase = .ending → vel 0 ≠ 0 → moved (vel 0) 0 ∧ n.phase = k.phase) ∧
      (k.phase = .settle → k.hVel = 0 → k.hRem.natAbs < 1000 → standsAt k (u.cs.get a).c →
        n.owner = .none ∧ n.phase = .none ∧ n.refd = true ∧ n.setpoint = k.setpoint))) ∧
  (∀ (s : State) (a : Axis) (n : Fin 32), Still s → n.val = 12 + axisIdx a → s.inp[n].ft ≤ s.inp[n].t →
    s.inp[n].settled = false ∨ s.inp[n].raw ≠ s.inp[n].filt →
    let k := s.ax.get a
    let on := s.inp[n].raw
    let w : State := { s with inp := s.inp.set n { s.inp[n] with filt := on, settled := true } }
    (k.phase = .search → on = true → exec (.inputFilterTimeReached n) s = .next (transmit
      { w with ax := s.ax.upd a fun k => { k with phase := .searchStop } })) ∧
    (k.phase = .latch → k.hStep = .active → on = true → exec (.inputFilterTimeReached n) s = .next (transmit
      { w with ax := s.ax.upd a fun k => { k with hStep := .inactive } })) ∧
    (k.phase = .latch → k.hStep = .inactive → on = false → exec (.inputFilterTimeReached n) s = .next (transmit
      { w with ax := s.ax.upd a fun k => { k with hStep := .index, hFrom := k.setpoint, latch := none } })) ∧
    ((k.phase = .search ∧ on = false) ∨ (k.phase ≠ .search ∧ k.phase ≠ .latch) ∨
        (k.phase = .latch ∧ (k.hStep = .active → on = false) ∧ (k.hStep = .inactive → on = true)) →
      exec (.inputFilterTimeReached n) s = .next (transmit w))) ∧
  (∀ (s : State) (a : Axis) (r : HomeReason) (ph : HomePhase), (s.ax.get a).phase = .ending →
    (s.ax.get a).hVel = 0 → (s.ax.get a).atRest = true → (s.ax.get a).hFail = some (r, ph) →
    homeRule s a = some (queueReport (.homeDone a (.failed r ph)) (latch (.referenceFailed a) 0 r.num
      (updAx a (fun k => { k with phase := .none, owner := .none, refd := false, hVel := 0, hRem := 0, hFail := none })
        s)))) ∧
  ∀ (s : State) (a : Axis) (c : Cond) (q : Nat) (v : Int), s.cn.machine ≠ .tripped →
    let k := s.ax.get a
    let why : HomeReason := if limitActive s a then .limit else .aborted
    let n := (raise c q v s).ax.get a
    (c.cls = .stop → k.owner = .homing →
      (k.phase = .waitRelease ∨ k.phase = .search ∨ k.phase = .searchStop ∨ k.phase = .latch →
        n.phase = .ending ∧ n.hFail = some (why, k.phase) ∧ n.owner = k.owner) ∧
      (k.phase = .settle ∨ k.phase = .ending → n.phase = k.phase ∧ n.hFail = k.hFail ∧ n.owner = k.owner)) ∧
    (c.cls = .trip →
      (k.phase = .settle → n.phase = .none ∧ n.owner = .none ∧ n.refd = true) ∧
      (k.phase = .waitRelease ∨ k.phase = .search ∨ k.phase = .searchStop ∨ k.phase = .latch →
        n.phase = .none ∧ n.owner = .none ∧ n.refd = false ∧ n.hFail = none ∧
        (condEntry (raise c q v s) (.referenceFailed a)).last = some ⟨s.hlp.ms, 0, why.num⟩))

/-- COMP_LOAD that is taken leaves the bank LOADING with the values at their indices, every other point as it was (none,
where the bank was EMPTY); COMP_COMMIT leaves it ACTIVE with its geometry and the points below the count; COMP_CLEAR
leaves it EMPTY. The other four banks and the bank's applied correction and slew stay, and in a still state nothing but
the bank and the link changes. -/
def Obligations.CompBanksChange : Prop :=
  ∀ (s : State) (tag i : Nat) (a : Axis), LinkFree s → axisOf i = some a →
    (∀ (first : Nat) (vs : List Int), 1 ≤ vs.length → vs.length ≤ 32 → first ≤ 127 → first + vs.length ≤ 128 →
      (∀ v ∈ vs, -5000 ≤ v ∧ v ≤ 5000) → (s.cs.get a).st ≠ .active →
      ∃ t : State, exec (.compLoad tag i first vs) s = .next t ∧ (∀ o, o ≠ a → t.cs.get o = s.cs.get o) ∧
        { t.cs.get a with st := (s.cs.get a).st, pts := (s.cs.get a).pts } = s.cs.get a ∧ (t.cs.get a).st = .loading ∧
        (∀ n : Fin 128, (t.cs.get a).pts[n] =
          if first ≤ n.val ∧ n.val < first + vs.length then vs[n.val - first]?
          else if (s.cs.get a).st = .empty then none else (s.cs.get a).pts[n]) ∧
        t.hlp.slot = some ⟨0x1A, tag, ⟨.ok, [.u8 1, .u8 (writtenCount (t.cs.get a))]⟩⟩ ∧
        (Still s → { t with cs := s.cs, hlp := s.hlp } = s)) ∧
    (∀ (count : Nat) (origin spacing : Int) (mode check : Nat), 2 ≤ count → count ≤ 128 → -2000000000 ≤ origin →
      origin ≤ 2000000000 → 1 ≤ spacing → spacing ≤ 1000000 → mode ≤ 1 → check ≤ 65535 → (s.cs.get a).st = .loading →
      (∀ n : Fin 128, n.val < count → (s.cs.get a).pts[n] ≠ none) → pointSum (s.cs.get a) count = check →
      ∃ t : State, exec (.compCommit tag i count origin spacing mode check) s = .next t ∧
        (∀ o, o ≠ a → t.cs.get o = s.cs.get o) ∧ (t.cs.get a).st = .active ∧
        (t.cs.get a).geom = some ⟨count, origin, spacing, if mode = 0 then .step else .linear, check⟩ ∧
        (∀ n : Fin 128, (t.cs.get a).pts[n] = if n.val < count then (s.cs.get a).pts[n] else none) ∧
        (t.cs.get a).c = (s.cs.get a).c ∧ (t.cs.get a).slew = (s.cs.get a).slew ∧
        t.hlp.slot = some ⟨0x1B, tag, ⟨.ok, []⟩⟩ ∧
        (Still s → { t with cs := s.cs, hlp := s.hlp } = s)) ∧
    (∃ t : State, exec (.compClear tag i) s = .next t ∧ (∀ o, o ≠ a → t.cs.get o = s.cs.get o) ∧
      (t.cs.get a).st = .empty ∧ (t.cs.get a).geom = none ∧ (∀ n : Fin 128, (t.cs.get a).pts[n] = none) ∧
      (t.cs.get a).c = (s.cs.get a).c ∧ (t.cs.get a).slew = (s.cs.get a).slew ∧
      t.hlp.slot = some ⟨0x1C, tag, ⟨.ok, []⟩⟩ ∧
      (Still s → { t with cs := s.cs, hlp := s.hlp } = s))

/-- In a path period the applied correction moves toward its target by at most comp_slew and stops at it; the target is
0 unless the axis is REFERENCED and the bank ACTIVE, is the end value at and beyond the ends of the map, and is the
point's value exactly at a map point, in both modes. Between two points STEP keeps the lower point's value, and LINEAR
adds the exact share of the way to the next, rounded to nearest with halves away from zero, between the two values. -/
def Obligations.CorrectionsSlewToTheMap : Prop :=
  ∀ (b : Bank) (refd : Bool) (z : Int),
    (b.c ≤ (compStep b refd z).target →
      (compStep b refd z).c = min (b.c + b.slew) (compStep b refd z).target) ∧
    ((compStep b refd z).target ≤ b.c →
      (compStep b refd z).c = max (b.c - b.slew) (compStep b refd z).target) ∧
    (refd = false ∨ b.st ≠ .active → (compStep b refd z).target = 0) ∧
    (∀ g, b.st = .active → b.geom = some g → 2 ≤ g.count → 1 ≤ g.spacing →
      (z ≤ g.origin → (compStep b true z).target = b.point 0) ∧
      (g.origin + (g.count - 1) * g.spacing ≤ z → (compStep b true z).target = b.point (g.count - 1)) ∧
      (∀ i : Nat, i < g.count → z = g.origin + i * g.spacing → (compStep b true z).target = b.point i) ∧
      ∀ (i : Nat) (f : Int), i + 1 < g.count → 0 < f → f < g.spacing → z = g.origin + i * g.spacing + f →
        let v := b.point i
        let w := b.point (i + 1)
        let t := (compStep b true z).target
        (g.mode = .step → t = v) ∧
        (g.mode = .linear → 2 * |(t - v) * g.spacing - (w - v) * f| ≤ g.spacing ∧
          (2 * |(t - v) * g.spacing - (w - v) * f| = g.spacing → |(w - v) * f| < |(t - v) * g.spacing|) ∧
          min v w ≤ t ∧ t ≤ max v w))

/-- The four edges. An encoder edge moves its position by one count in the sense that enc_dir gives, a spindle edge
moves the position count; an index edge stores the encoder position in the latch, the spindle's first one the index
position, which later ones leave. Nothing else changes in a still state. A count beyond 32 bits is a free value (entry
2). -/
def Obligations.EdgesCount : Prop :=
  ∀ (s : State), Still s →
    (∀ (a : Axis) (forward : Bool), exec (.encoderEdge a forward) s = .next (transmit
      (updAx a (fun k => { k with
        enc := fit32 (if forward = (k.p.encDir == 0) then k.enc + 1 else k.enc - 1) }) s))) ∧
    (∀ a : Axis, exec (.axisIndexEdge a) s = .next (transmit (updAx a (fun k => { k with latch := some k.enc }) s))) ∧
    (∀ cw : Bool, exec (.spindleEncoderEdge cw) s =
      .next (transmit { s with sgu.pos := fit32 (if cw then s.sgu.pos + 1 else s.sgu.pos - 1) })) ∧
    (s.sgu.indexPos = none → exec .spindleIndexEdge s = .next (transmit { s with sgu.indexPos := some s.sgu.pos })) ∧
    (s.sgu.indexPos ≠ none → exec .spindleIndexEdge s = .next (transmit s)) ∧
    (0 < s.sgu.p.cpr → ∀ θ, spindleAngle s = some θ → θ < s.sgu.p.cpr)

/-! ## Clamps and supply -/

/-- CLAMP_SET while another requester holds the grant: CLAMP on a RELEASED free axis makes it CLAMP_WAIT and its CLAMP
request joins the FIFO; RELEASE on a CLAMPED axis makes it RELEASE_WAIT and its RELEASE request joins. The reply is OK
with the clamp report, and nothing else changes. A CLAMP record is dispatched as that request, and completes when the
axis stands as it asks; the record of a NEVER axis completes at dispatch and asks for nothing. -/
def Obligations.ClampSetJoinsTheFifo : Prop :=
  (∀ (s : State) (tag i : Nat) (c : ClampAxis), Still s → LinkFree s → clampOf i = some c → s.cn.machine = .ready →
    (s.cc.get c).policy ≠ .never → s.hs.holder ≠ none →
    ((s.cc.get c).st = .released → (s.ax.get (clampAxis c)).owner = .none →
      let u : State := { s with
        cc := s.cc.upd c fun k => { k with st := .clampWait, fromFault := false, idle := 0 }
        hs := { s.hs with fifo := s.hs.fifo ++ [⟨.axis c, .clamp⟩] } }
      exec (.clampSetClamp tag i) s = .next (transmit (replied 0x1E tag ⟨.ok, clampReport u⟩ u))) ∧
    ((s.cc.get c).st = .clamped →
      let u : State := { s with
        cc := s.cc.upd c fun k => { k with st := .releaseWait }
        hs := { s.hs with fifo := s.hs.fifo ++ [⟨.axis c, .release⟩] } }
      exec (.clampSetRelease tag i) s = .next (transmit (replied 0x1E tag ⟨.ok, clampReport u⟩ u)))) ∧
  ∀ (s : State) (q : Nat) (c : ClampAxis) (clamp : Bool) (rs : List QRec), s.sq.recs = ⟨q, .clamp c clamp⟩ :: rs →
    let h := headCurrent s
    let t := dispatchHead s
    ((s.cc.get c).policy = .never → Completed q rs t ∧ t.cc = s.cc ∧ t.hs = s.hs) ∧
    ((s.cc.get c).policy ≠ .never → s.cn.machine ≠ .tripped →
      (clamp = true → (s.cc.get c).st = .released → t = { h with
        cc := s.cc.upd c fun k => { k with st := .clampWait, fromFault := false, idle := 0 }
        hs := { s.hs with fifo := s.hs.fifo ++ [⟨.axis c, .clamp⟩] } }) ∧
      (clamp = false → (s.cc.get c).st = .clamped → t = { h with
        cc := s.cc.upd c fun k => { k with st := .releaseWait }
        hs := { s.hs with fifo := s.hs.fifo ++ [⟨.axis c, .release⟩] } })) ∧
    (RunsRecord ⟨q, .clamp c clamp⟩ rs s →
      let there := (s.cc.get c).st = if clamp then .clamped else .released
      (there → ∃ u : State, queueRule s = some u ∧ Completed q rs u ∧ u.sq.st = s.sq.st) ∧
      (¬there → queueRule s = none))

/-- The clamp timers at their limits: the idle clamp asks for the axis, and a release or a clamp that has run out takes
the axis to FAULT, returns the grant and raises CLAMP_FAULT with value 0 or 1 and the seq of R96, that of a MOVE which
waits for the axis in HELD too (entry 42: the model's choice); the end of the event follows. -/
def Obligations.ClampTimersRunOut : Prop :=
  ∀ (s : State) (c : ClampAxis),
    ((s.cc.get c).st = .released → (s.cc.get c).policy = .auto → (s.ax.get (clampAxis c)).owner = .none →
      (s.cc.get c).delay ≤ (s.cc.get c).idle → s.cn.machine ≠ .tripped →
      exec (.idleClamp c) s = .next (finish { s with
        cc := s.cc.upd c fun k => { k with st := .clampWait, fromFault := false, idle := 0 }
        hs := { s.hs with fifo := s.hs.fifo ++ [⟨.axis c, .clamp⟩] } })) ∧
    (∀ (st : ClampState) (row : Instr) (v : Int),
      (st = .releasing ∧ row = .releaseTimeout c ∧ v = 0) ∨ (st = .clamping ∧ row = .clampTimeout c ∧ v = 1) →
      (s.cc.get c).st = st → (s.cc.get c).op.on = true → (s.cc.get c).op.lim ≤ (s.cc.get c).op.t →
      exec row s = .next (finish (raiseStop (.clampFault c) (clampSeq s c) v (hydReturn (.axis c)
        { s with cc := s.cc.upd c fun k =>
            { k with st := .fault, follow := .none, granted := false, op := .stopped } }))))

/-- The supply's and the spindle's timers at their limits: the off-delay stops the pump and HYD_PRESSURE_LOW falls; the
start timer makes the supply LOW and raises HYD_PRESSURE_LOW with value 0; the overload time raises SPINDLE_OVERLOAD
with S_act; the oil grace ends, after which GEAR_OIL_LOW follows OIL_MIN. -/
def Obligations.PumpAndSpindleTimersRunOut : Prop :=
  ∀ s : State,
    (s.hs.offDelay.on = true → s.hs.offDelay.lim ≤ s.hs.offDelay.t →
      exec .pumpOffDelay s = .next (finish (fall .hydPressureLow
        { s with hs.st := .pumpOff, hs.offDelay := .stopped, hs.startT := .stopped }))) ∧
    (s.hs.st = .starting → s.hs.startT.on = true → s.hs.startT.lim ≤ s.hs.startT.t →
      rawOf s .hydPressureLow = false →
      exec .hydStartTimeout s = .next (finish (raiseStop .hydPressureLow 0 0
        (setRaw .hydPressureLow true { s with hs.st := .low, hs.startT := .stopped })))) ∧
    (loadMax s = true → spindleRuns s = true → s.sgu.overDone = false → s.sgu.p.overloadTime ≤ s.sgu.overload →
      exec .spindleOverload s = .next (finish (raiseStop .spindleOverload (moveSeq s) s.sgu.sAct
        { s with sgu.overDone := true }))) ∧
    (spindleRuns s = true → s.sgu.oilDone = false → s.sgu.p.oilGrace ≤ s.sgu.oilT →
      exec .oilGraceEnd s = .next (finish { s with sgu.oilDone := true }))

/-- Before its time, and with its timer stopped, a timer's row changes nothing (entry 5: the model's choice). -/
def Obligations.TimerRowsWaitForTheirTime : Prop :=
  ∀ s : State, Still s →
    (∀ c, idleDue s c = false → exec (.idleClamp c) s = .next (transmit s)) ∧
    (∀ c, (s.cc.get c).op.due = false →
      exec (.releaseTimeout c) s = .next (transmit s) ∧ exec (.clampTimeout c) s = .next (transmit s)) ∧
    (s.hs.offDelay.due = false → exec .pumpOffDelay s = .next (transmit s)) ∧
    (s.hs.startT.due = false → exec .hydStartTimeout s = .next (transmit s)) ∧
    (s.sgu.prepareT.due = false → exec .prepareTimeout s = .next (transmit s)) ∧
    (s.sgu.positionT.due = false → exec .positionTimeout s = .next (transmit s)) ∧
    (s.sgu.strokeT.due = false → exec .strokeTimeout s = .next (transmit s)) ∧
    (s.sgu.dwellT.due = false → exec .meshDwellEnd s = .next (transmit s)) ∧
    (s.sgu.settleT.due = false → exec .settleTimeReached s = .next (transmit s)) ∧
    (s.cu.proveT.due = false → exec .floodProveTimeout s = .next (transmit s)) ∧
    (s.cu.floodDryT.due = false → exec .floodDryTimeout s = .next (transmit s)) ∧
    (s.cu.rampT.due = false → exec .tscRampTimeout s = .next (transmit s)) ∧
    (s.cu.keepT.due = false → exec .suspendKeepEnd s = .next (transmit s)) ∧
    (s.cu.purgeT.due = false → exec .purgeEnd s = .next (transmit s)) ∧
    (s.cu.tscDryT.due = false → exec .tscDryTimeout s = .next (transmit s)) ∧
    (eventDue s .spindleOverload = false → exec .spindleOverload s = .next (transmit s)) ∧
    (eventDue s .oilGraceEnd = false → exec .oilGraceEnd s = .next (transmit s)) ∧
    (s.pp.intT.due = false → exec .handwheelInterval s = .next (transmit s)) ∧
    (s.pp.freshT.due = false → exec .pendantTimeout s = .next (transmit s)) ∧
    (s.pp.mismT.due = false → exec .enableMismatch s = .next (transmit s)) ∧
    (s.pp.refuseT.due = false → exec .refuseTimerEnd s = .next (transmit s)) ∧
    (s.pp.clipT.due = false → exec .clipTimerEnd s = .next (transmit s)) ∧
    (s.pp.ltT.due = false → exec .lineTestWaitEnd s = .next (transmit s) ∧
      exec .lineTestListenEnd s = .next (transmit s)) ∧
    (∀ n, s.inp[n].due = false → exec (.inputFilterTimeReached n) s = .next (transmit s))

/-! ## Spindle and gearbox -/

/-- SPINDLE_SET. A RUN that is taken sets the requested speed, clamped to 6000, and direction, forms the target by R108
and starts a spindle that is OFF; a speed above the range's maximum raises SPEED_CLAMPED. A STOP sets requested and
target speed to 0 and sends a turning spindle to DECEL. The reply carries the spindle report as it stands right after
the command and before what follows in the event (entry 18, DEDUCED). A SPINDLE record is dispatched as such a command,
or raises GEAR_NOT_ENGAGED, and completes at once, or with its wait flag at AT_SPEED or OFF. The spindle's work in a
path period: the speed from the counts of 16 periods, the ramp, AT_SPEED within the band, the clamped output and its
DRIVE_SATURATED; in TRIPPED the measurement alone. Before 16 periods have passed since a reset nothing is measured
(entry 46: the model's choice of the 17th period as the first). That a SPINDLE record without wait completes between
GEAR_NOT_ENGAGED and its STOP reaction is the model's choice (entry 10), as is the ratio of the range last engaged where
none is (entry 51); that the spindle's work comes last in a path period is DEDUCED (entry 20). -/
def Obligations.SpindleSetCommandsTheSpindle : Prop :=
  (∀ (s : State) (tag : Nat), LinkFree s → s.cn.machine = .ready → shifting s = false →
    (∀ (speed dir : Nat) (r : Range), 0 < speed → dir ≤ 1 → s.sgu.gear = .engaged r → driveRefuses s = false →
      ∃ u : State, exec (.spindleSetRun tag speed dir) s =
          .next (finish (replied 0x20 tag ⟨.ok, spindleReport u⟩ u)) ∧
        u.sgu.reqSpeed = min 6000 speed ∧ u.sgu.reqDir = (if dir = 0 then .cw else .ccw) ∧
        u.sgu.target = min (max 1 (min (min 6000 speed) (s.sgu.p.rangeMax.get r) * s.pi.spindleOvr / 100))
          (s.sgu.p.rangeMax.get r) ∧
        (s.sgu.st = .off → 0 < s.sgu.p.rangeMax.get r → u.sgu.st = .accel ∧ u.sgu.turnDir = u.sgu.reqDir) ∧
        (s.sgu.p.rangeMax.get r < min 6000 speed → (condEntry u .speedClamped).latched = true) ∧
        u.sgu.gear = s.sgu.gear ∧ u.ax = s.ax ∧ u.cs = s.cs ∧ u.cc = s.cc ∧ u.hs = s.hs ∧ u.cu = s.cu) ∧
    (∃ u : State, exec (.spindleSetStop tag) s = .next (finish (replied 0x20 tag ⟨.ok, spindleReport u⟩ u)) ∧
      u.sgu.reqSpeed = 0 ∧ u.sgu.target = 0 ∧ (turning s = true → u.sgu.st = .decel) ∧
      u.sgu.gear = s.sgu.gear ∧ u.ax = s.ax ∧ u.cs = s.cs ∧ u.cc = s.cc ∧ u.hs = s.hs ∧ u.cu = s.cu)) ∧
  (∀ (s : State) (q speed : Nat) (dir : Dir) (wait : Bool) (rs : List QRec),
    s.sq.recs = ⟨q, .spindle speed dir wait⟩ :: rs →
    let t := dispatchHead s
    (∀ r, s.sgu.gear = .engaged r →
      (wait = false → Completed q rs t) ∧ (wait = true → Pends s t) ∧ t.sgu.gear = s.sgu.gear ∧
      (speed = 0 → t.sgu.reqSpeed = 0 ∧ t.sgu.target = 0 ∧ (turning s = true → t.sgu.st = .decel)) ∧
      (0 < speed → t.sgu.reqSpeed = speed ∧ t.sgu.reqDir = dir ∧
        t.sgu.target = min (max 1 (min speed (s.sgu.p.rangeMax.get r) * s.pi.spindleOvr / 100)) (s.sgu.p.rangeMax.get r) ∧
        (s.sgu.st = .off → 0 < s.sgu.p.rangeMax.get r → t.sgu.st = .accel ∧ t.sgu.turnDir = dir) ∧
        (s.sgu.p.rangeMax.get r < speed →
          (condEntry t .speedClamped).last = some ⟨s.hlp.ms, q, fit32 speed⟩))) ∧
    (engagedRange s = none → (condEntry t .gearNotEngaged).latched = true ∧
      (condEntry t .gearNotEngaged).last = some ⟨s.hlp.ms, q, fit32 speed⟩ ∧
      t.cn.machine = machineAfter .stop s.cn.machine ∧
      t.sgu.reqSpeed = (if s.cn.machine = .tripped then s.sgu.reqSpeed else 0) ∧
      t.sq.lastSeq = (if wait then s.sq.lastSeq else q)) ∧
    (wait = true → RunsRecord ⟨q, .spindle speed dir wait⟩ rs s →
      let there := s.sgu.st = if speed = 0 then .off else .atSpeed
      (there → ∃ u : State, queueRule s = some u ∧ Completed q rs u ∧ u.sq.st = s.sq.st) ∧
      (¬there → queueRule s = none))) ∧
  ∀ s : State, exec .pathPeriod s = .next (snapAll (finish (spindleWork (axesWork (pathWork s))))) ∧
    let u := spindleWork s
    let g := s.sgu
    let run := s.cn.machine ≠ .tripped
    u.sgu.hist = (g.pos :: g.hist).take 17 ∧
    (g.hist[15]? = none → u.sgu.sAct = g.sAct ∧ u.sgu.measDir = g.measDir) ∧
    (∀ old, g.hist[15]? = some old →
      ((g.pos - old).natAbs * 60000 / (g.p.cpr * 16) ≤ 65535 →
        u.sgu.sAct = (g.pos - old).natAbs * 60000 / (g.p.cpr * 16)) ∧
      u.sgu.measDir = if old < g.pos then .cw else if g.pos < old then .ccw else g.measDir) ∧
    (s.cn.machine = .tripped →
      u = { s with sgu.hist := u.sgu.hist, sgu.sAct := u.sgu.sAct, sgu.measDir := u.sgu.measDir }) ∧
    (run → g.st = .accel ∨ g.st = .decel →
      let aim := if g.st = .accel then g.target * 1000 else 0
      u.sgu.ramped = if g.ramped < aim then min (g.ramped + g.p.accel) aim else max (g.ramped - g.p.accel) aim) ∧
    (run → g.st = .accel →
      u.sgu.st = if u.sgu.ramped = g.target * 1000 ∧
        ((u.sgu.sAct : Int) - g.target).natAbs ≤ max 10 (g.target * g.p.atSpeedPct / 100) then .atSpeed else .accel) ∧
    (run → g.st ≠ .accel → g.st ≠ .positioning → u.sgu.st = g.st) ∧
    (run → g.st ≠ .accel → g.st ≠ .decel → g.st ≠ .positioning → u.sgu.ramped = g.ramped) ∧
    (run → g.st ≠ .positioning →
      let motor := u.sgu.ramped / 1000 * g.p.rangeRatio.get ((engagedRange s).getD g.lastRange) / 1000
      let z : Int := if g.st = .off ∨ g.st = .fault then 0
        else (if g.turnDir = .cw then 1 else -1) * (motor * 32767 / g.p.motorMax : Nat)
      let n := if 32767 < z.natAbs then 0 else min 20 (g.satCount + 1)
      u.sgu.out = max (-32767) (min 32767 z) ∧ u.sgu.satCount = n ∧
        (rawOf u (.driveSaturated .spindle) = true ↔
          32767 < z.natAbs ∨ (rawOf s (.driveSaturated .spindle) = true ∧ n < 20)))

/-- GEAR_SELECT in a READY machine with the queue IDLE and no shift in progress: of another range than the engaged one
it starts a shift in PREPARING with a fresh shift record, origin 0, requested and target speed 0, a turning spindle
going to DECEL; of the engaged range it is answered OK and changes nothing. A GEAR record is dispatched alike, with its
seq as the origin: it completes in the engaged range, else its shift starts, or waits for one in progress; it completes
when the gear is ENGAGED in its range. -/
def Obligations.GearSelectStartsAShift : Prop :=
  (∀ (s : State) (tag i : Nat) (r : Range), LinkFree s → rangeOf i = some r → s.cn.machine = .ready →
    s.sq.st = .idle → shifting s = false →
    (engagedRange s ≠ some r → ∃ u : State, exec (.gearSelect tag i) s =
        .next (finish (replied 0x21 tag ⟨.ok, []⟩ u)) ∧
      u.sgu.gear = .preparing ∧ u.sgu.reqSpeed = 0 ∧ u.sgu.target = 0 ∧
      u.sgu.prepareT = .start s.sgu.p.prepareTime ∧
      (∃ h, u.sgu.shift = some h ∧ h.target = r ∧ h.origin = 0 ∧ h.attA = 0 ∧ h.attB = 0 ∧ h.total = 0 ∧
        h.entry = none) ∧
      (engagedRange s ≠ none → turning s = true → u.sgu.st = .decel) ∧
      u.sgu.mesh = s.sgu.mesh ∧ u.sgu.shiftCount = s.sgu.shiftCount ∧
      u.ax = s.ax ∧ u.cs = s.cs ∧ u.cc = s.cc ∧ u.hs = s.hs ∧ u.cu = s.cu) ∧
    (Still s → engagedRange s = some r →
      exec (.gearSelect tag i) s = .next (transmit (replied 0x21 tag ⟨.ok, []⟩ s)))) ∧
  ∀ (s : State) (q : Nat) (r : Range) (rs : List QRec), s.sq.recs = ⟨q, .gear r⟩ :: rs →
    let started := fun t : State => Pends s t ∧ t.sq.handed = true ∧ t.sgu.gear = .preparing ∧ t.sgu.reqSpeed = 0 ∧
      t.sgu.target = 0 ∧ t.sgu.prepareT = .start s.sgu.p.prepareTime ∧ t.sgu.shiftCount = s.sgu.shiftCount ∧
      ∃ h, t.sgu.shift = some h ∧ h.target = r ∧ h.origin = q ∧ h.attA = 0 ∧ h.attB = 0 ∧ h.total = 0 ∧ h.entry = none
    (shifting s = true → dispatchHead s = headCurrent s) ∧
    (s.sgu.gear = .engaged r → Completed q rs (dispatchHead s) ∧ (dispatchHead s).sgu = s.sgu) ∧
    (shifting s = false → s.sgu.gear ≠ .engaged r → started (dispatchHead s)) ∧
    (RunsRecord ⟨q, .gear r⟩ rs s →
      (shifting s = true → queueRule s = none) ∧
      (s.sgu.gear = .engaged r → ∃ u : State, queueRule s = some u ∧ Completed q rs u ∧ u.sgu = s.sgu) ∧
      (s.sq.handed = false → shifting s = false → s.sgu.gear ≠ .engaged r →
        ∃ u : State, queueRule s = some u ∧ started u))

/-- A shift fails at the end of prepare_time, of position_time, and of the dwell of attempt 8: the gear is FAULT, the
shift record is gone, the spindle is not POSITIONING, GEAR_SHIFT_FAILED is latched with the reason and the origin seq,
and GEAR_DONE is the report queued last. -/
def Obligations.ShiftsFailByTheirTimers : Prop :=
  ∀ (s : State) (h : Shift), s.sgu.shift = some h →
    (∀ (row : Instr) (why : ShiftReason),
      (row = .prepareTimeout ∧ why = .prepare ∧ s.sgu.prepareT.due = true) ∨
      (row = .positionTimeout ∧ why = .position ∧ s.sgu.positionT.due = true) ∨
      (row = .meshDwellEnd ∧ why = .mesh ∧ s.sgu.gear = .meshing ∧ s.sgu.dwellT.due = true ∧ 8 ≤ h.att h.cyl) →
      exec row s = .next (finish (shiftFail why s))) ∧
    ∀ why : ShiftReason,
      let u := shiftFail why s
      u.sgu.gear = .fault ∧ u.sgu.shift = none ∧ u.sgu.st ≠ .positioning ∧ u.sgu.shiftCount = s.sgu.shiftCount ∧
        (condEntry u .gearShiftFailed).latched = true ∧
        (condEntry u .gearShiftFailed).last = some ⟨s.hlp.ms, h.origin, why.num⟩ ∧
        (∃ e, u.rq.getLast? = some e ∧
          e.kind = .gearDone (.failed why h.cyl (h.att h.cyl) h.total) h.target none h.origin)

/-- A stroke that has lasted stroke_time without its sensor goes to MESHING with attempt 1, and a dwell that ends before
attempt 8 with the next one: the attempt counts rise by one and the spindle moves to the stroke start position plus the
attempt's offset. SETTLING that has lasted settle_time ends the shift ENGAGED in its target range, and the shift count
rises by one. In a path period the positioning setpoint moves toward its target at orient_speed, the loop's output
follows it, a following error beyond fe_limit trips the machine, and a positioning that has arrived within spindle_inpos
ends: in ORIENTING the stroke's request joins the grant FIFO, in MESHING the dwell begins. -/
def Obligations.StrokesMeshAndSettle : Prop :=
  (∀ (s : State) (h : Shift) (start : Int), s.sgu.shift = some h → h.start h.cyl = some start →
    (∀ row : Instr,
      (row = .strokeTimeout ∧ s.sgu.gear = .stroking ∧ s.sgu.strokeT.due = true ∧
        targetOn s h.target h.cyl = false ∧ h.att h.cyl = 0) ∨
      (row = .meshDwellEnd ∧ s.sgu.gear = .meshing ∧ s.sgu.dwellT.due = true ∧ h.att h.cyl < 8) →
      ∃ u : State, exec row s = .next (finish u) ∧ u.sgu.gear = .meshing ∧ u.sgu.posMoving = true ∧
        u.sgu.posTarget = start + ([1, -1, 2, -2, 4, -4, 8, -8].getD (h.att h.cyl) 0) * s.sgu.p.jogStep ∧
        (∃ k, u.sgu.shift = some k ∧ k.att h.cyl = h.att h.cyl + 1 ∧ k.total = h.total + 1 ∧ k.target = h.target)) ∧
    (s.sgu.gear = .settling → s.sgu.settleT.due = true → s.sgu.shiftCount < 4294967295 →
      ∃ u : State, exec .settleTimeReached s = .next (finish u) ∧ u.sgu.gear = .engaged h.target ∧
        u.sgu.shift = none ∧ u.sgu.shiftCount = s.sgu.shiftCount + 1 ∧ u.sgu.st ≠ .positioning ∧
        ∃ e, u.rq.getLast? = some e ∧
          e.kind = .gearDone (.ok (s.sgu.shiftCount + 1) h.total) h.target (some h.target) h.origin)) ∧
  ∀ s : State, s.cn.machine ≠ .tripped → s.sgu.st = .positioning →
    let g := s.sgu
    let u := spindleWork s
    let rem := g.pRem + g.p.orientSpeed * g.p.cpr
    let p := toward g.pSet g.posTarget (rem / 60000)
    let e := p - g.pos
    let there := g.posMoving = true ∧ p = g.posTarget ∧ e.natAbs ≤ g.p.inpos
    (g.p.feLimit < e.natAbs → u.cn.machine = .tripped ∧ u.sgu.out = 0 ∧ u.sgu.st = .off ∧
      (condEntry u (.followingError .spindle)).last = some ⟨s.hlp.ms, 0, fit32 e⟩) ∧
    (e.natAbs ≤ g.p.feLimit → u.cn.machine = s.cn.machine ∧ u.sgu.st = .positioning ∧ u.sgu.pSet = p ∧ u.sgu.pPrev = p ∧
      u.sgu.pRem = (if p = g.posTarget then 0 else rem % 60000) ∧
      u.sgu.out = max (-32767) (min 32767 ((g.p.kp * e + g.p.kff * (p - g.pPrev)).tdiv 256)) ∧
      (¬there → u.sgu.posMoving = g.posMoving ∧ u.sgu.gear = g.gear ∧ u.hs = s.hs ∧
        u.sgu.positionT = (if g.pSet ≠ g.posTarget ∧ p = g.posTarget ∧ g.posMoving = true then
          ⟨true, 0, g.p.positionTime⟩ else g.positionT)) ∧
      (there → u.sgu.posMoving = false ∧ u.sgu.positionT = .stopped ∧
        (g.gear = .orienting → u.sgu.gear = .strokeWait ∧
          u.hs = { s.hs with fifo := s.hs.fifo ++ [⟨.gear, .stroke⟩] }) ∧
        (g.gear = .meshing → u.sgu.gear = .meshing ∧ u.sgu.dwellT = ⟨true, 0, g.p.meshDwell⟩)))

/-- Learning keeps the mesh table at 12 entries or fewer with the entries of one key further apart than the tolerance,
puts the learned key and angle at the front with no misses and at least one hit, and drops no entry of another key but
the twelfth: behind the front stand the entries that are not near, and where none is near the first 11 of the table. -/
def Obligations.LearningKeepsTheMeshApart : Prop :=
  ∀ (cpr tol stamp angle : Nat) (k : MeshKey) (t : List MeshEntry), MeshApart cpr tol t →
    MeshApart cpr tol (meshLearn cpr tol stamp k angle t) ∧
    (∃ m rest, meshLearn cpr tol stamp k angle t = m :: rest ∧ m.key = k ∧ m.angle = angle ∧ m.misses = 0 ∧
      1 ≤ m.hits ∧ m.hits ≤ 255 ∧ m.stamp = stamp ∧ rest.Sublist t) ∧
    (t.length ≤ 11 → ∀ e ∈ t, e.key ≠ k → e ∈ meshLearn cpr tol stamp k angle t) ∧
    let near := fun e : MeshEntry => e.key = k ∧ circDist cpr e.angle angle ≤ tol
    (meshLearn cpr tol stamp k angle t).tail =
      if ∃ e ∈ t, near e then t.filter fun e => !decide (near e) else t.take 11

/-- MESH_TABLE_CLEAR empties the mesh table, PENDANT_TEXT stores 20 printable characters in line 1 to 4 and sets its NEW
flag, a KIND in 0x01 to 0x3F that Table 11-4 does not have is answered UNKNOWN_KIND with the code alone, RESTART is
answered OK with the code alone; none changes anything else. -/
def Obligations.SmallRequestsDoOneThing : Prop :=
  ∀ (s : State) (tag : Nat), Still s → LinkFree s →
    exec (.meshTableClear tag) s = .next (transmit (replied 0x23 tag ⟨.ok, []⟩ { s with sgu.mesh := [] })) ∧
    (∀ (i : Fin 4) (cs : List Nat), (∀ c ∈ cs, 0x20 ≤ c ∧ c ≤ 0x7E) →
      exec (.pendantText tag (i.val + 1) cs) s = .next (transmit (replied 0x28 tag ⟨.ok, []⟩
        { s with pp.lines := s.pp.lines.set i ⟨cs, true⟩ }))) ∧
    (∀ kind : Nat, exec (.unknownKind kind tag) s = .next (transmit (replied kind tag ⟨.unknownKind, []⟩ s))) ∧
    exec (.restart tag) s = .next (transmit (replied 0x05 tag ⟨.ok, []⟩ s))

/-! ## Coolant -/

/-- COOLANT_SET, one field at a time, outside TRIPPED: a fresh demand ON for flood in OFF with the level OK and the
pressure not yet up makes it PROVING with the prove timer from 0; flood OFF makes it OFF; mist is written through; TSC
OFF in WAIT_SPINDLE, RAMPING, ON or SUSPENDED makes it PURGING with duty 0 and the pump off. The reply carries the
coolant report as it then stands, and nothing else changes. A COOLANT record writes its fields at dispatch; without its
wait flag it completes at once, with it when every channel that it sets ON is ON, in HELD too. The window and band
counts of 0 in PURGING are the model's choice (entry 48). -/
def Obligations.CoolantSetWritesDemands : Prop :=
  (∀ (s : State) (tag : Nat), Still s → LinkFree s → s.cn.machine ≠ .tripped →
    (s.cu.flood = .off → levelOk s = true → floodMin s = false →
      let u : State := { s with cu.floodDem := true, cu.flood := .proving, cu.proveT := .start s.cu.p.floodProve }
      exec (.coolantSet tag 1 0 0 none) s = .next (transmit (replied 0x24 tag ⟨.ok, coolantReport u⟩ u))) ∧
    (currentRec s = none →
      let u : State := { s with cu.floodDem := false, cu.flood := .off, cu.proveT := .stopped, cu.floodDryT := .stopped }
      exec (.coolantSet tag 2 0 0 none) s = .next (transmit (replied 0x24 tag ⟨.ok, coolantReport u⟩ u))) ∧
    (∀ on : Bool,
      let u : State := { s with cu.mistDem := on }
      exec (.coolantSet tag 0 0 (if on then 1 else 2) none) s =
        .next (transmit (replied 0x24 tag ⟨.ok, coolantReport u⟩ u))) ∧
    (s.cu.tsc = .waitSpindle ∨ s.cu.tsc = .ramping ∨ s.cu.tsc = .on ∨ s.cu.tsc = .suspended → currentRec s = none →
      let u : State :=
        { s with cu.tscDem := false, cu.tsc := .purging, cu.duty := 0, cu.pump := false, cu.window := 0, cu.band := 0,
                 cu.rampT := .stopped, cu.keepT := .stopped, cu.tscDryT := .stopped,
                 cu.purgeT := .start s.cu.p.purgeTime }
      exec (.coolantSet tag 0 2 0 none) s = .next (transmit (replied 0x24 tag ⟨.ok, coolantReport u⟩ u)))) ∧
  ∀ (s : State) (q : Nat) (f t m : Dem) (p : Option Nat) (wait : Bool) (rs : List QRec),
    s.sq.recs = ⟨q, .coolant f t m p wait⟩ :: rs →
    let u := dispatchHead s
    let demand := fun (d : Dem) (old : Bool) => match d with
      | .on => true
      | .off => false
      | .unchanged => old
    (u.cu.floodDem = demand f s.cu.floodDem ∧ u.cu.tscDem = demand t s.cu.tscDem ∧ u.cu.mistDem = demand m s.cu.mistDem ∧
      u.cu.setP = (p.map fun v => max 100 (min 700 v)).getD s.cu.setP) ∧
    (wait = false → Completed q rs u) ∧ (wait = true → Pends s u) ∧
    (wait = true → RunsRecord ⟨q, .coolant f t m p wait⟩ rs s ∨
        (s.sq.recs = ⟨q, .coolant f t m p wait⟩ :: rs ∧ s.sq.current = true ∧ s.sq.st = .held) →
      let met := (f = .on → s.cu.flood = .on) ∧ (t = .on → s.cu.tsc = .on)
      (met → ∃ v : State, queueRule s = some v ∧ Completed q rs v ∧ v.sq.st = s.sq.st ∧ v.cu = s.cu) ∧
      (¬met → s.sq.st ≠ .holding → queueRule s = none))

/-- Flood in state OFF has its pump off. A fresh demand ON in OFF is taken by the level. With the level OK, the flood
state becomes PROVING, the pump comes on and the prove timer starts from 0. With the level low, the flood state becomes
FAULT and FLOOD_NOT_PROVEN is raised with value 3, and the pump does not come on. -/
def Obligations.FreshFloodIsTakenByTheLevel : Prop :=
  ∀ s : State, s.cu.flood = .off → floodPump s = false ∧
    (levelOk s = true → (floodFresh s).cu.flood = .proving ∧ floodPump (floodFresh s) = true ∧
      (floodFresh s).cu.proveT = ⟨true, 0, s.cu.p.floodProve⟩) ∧
    (levelOk s = false → (floodFresh s).cu.flood = .fault ∧ floodPump (floodFresh s) = false ∧
      (condEntry (floodFresh s) .floodNotProven).latched = true ∧
      (condEntry (floodFresh s) .floodNotProven).last = some ⟨s.hlp.ms, floodSeq s, 3⟩ ∧
      floodFresh s = raiseHold .floodNotProven (floodSeq s) 3
        { s with cu.flood := .fault, cu.proveT := .stopped, cu.floodDryT := .stopped })

/-- The pendant FLOOD press: outside TRIPPED it writes flood OFF when the demand is ON and a fresh ON when it is OFF,
leaves TSC, mist and the set pressure as they are, and in TRIPPED it changes nothing. -/
def Obligations.FloodPressToggles : Prop :=
  ∀ s : State,
    (s.cn.machine = .tripped → floodPress s = s) ∧
    (s.cn.machine ≠ .tripped → (floodPress s).cu.floodDem = !s.cu.floodDem ∧
      floodPress s = (if s.cu.floodDem then floodOff { s with cu.floodDem := false }
        else floodFresh { s with cu.floodDem := true }) ∧
      (floodPress s).cu.tscDem = s.cu.tscDem ∧ (floodPress s).cu.mistDem = s.cu.mistDem ∧
      (floodPress s).cu.setP = s.cu.setP ∧ (floodPress s).cu.tsc = s.cu.tsc)

/-- The coolant timers at their limits: flood FAULT with FLOOD_NOT_PROVEN value 0 or 4, TSC FAULT with
TSC_PRESSURE_FAULT value 0 or 3, its pump off, its duty 0 and one purge begun; each raise has class HOLD, and with no
path and no jog to hold it only latches and reports. The end of suspend_keep stops the TSC pump, and the end of
purge_time in PURGING with no ON pending makes TSC OFF; nothing else changes. The window and band counts of 0 in FAULT
are the model's choice (entry 48). -/
def Obligations.CoolantTimersRunOut : Prop :=
  ∀ s : State,
    (∀ (row : Instr) (v : Int), (row = .floodProveTimeout ∧ v = 0 ∧ s.cu.proveT.due = true) ∨
      (row = .floodDryTimeout ∧ v = 4 ∧ s.cu.floodDryT.due = true) →
      exec row s = .next (finish (raiseHold .floodNotProven (floodSeq s) v
        { s with cu.flood := .fault, cu.proveT := .stopped, cu.floodDryT := .stopped }))) ∧
    (∀ (row : Instr) (v : Int), (row = .tscRampTimeout ∧ v = 0 ∧ s.cu.rampT.due = true) ∨
      (row = .tscDryTimeout ∧ v = 3 ∧ s.cu.tscDryT.due = true) →
      exec row s = .next (finish (raiseHold .tscPressureFault (tscSeq s) v
        { s with cu.tsc := .fault, cu.duty := 0, cu.pump := false, cu.window := 0, cu.band := 0,
                 cu.rampT := .stopped, cu.keepT := .stopped, cu.tscDryT := .stopped,
                 cu.purgeT := .start s.cu.p.purgeTime }))) ∧
    (∀ (c : Cond) (q : Nat) (v : Int), c = .floodNotProven ∨ c = .tscPressureFault →
      s.sq.st ≠ .running → s.sq.st ≠ .returning → noJog s → raiseHold c q v s = latch c q v s) ∧
    (Still s → s.cu.tsc = .suspended → s.cu.keepT.due = true →
      exec .suspendKeepEnd s = .next (transmit
        { s with cu.pump := false, cu.keepT := .stopped, cu.tscDryT := .stopped })) ∧
    (Still s → s.cu.tsc = .purging → s.cu.purgeT.due = true → s.cu.pendingOn = false →
      exec .purgeEnd s = .next (transmit { s with cu.tsc := .off, cu.purgeT := .stopped }))

/-- The duty step of R148 at a sample P with set pressure S: up by tsc_step below the deadband, down above it, kept
within it, clamped to 0 to 1000. A sample in any other TSC state steps no duty. A conversion of A2 in RAMPING counts the
window and makes TSC ON at the eighth sample in it; in ON it counts the band and faults at the eighth sample outside it.
A fresh demand ON is taken by the TSC state, the permit, the level and the filter; a write that changes the set pressure
starts RAMPING again from RAMPING and ON, its duty kept, and one that does not changes nothing. Nothing else changes.
The window and band counts of 0 in FAULT, and the band count of 0 at a changed set pressure, are the model's choice
(entry 48). -/
def Obligations.DutySteps : Prop :=
  ((∀ (p : CuParams) (duty P S : Nat),
    ((nextDuty p duty P S : Nat) : Int) = max 0 (min 1000
      (if (P : Int) < S - p.deadband then (duty : Int) + p.step
       else if (S : Int) + p.deadband < P then (duty : Int) - p.step else duty))) ∧
  (∀ (P : Nat) (s : State), tscFlows s = false → tscSample P s = s) ∧
  ∀ (P : Nat) (s : State), s.cu.tsc = .ramping → (tscSample P s).cu.duty = nextDuty s.cu.p s.cu.duty P s.cu.setP) ∧
  (∀ (s : State) (counts : Nat), Still s → currentRec s = none → s.am.next = 2 → counts ≤ 4095 →
    let P := scaleCounts s.am.chans[2] counts
    let far : Nat := ((P : Int) - s.cu.setP).natAbs
    let duty := nextDuty s.cu.p s.cu.duty P s.cu.setP
    ∃ t : State, exec (.analogConversion counts) s = .next t ∧
      (s.cu.tsc = .ramping → t.cu =
        if far ≤ s.cu.p.window then
          if 8 ≤ s.cu.window + 1 then
            { s.cu with duty := duty, tsc := .on, window := 8, band := 0, rampT := .stopped }
          else { s.cu with duty := duty, window := s.cu.window + 1 }
        else { s.cu with duty := duty, window := 0 }) ∧
      (s.cu.tsc = .on → far ≤ s.cu.p.faultBand → t.cu = { s.cu with duty := duty, band := 0 }) ∧
      (s.cu.tsc = .on → s.cu.p.faultBand < far → s.cu.band + 1 < 8 →
        t.cu = { s.cu with duty := duty, band := s.cu.band + 1 }) ∧
      (s.cu.tsc = .on → s.cu.p.faultBand < far → 8 ≤ s.cu.band + 1 →
        t = finish (raiseHold .tscPressureFault 0 1 { s with
          am.next := 3, am.chans := s.am.chans.set 2 { s.am.chans[2] with counts := counts, scaled := P }
          cu.tsc := .fault, cu.duty := 0, cu.pump := false, cu.window := 0, cu.band := 0, cu.rampT := .stopped,
          cu.keepT := .stopped, cu.tscDryT := .stopped, cu.purgeT := ⟨true, 0, s.cu.p.purgeTime⟩ }))) ∧
  (∀ (s : State) (tag : Nat), Still s → LinkFree s → s.cn.machine ≠ .tripped → currentRec s = none →
    let ends := fun (u : State) (c : Instr) =>
      exec c s = .next (transmit (replied 0x24 tag ⟨.ok, coolantReport u⟩ u))
    let fresh : Instr := .coolantSet tag 0 1 0 none
    let flows := permit s && levelOk s
    (s.cu.tsc = .off ∨ (s.cu.tsc = .fault ∧ s.cu.purgeT.on = false) →
      (filterBlock s = true → ends { s with
        cu.tscDem := true, cu.tsc := .fault, cu.duty := 0, cu.pump := false, cu.window := 0, cu.band := 0,
        cu.rampT := .stopped, cu.keepT := .stopped, cu.tscDryT := .stopped,
        cu.purgeT := ⟨true, 0, s.cu.p.purgeTime⟩ } fresh) ∧
      (filterBlock s = false → flows = true → tscOverload s = false → ends { s with
        cu.tscDem := true, cu.tsc := .ramping, cu.pump := true, cu.duty := s.cu.p.dutyStart, cu.window := 0,
        cu.rampT := ⟨true, 0, s.cu.p.rampTime⟩, cu.keepT := .stopped, cu.tscDryT := .stopped } fresh) ∧
      (filterBlock s = false → flows = false → ends { s with
        cu.tscDem := true, cu.tsc := .waitSpindle, cu.pump := false, cu.duty := 0, cu.keepT := .stopped,
        cu.tscDryT := .stopped } fresh)) ∧
    (s.cu.tsc = .purging ∨ (s.cu.tsc = .fault ∧ s.cu.purgeT.on = true) →
      ends { s with cu.tscDem := true, cu.pendingOn := true } fresh) ∧
    (s.cu.tsc = .waitSpindle ∨ s.cu.tsc = .ramping ∨ s.cu.tsc = .on → ends { s with cu.tscDem := true } fresh) ∧
    ∀ v : Nat,
      let S := max 100 (min 700 v)
      let write : Instr := .coolantSet tag 0 0 0 (some v)
      (S = s.cu.setP → ends s write) ∧
      (S ≠ s.cu.setP → s.cu.tsc = .ramping →
        ends { s with cu.setP := S, cu.window := 0, cu.rampT := ⟨true, 0, s.cu.p.rampTime⟩ } write) ∧
      (S ≠ s.cu.setP → s.cu.tsc = .on → levelOk s = true →
        ends { s with cu.setP := S, cu.tsc := .ramping, cu.window := 0, cu.band := 0,
                      cu.rampT := ⟨true, 0, s.cu.p.rampTime⟩, cu.tscDryT := .stopped } write) ∧
      (S ≠ s.cu.setP → s.cu.tsc = .on → levelOk s = false → 0 < s.cu.p.dryTime →
        ends { s with cu.setP := S, cu.tsc := .ramping, cu.window := 0, cu.band := 0,
                      cu.rampT := ⟨true, 0, s.cu.p.rampTime⟩, cu.tscDryT := ⟨true, 0, s.cu.p.dryTime⟩ } write) ∧
      (S ≠ s.cu.setP → s.cu.tsc ≠ .ramping → s.cu.tsc ≠ .on → ends { s with cu.setP := S } write))

/-! ## The Pendant Port -/

/-- A valid status frame outside TESTING makes or keeps the pendant PRESENT with the freshness timer from 0, and becomes
the last frame unless it repeats the last one's sequence; bytes that are no valid frame do nothing but leave the
receiver hunting; in TESTING nothing is read. The byte that ends a gap is examined as a hunting byte. A frame that is no
repeat sets the feed override from its knob where the source is PENDANT, arms or disarms by its enable and I3, and runs
the mismatch timer while the two disagree. A press of JOG+ or JOG− takes the selected axis where a jog is permitted, in
HELD with the axis displaced, and starts its jog; where it is not the refuse timer starts. START acts as the host's
where the pendant is armed, HOLD as the host's; both in one frame hold and resume a queue that stands still. -/
def Obligations.PendantFramesAreTaken : Prop :=
  (∀ (s : State) (l : List Byte),
    (∀ f, s.pp.st ≠ .testing → parseStatus l = some f → ∃ t : State, exec (.pendantFrame l) s = .next t ∧
      t.pp.st = .present ∧ t.pp.freshT = ⟨true, 0, 50⟩ ∧
      (s.pp.st = .present ∧ (s.pp.last.map fun o => o.seq) = some f.seq → t.pp.last = s.pp.last) ∧
      (¬(s.pp.st = .present ∧ (s.pp.last.map fun o => o.seq) = some f.seq) → t.pp.last = some f) ∧
      t.cs = s.cs ∧ t.inp = s.inp ∧ t.am = s.am) ∧
    (Still s → s.pp.st ≠ .testing → parseStatus l = none →
      exec (.pendantFrame l) s = .next (transmit { s with pp.rx := .hunting })) ∧
    (Still s → s.pp.st = .testing → exec (.pendantFrame l) s = .next (transmit s)) ∧
    (Still s → s.pp.st ≠ .testing → ∀ next : Byte, exec (.pendantFrameGap next) s =
      .next (transmit { s with pp.rx := if next = 0x5A then .inFrame else .hunting }))) ∧
  (∀ (s : State) (o f : StatusFrame) (l : List Byte), NewFrame s o f l →
    ∃ t : State, exec (.pendantFrame l) s = .next t ∧
      t.pi.feed = (if s.pi.source = .pendant then min 150 f.knob else s.pi.feed) ∧
      t.pp.armed = (if f.enable = .panic then false
        else if f.enable = .released ∧ enableContact s = false then true else s.pp.armed) ∧
      t.pp.mismT = (if (f.enable = .middle) ↔ (enableContact s = true) then .stopped
        else if s.pp.mismT.on then s.pp.mismT else ⟨true, 0, 50⟩)) ∧
  (∀ (s : State) (o f : StatusFrame) (l : List Byte) (a : Axis) (d : JogDir), Still s → NewFrame s o f l →
    JogFrame o f → f.sel = some a → f.enable = .middle →
    (d = .plus ∧ f.jogP = true ∧ f.jogM = false ∧ o.jogP = false) ∨
      (d = .minus ∧ f.jogM = true ∧ f.jogP = false ∧ o.jogM = false) →
    anyOwner s .pendant = false →
    (JogReady s → released s a = true →
      (s.ax.get a).owner = .none ∨ ((s.ax.get a).owner = .queue ∧ s.sq.st = .held) →
      ∃ t : State, exec (.pendantFrame l) s = .next t ∧ (t.ax.get a).owner = .pendant ∧
        (t.ax.get a).setpoint = (s.ax.get a).setpoint ∧
        (let j := t.pp.jogs.get a
         j.mode = .button ∧ j.dir = d ∧ j.fin = .none ∧ j.vel = (s.pp.jogs.get a).vel ∧
           j.rem = (s.pp.jogs.get a).rem) ∧
        (∀ i, i ≠ a → (t.ax.get i).owner = (s.ax.get i).owner) ∧
        t.pi.hold = (if (s.ax.get a).owner = .queue then
            s.pi.hold.map fun h => { h with displaced := h.displaced.upd a fun _ => true } else s.pi.hold) ∧
        t.sq.st = s.sq.st ∧ t.cs = s.cs ∧ t.hs = s.hs ∧
        t.cc = s.cc.map fun c k => if clampAxis c = a then { k with idle := 0 } else k) ∧
    (s.pp.armed = false ∨ enableContact s = false ∨ s.cn.machine ≠ .ready ∨
        (s.sq.st ≠ .idle ∧ s.sq.st ≠ .held) ∨ (s.ax.get a).owner = .homing →
      ∃ t : State, exec (.pendantFrame l) s = .next t ∧ (t.ax.get a).owner = (s.ax.get a).owner ∧
        t.pp.refuseT = ⟨true, 0, 500⟩ ∧ t.sq.st = s.sq.st)) ∧
  (∀ (s : State) (o f : StatusFrame) (l : List Byte), Still s → NewFrame s o f l → f.sel = o.sel → f.mult = o.mult →
    f.counter = o.counter → f.jogP = false → f.jogM = false → f.flood = false → f.enable = .middle →
    enableContact s = true → anyOwner s .pendant = false →
    ∃ t : State, exec (.pendantFrame l) s = .next t ∧
      (f.start = true → o.start = false → f.hold = false → s.sq.st = .idle → s.sq.recs = [] → s.sq.current = false →
        s.cn.machine = .ready → anyRaw s .hold = false → anyRaw s .stop = false → anyOwner s .homing = false →
        (∀ c, (s.cc.get c).idle = 0) →
        (s.pp.armed = true → t.sq.st = .running ∧
          ∀ i, (s.ax.get i).owner = .none → (t.ax.get i).owner = .queue) ∧
        (s.pp.armed = false → t.sq = s.sq ∧ { t.pi with feed := s.pi.feed } = s.pi)) ∧
      (f.hold = true → o.hold = false → f.start = false → s.sq.st = .running → s.pi.r ≠ 0 →
        t.sq.st = .holding ∧ t.pi.r = s.pi.r) ∧
      (f.hold = true → o.hold = false → f.start = true → o.start = false → s.pp.armed = true → s.sq.st = .running →
        s.sq.recs = [] → s.pi.r = 0 → s.pi.hold = none → s.cn.machine = .ready → anyRaw s .hold = false →
        anyRaw s .stop = false → anyRaw s .trip = false → rawOf s .queueStarved = false → s.rq.length ≤ 29 →
        t.sq.st = .running ∧ t.pi.hold = none ∧
        t.rq = s.rq ++ [⟨.queueState .holding .running none 0, s.hlp.ms, 0⟩,
          ⟨.queueState .held .holding none 0, s.hlp.ms, 0⟩, ⟨.queueState .running .held none 0, s.hlp.ms, 0⟩]))

/-- The pendant's own timers at their limits and the end of an answer: a new handwheel interval starts with its count 0
and its limit of R174, the refuse and clip timers stop, the transmitter falls idle; nothing else changes. -/
def Obligations.PendantTimersEnd : Prop :=
  ∀ s : State, Still s →
    (s.pp.intT.due = true → s.pp.seen = true → ∀ f, s.pp.last = some f →
      exec .handwheelInterval s = .next (transmit
        { s with pp.intT := ⟨true, 0, 20⟩, pp.intCount := 0, pp.clipped := false, pp.intAxis := f.sel, pp.intMult := f.mult,
                 pp.intLimit := (f.sel.map fun a =>
                   max 1 ((s.ax.get a).p.hwSpeed * 20 / (1000 * f.mult.num))).getD 1 })) ∧
    (s.pp.intT.due = true → s.pp.seen = false →
      exec .handwheelInterval s = .next (transmit
        { s with pp.intT := ⟨true, 0, 20⟩, pp.intCount := 0, pp.clipped := false, pp.intAxis := none, pp.intMult := .m1,
                 pp.intLimit := 1 })) ∧
    (s.pp.refuseT.due = true → exec .refuseTimerEnd s = .next (transmit { s with pp.refuseT := .stopped })) ∧
    (s.pp.clipT.due = true → exec .clipTimerEnd s = .next (transmit { s with pp.clipT := .stopped })) ∧
    exec .pendantAnswerSent s = .next (transmit { s with pp.tx := none })

/-- 50 ms without a valid frame: the pendant is LOST and disarmed, PENDANT_LOST is raised with the number of axes it
owns when it owns one or its enable was MIDDLE, every jog ends with the PANIC step, and PENDANT_ENABLE_MISMATCH falls.
50 ms of disagreeing channels raise PENDANT_ENABLE_MISMATCH with the enable and disarm the pendant. An answer being sent
goes on (entry 50: the model's choice). -/
def Obligations.PendantLossAndMismatch : Prop :=
  ∀ (s : State) (f : StatusFrame), s.pp.last = some f →
    (s.pp.st = .present → s.pp.freshT.due = true →
      let u := queueReport (.pendantState .lost .present .timeout)
        { s with pp.st := .lost, pp.freshT := .stopped, pp.mismT := .stopped, pp.armed := false }
      exec .pendantTimeout s = .next (finish (fall .pendantEnableMismatch (endAllJogs .panic
        (if 0 < pendantAxes s ∨ f.enable = .middle then raiseHold .pendantLost 0 (pendantAxes s) u else u))))) ∧
    (s.pp.mismT.due = true → rawOf s .pendantEnableMismatch = false →
      exec .enableMismatch s = .next (finish (raiseHold .pendantEnableMismatch 0 f.enable.num
        (setRaw .pendantEnableMismatch true { s with pp.armed := false }))))

/-- The line test from its request to its results: LINE_TEST outside TESTING with no axis the pendant's makes it TESTING
in WAIT with the power off; WAIT ends in LISTEN and LISTEN in ECHO; activity in LISTEN ends it FAILED, a reflection
within the window OPEN or SHORT with its distance, and the window's end NORMAL; at an end the pendant is ABSENT, the
power on and the result stored, with PENDANT_STATE and LINE_TEST_DONE. Nothing else changes. An answer being sent goes
on (entry 50: the model's choice). -/
def Obligations.LineTestRuns : Prop :=
  ∀ s : State, Still s →
    (∀ tag : Nat, LinkFree s → s.pp.st ≠ .testing → anyOwner s .pendant = false →
      exec (.lineTest tag) s = .next (transmit (replied 0x29 tag ⟨.ok, []⟩ (fall .pendantEnableMismatch
        (queueReport (.pendantState .testing s.pp.st .testStart)
          { s with pp.st := .testing, pp.armed := false, pp.freshT := .stopped, pp.mismT := .stopped, pp.power := false,
                   pp.ltPhase := .wait, pp.ltT := ⟨true, 0, 300⟩, pp.rx := .hunting }))))) ∧
    (s.pp.ltPhase = .wait → s.pp.ltT.due = true →
      exec .lineTestWaitEnd s = .next (transmit { s with pp.ltPhase := .listen, pp.ltT := ⟨true, 0, 50⟩ })) ∧
    (s.pp.ltPhase = .listen → s.pp.ltT.due = true →
      exec .lineTestListenEnd s = .next (transmit { s with pp.ltPhase := .echo, pp.ltT := .stopped })) ∧
    (s.pp.st = .testing → ∀ (row : Instr) (r : LtResult),
      (row = .lineTestActivity ∧ s.pp.ltPhase = .listen ∧ r = .failed) ∨
      (row = .lineTestEchoWindowEnd ∧ s.pp.ltPhase = .echo ∧ r = .normal) ∨
      (∃ ns inv, row = .lineTestReflection ns inv ∧ s.pp.ltPhase = .echo ∧ ns * s.pp.lineVf * 3 / 4000 ≤ 511 ∧
        r = if inv then .short (ns * s.pp.lineVf * 3 / 4000) else .isOpen (ns * s.pp.lineVf * 3 / 4000)) →
      exec row s = .next (transmit (queueReport (.lineTestDone r) (queueReport (.pendantState .absent .testing .testEnd)
        { s with pp.st := .absent, pp.ltLast := some r, pp.ltPhase := .none, pp.ltT := .stopped, pp.power := true }))))

/-- The handwheel delta of two counters is the one number from −128 to 127 that leads from the old to the new counter
modulo 256. A frame's delta on the selected axis, where a jog is permitted, takes a free axis, offers its counts to the
interval's limit, moves the wheel target by the accepted counts times the multiplier, within the soft limits of a
REFERENCED axis, and raises HANDWHEEL_CLIPPED once an interval with the counts dropped. In the work of a path period the
setpoint follows the wheel target by at most hw_speed, and a button jog runs its profile; of a REFERENCED axis it brakes
once D + v reaches the distance to the limit ahead, ends exactly at that limit, and at or beyond it does not move. The
model's choices: a jog velocity above Table 8-1 (entry 49), the wheel target limited where no count is accepted (entry
52), velocity and remainder of a jog at or beyond its limit (entry 54). That a jog that has braked does not gain speed
again before the limit is DEDUCED (entry 21), as is the order of the period's work (entry 20). -/
def Obligations.WheelDeltaIsTheShorterWay : Prop :=
  (∀ old new : Nat, old < 256 → new < 256 →
    (-128 ≤ wheelDelta old new ∧ wheelDelta old new ≤ 127 ∧ ((old : Int) + wheelDelta old new) % 256 = new) ∧
    ∀ d : Int, -128 ≤ d → d ≤ 127 → ((old : Int) + d) % 256 = new → d = wheelDelta old new) ∧
  (∀ (s : State) (o f : StatusFrame) (l : List Byte) (a : Axis), Still s → NewFrame s o f l → f.sel = some a →
    o.sel = f.sel → o.mult = f.mult → f.jogP = false → f.jogM = false → f.hold = false → f.start = false →
    f.flood = false → f.enable = .middle → JogReady s → released s a = true →
    (s.ax.get a).owner = .none ∨ (s.ax.get a).owner = .pendant → (s.pp.jogs.get a).mode ≠ .button →
    (∀ i, i ≠ a → (s.ax.get i).owner ≠ .pendant) →
    let k := s.ax.get a
    let j := s.pp.jogs.get a
    let d := wheelDelta o.counter f.counter
    let acc := min d.natAbs (s.pp.intLimit - s.pp.intCount)
    let start := if j.mode = .wheel then j.wheel else k.setpoint
    let z := start + (if d < 0 then -1 else 1) * (acc : Int) * (match f.mult with
      | .m1 => 1
      | .m10 => 10
      | .m100 => 100)
    d ≠ 0 → ∃ t : State, exec (.pendantFrame l) s = .next t ∧ (t.ax.get a).owner = .pendant ∧
      (t.ax.get a).setpoint = k.setpoint ∧ (t.pp.jogs.get a).mode = .wheel ∧
      (t.pp.jogs.get a).wheel = (if k.refd then max k.p.softMin (min k.p.softMax z) else z) ∧
      t.pp.intCount = s.pp.intCount + acc ∧
      (acc < d.natAbs → s.pp.clipped = false → t.pp.clipped = true ∧ t.pp.clipT = ⟨true, 0, 200⟩ ∧
        (condEntry t .handwheelClipped).latched = true ∧
        (condEntry t .handwheelClipped).last = some ⟨s.hlp.ms, 0, (d.natAbs - acc : Nat)⟩) ∧
      (acc = d.natAbs ∨ s.pp.clipped = true → t.pp.clipped = s.pp.clipped ∧ t.pp.clipT = s.pp.clipT ∧
        condEntry t .handwheelClipped = condEntry s .handwheelClipped)) ∧
  ∀ (s : State) (a : Axis), (s.ax.get a).owner = .pendant → s.sq.st = .idle ∨ s.sq.st = .held → released s a = true →
    let k := s.ax.get a
    let j := s.pp.jogs.get a
    let u := periodWork s
    exec .pathPeriod s = .next (snapAll (finish u)) ∧ (u.cn.machine ≠ .tripped →
      (j.mode = .wheel → (u.ax.get a).setpoint = toward k.setpoint j.wheel (k.p.hwSpeed / 1000)) ∧
      (j.mode = .button → ∀ f, s.pp.last = some f →
        let n := u.ax.get a
        let i := u.pp.jogs.get a
        let goes := toward j.vel (wantedVelocity s k j f) (stepInForce s k j)
        (k.refd = false → Advanced k j goes n i) ∧
        (k.refd = true → j.vel = 0 → j.dir = .none → Advanced k j goes n i) ∧
        ∀ plus : Bool, k.refd = true →
          (if plus then 0 < j.vel ∨ (j.vel = 0 ∧ j.dir = .plus) else j.vel < 0 ∨ (j.vel = 0 ∧ j.dir = .minus)) →
          let limit := if plus then k.p.softMax else k.p.softMin
          let sign : Int := if plus then 1 else -1
          let far := aheadDistance k j plus
          let step := max 1 (k.p.jogAccel / 1000)
          let braking := far ≤ ((j.vel.natAbs * j.vel.natAbs / (2 * step) + j.vel.natAbs : Nat) : Int)
          let low : Int := max ((j.vel.natAbs : Int) - step) step
          let v := if braking ∧ j.fin = .none then sign * low else goes
          (0 ≤ sign * (k.setpoint - limit) →
            n.setpoint = k.setpoint ∧ i.rem = j.rem ∧ i.vel = toward j.vel 0 (stepInForce s k j)) ∧
          (sign * (k.setpoint - limit) < 0 → braking ∨ j.fin ≠ .none ∨ j.brk = false →
            (0 < sign * v → far ≤ sign * v → n.setpoint = limit ∧ i.vel = 0 ∧ i.rem = 0) ∧
            (sign * v ≤ 0 ∨ sign * v < far → Advanced k j v n i)) ∧
          (sign * (k.setpoint - limit) < 0 → j.fin = .none → j.brk = true →
            sign * i.vel ≤ low ∧ 0 ≤ sign * (limit - n.setpoint))))

/-! ## Inputs and analog channels -/

/-- A raw change restarts the input's timer and, with a filter time above 0, changes nothing else; a raw level that does
not change does nothing. An input whose timer stands at its filter time, unsettled or with its raw state other than its
filtered one, takes the raw state and is settled, and every other input stays. -/
def Obligations.InputsFilter : Prop :=
  ∀ (s : State) (n : Fin 32),
    (∀ level : Bool, Still s → s.inp[n].raw ≠ level → 0 < s.inp[n].ft →
      exec (.inputRawChange n level) s = .next (transmit
        { s with inp := s.inp.set n { s.inp[n] with raw := level, t := 0 } })) ∧
    (Still s → exec (.inputRawChange n s.inp[n].raw) s = .next (transmit s)) ∧
    (s.inp[n].ft ≤ s.inp[n].t → s.inp[n].settled = false ∨ s.inp[n].raw ≠ s.inp[n].filt →
      ∃ t : State, exec (.inputFilterTimeReached n) s = .next t ∧
        t.inp = s.inp.set n { s.inp[n] with filt := s.inp[n].raw, settled := true } ∧
        t.cs = s.cs ∧ t.am = s.am ∧ t.pending = s.pending ∧ t.hlp.slot = s.hlp.slot)

/-- A conversion is the next channel's, which stores its counts and scaled value, and the rotation goes on; its own
comparators take the sample and no other does. The scaled value is the floor of R189 clamped to 0 to the span, and
exactly the span at 4095 counts. A comparator changes at the last of `confirm` consecutive samples on the other side,
and no earlier. -/
def Obligations.ConversionsScaleAndCompare : Prop :=
  (∀ (s : State) (counts : Nat), counts ≤ 4095 → ∃ t : State, exec (.analogConversion counts) s = .next t ∧
    let ch := s.am.next
    let v := scaleCounts s.am.chans[ch] counts
    t.am.next = ch + 1 ∧ t.am.chans = s.am.chans.set ch { s.am.chans[ch] with counts := counts, scaled := v } ∧
    (∀ i : Fin 7, t.am.cmps[i] = if i ∈ channelCmps ch then cmpStep s.am.cmps[i] v else s.am.cmps[i]) ∧
    t.inp = s.inp ∧ t.cs = s.cs) ∧
  (∀ (k : AnalogCh) (counts : Nat), k.zero < 4095 → counts ≤ 4095 →
    scaleCounts k counts ≤ k.span ∧ scaleCounts k 4095 = k.span ∧ (counts ≤ k.zero → scaleCounts k counts = 0) ∧
    (k.zero ≤ counts → scaleCounts k counts = (counts - k.zero) * k.span / (4095 - k.zero))) ∧
  (∀ (c : Cmp) (l : List Nat), c.cnt = 0 → 1 ≤ c.conf → (∀ v ∈ l, decide (c.thr ≤ v) ≠ c.above) →
    (l.length < c.conf → (l.foldl cmpStep c).above = c.above) ∧
    (l.length = c.conf → (l.foldl cmpStep c).above = !c.above))

/-! ## Invariants -/

/-- Every step keeps the coolant interlock: TSC is RAMPING or ON only while the gear is ENGAGED, the spindle is ACCEL or
AT_SPEED and its measured speed is at least tsc_min_rpm, and the TSC valve duty is 0 in every other TSC state. A command
brings the first about whatever state it finds. -/
def Obligations.EveryStepKeepsTheTscInterlock : Prop :=
  (∀ s t : State, TscInv s → step s = .next t → TscInv t) ∧
    ∀ (c : Instr) (s t : State), exec c s = .next t → tscFlows t = true → permit t = true

/-- Every step keeps the bounds of the link and of the two queues: at most 4 requests in the FIFO and none of them with
the slot empty, at most 32 reports, at most 64 records. -/
def Obligations.EveryStepKeepsTheQueuesBounded : Prop :=
  ∀ s t : State, LinkInv s → QueuesInv s → step s = .next t → LinkInv t ∧ QueuesInv t

/-- Every step keeps flow_low below flow_high within their ranges, and every axis under policy NEVER RELEASED. -/
def Obligations.EveryStepKeepsFlowRangesAndNeverAxes : Prop :=
  (∀ s t : State, FlowInv s → step s = .next t → FlowInv t) ∧ ∀ s t : State, NeverInv s → step s = .next t → NeverInv t

/-- In TRIPPED every enable, DAC output, pump and valve is off and the TSC duty 0, and every step keeps it so: whatever
the command, a machine that is TRIPPED after it has its outputs off. Every step keeps three more invariants: HOMING owns
exactly the axes that are homing, and in TRIPPED no axis is homing or owned by HOMING or PENDANT; and the clamped sensor
of an axis meant to be free is off, unless its policy is NEVER. -/
def Obligations.EveryStepKeepsTrippedOutputsOff : Prop :=
  (∀ s : State, TrippedOff s → s.cn.machine = .tripped → OutputsOff s) ∧
    (∀ s t : State, NeverInv s → TrippedOff s → step s = .next t → TrippedOff t) ∧
    (∀ s t : State, HomingInv s → TrippedAxes s → step s = .next t → HomingInv t ∧ TrippedAxes t) ∧
    ∀ s t : State, ReleasedFree s → step s = .next t → ReleasedFree t
end

