-- ==== Sys2Proof/Laws/Aside.lean ====
section
/-! SUPPORT. What only the commands of their own block touch: the queue of commands, the banks, the inputs, the analog
channels and the host link. `aside` gathers it, and `aside_f` says that f keeps it. -/

namespace Sys2Proof.Machine

/-- The part of the state that the work of the other blocks keeps. -/
def aside (s : State) : List Instr × PerAxis Bank × Vector InputCh 32 × Analog × HostLink :=
  (s.pending, s.cs, s.inp, s.am, s.hlp)

@[simp] theorem aside_fold (s : State) (free sq pi ax cc hs sgu cu pp cn rq) :
    aside ⟨s.pending, free, sq, pi, ax, s.cs, cc, hs, sgu, cu, pp, s.inp, s.am, cn, rq, s.hlp⟩ = aside s := rfl

theorem aside_foldl {α : Type} (f : State → α → State) (h : ∀ s a, aside (f s a) = aside s) (l : List α) (s : State) :
    aside (l.foldl f s) = aside s := by
  induction l generalizing s with
  | nil => rfl
  | cons a l ih => rw [List.foldl_cons, ih, h]

@[simp] theorem aside_updAx (a : Axis) (f : AxisCh → AxisCh) (s : State) :
    aside (updAx a f s) = aside s := rfl

@[simp] theorem aside_mapAx (f : Axis → AxisCh → AxisCh) (s : State) :
    aside (mapAx f s) = aside s := rfl

@[simp] theorem aside_updClamp (c : ClampAxis) (f : Clamp → Clamp) (s : State) :
    aside (updClamp c f s) = aside s := rfl

@[simp] theorem aside_updJog (a : Axis) (f : Jog → Jog) (s : State) :
    aside (updJog a f s) = aside s := rfl

@[simp] theorem aside_updCond (c : Cond) (f : CondEntry → CondEntry) (s : State) :
    aside (updCond c f s) = aside s := rfl

@[simp] theorem aside_queueReport (k : Report) (s : State) :
    aside (queueReport k s) = aside s := by unfold queueReport; split <;> simp

@[simp] theorem aside_latch (c : Cond) (seq : Nat) (value : Int) (s : State) :
    aside (latch c seq value s) = aside s := by simp [latch]

@[simp] theorem aside_setRaw (c : Cond) (b : Bool) (s : State) :
    aside (setRaw c b s) = aside s := rfl

@[simp] theorem aside_fall (c : Cond) (s : State) :
    aside (fall c s) = aside s := by unfold fall; split <;> simp

@[simp] theorem aside_riseNote (c : Cond) (seq : Nat) (value : Int) (s : State) :
    aside (riseNote c seq value s) = aside s := by unfold riseNote; split <;> simp

@[simp] theorem aside_levelNote (c : Cond) (cause : Bool) (seq : Nat) (value : Int) (s : State) :
    aside (levelNote c cause seq value s) = aside s := by unfold levelNote; split <;> simp

@[simp] theorem aside_setQState (q : QState) (s : State) :
    aside (setQState q s) = aside s := by unfold setQState; (repeat' split) <;> simp

@[simp] theorem aside_sqHold (s : State) :
    aside (sqHold s) = aside s := by unfold sqHold; split <;> simp

@[simp] theorem aside_endJog (step : EndStep) (a : Axis) (s : State) :
    aside (endJog step a s) = aside s := rfl

@[simp] theorem aside_endAllJogs (step : EndStep) (s : State) :
    aside (endAllJogs step s) = aside s := rfl

@[simp] theorem aside_raiseHold (c : Cond) (seq : Nat) (value : Int) (s : State) :
    aside (raiseHold c seq value s) = aside s := by unfold raiseHold; split <;> simp

@[simp] theorem aside_riseHold (c : Cond) (seq : Nat) (value : Int) (s : State) :
    aside (riseHold c seq value s) = aside s := by unfold riseHold; split <;> simp

@[simp] theorem aside_hydJoin (who : Requester) (op : HydOp) (s : State) :
    aside (hydJoin who op s) = aside s := rfl

@[simp] theorem aside_hydWithdraw (who : Requester) (s : State) :
    aside (hydWithdraw who s) = aside s := rfl

@[simp] theorem aside_hydReturn (who : Requester) (s : State) :
    aside (hydReturn who s) = aside s := by unfold hydReturn; (repeat' split) <;> simp

@[simp] theorem aside_releaseNeed (c : ClampAxis) (s : State) :
    aside (releaseNeed c s) = aside s := by unfold releaseNeed; (repeat' split) <;> simp

@[simp] theorem aside_clampNeed (c : ClampAxis) (s : State) :
    aside (clampNeed c s) = aside s := by unfold clampNeed; (repeat' split) <;> simp

@[simp] theorem aside_startClampOp (c : ClampAxis) (s : State) :
    aside (startClampOp c s) = aside s := by unfold startClampOp; split <;> simp

@[simp] theorem aside_releaseDone (c : ClampAxis) (s : State) :
    aside (releaseDone c s) = aside s := by unfold releaseDone; split <;> simp

@[simp] theorem aside_clampDone (c : ClampAxis) (s : State) :
    aside (clampDone c s) = aside s := by unfold clampDone; split <;> simp

@[simp] theorem aside_pumpStop (s : State) :
    aside (pumpStop s) = aside s := by simp [pumpStop]

@[simp] theorem aside_clampsTrip (s : State) :
    aside (clampsTrip s) = aside s := rfl

@[simp] theorem aside_setSpindle (st : SpindleState) (s : State) :
    aside (setSpindle st s) = aside s := by unfold setSpindle; split <;> simp

@[simp] theorem aside_spindleOff (s : State) :
    aside (spindleOff s) = aside s := by simp [spindleOff]

@[simp] theorem aside_spindleStart (s : State) :
    aside (spindleStart s) = aside s := by simp [spindleStart]

@[simp] theorem aside_retarget (s : State) :
    aside (retarget s) = aside s := by unfold retarget; dsimp only; (repeat' split) <;> simp

@[simp] theorem aside_spindleStopSpeed (s : State) :
    aside (spindleStopSpeed s) = aside s := by simp [spindleStopSpeed]

@[simp] theorem aside_speedCommand (speed : Nat) (dir : Dir) (seq : Nat) (s : State) :
    aside (speedCommand speed dir seq s) = aside s := by unfold speedCommand; dsimp only; (repeat' split) <;> simp

@[simp] theorem aside_leaveEngaged (s : State) :
    aside (leaveEngaged s) = aside s := by unfold leaveEngaged; split <;> simp

@[simp] theorem aside_gearAfterAbandon (s : State) :
    aside (gearAfterAbandon s) = aside s := by unfold gearAfterAbandon; split <;> simp

@[simp] theorem aside_stopShiftTimers (s : State) :
    aside (stopShiftTimers s) = aside s := rfl

@[simp] theorem aside_shiftTeardown (s : State) :
    aside (shiftTeardown s) = aside s := by unfold shiftTeardown; dsimp only; split <;> simp

@[simp] theorem aside_abortReport (h : Shift) (s : State) :
    aside (abortReport h s) = aside s := by simp [abortReport]

@[simp] theorem aside_abandonShift (s : State) :
    aside (abandonShift s) = aside s := by unfold abandonShift; (repeat' split) <;> simp

@[simp] theorem aside_sguTrip (s : State) :
    aside (sguTrip s) = aside s := by unfold sguTrip; dsimp only; split <;> simp

@[simp] theorem aside_floodFault (cause : Int) (s : State) :
    aside (floodFault cause s) = aside s := by simp [floodFault]

@[simp] theorem aside_floodFresh (s : State) :
    aside (floodFresh s) = aside s := by unfold floodFresh; (repeat' split) <;> simp

@[simp] theorem aside_floodOff (s : State) :
    aside (floodOff s) = aside s := rfl

@[simp] theorem aside_tscFaultEntry (s : State) :
    aside (tscFaultEntry s) = aside s := rfl

@[simp] theorem aside_tscFault (cause : Int) (s : State) :
    aside (tscFault cause s) = aside s := by simp [tscFault]

@[simp] theorem aside_tscDryStart (s : State) :
    aside (tscDryStart s) = aside s := by unfold tscDryStart; split <;> simp

@[simp] theorem aside_tscDryEntry (s : State) :
    aside (tscDryEntry s) = aside s := by unfold tscDryEntry; split <;> simp

@[simp] theorem aside_tscRamp (s : State) :
    aside (tscRamp s) = aside s := by unfold tscRamp; split <;> simp

@[simp] theorem aside_tscWait (s : State) :
    aside (tscWait s) = aside s := rfl

@[simp] theorem aside_tscFromOff (s : State) :
    aside (tscFromOff s) = aside s := by unfold tscFromOff; (repeat' split) <;> simp

@[simp] theorem aside_tscFresh (s : State) :
    aside (tscFresh s) = aside s := by unfold tscFresh; (repeat' split) <;> simp

@[simp] theorem aside_tscPurge (s : State) :
    aside (tscPurge s) = aside s := rfl

@[simp] theorem aside_tscOff (s : State) :
    aside (tscOff s) = aside s := by unfold tscOff; (repeat' split) <;> simp

@[simp] theorem aside_tscSuspend (s : State) :
    aside (tscSuspend s) = aside s := rfl

@[simp] theorem aside_tscResume (s : State) :
    aside (tscResume s) = aside s := by unfold tscResume; (repeat' split) <;> simp

@[simp] theorem aside_setPressure (p : Nat) (s : State) :
    aside (setPressure p s) = aside s := by unfold setPressure; (repeat' split) <;> simp

@[simp] theorem aside_tscSample (P : Nat) (s : State) :
    aside (tscSample P s) = aside s := by unfold tscSample; (repeat' split) <;> simp

@[simp] theorem aside_purgeDone (s : State) :
    aside (purgeDone s) = aside s := by unfold purgeDone; (repeat' split) <;> simp

@[simp] theorem aside_writeFlood (d : Dem) (s : State) :
    aside (writeFlood d s) = aside s := by unfold writeFlood; split <;> simp

@[simp] theorem aside_writeTsc (d : Dem) (s : State) :
    aside (writeTsc d s) = aside s := by unfold writeTsc; split <;> simp

@[simp] theorem aside_writeMist (d : Dem) (s : State) :
    aside (writeMist d s) = aside s := by unfold writeMist; split <;> simp

@[simp] theorem aside_coolantWrite (flood tsc mist : Dem) (pressure : Option Nat) (s : State) :
    aside (coolantWrite flood tsc mist pressure s) = aside s := by unfold coolantWrite; split <;> simp

@[simp] theorem aside_coolantAllOff (s : State) :
    aside (coolantAllOff s) = aside s := by simp [coolantAllOff]

@[simp] theorem aside_coolantTrip (s : State) :
    aside (coolantTrip s) = aside s := rfl

@[simp] theorem aside_levelFell (s : State) :
    aside (levelFell s) = aside s := by unfold levelFell; dsimp only; (repeat' split) <;> simp

@[simp] theorem aside_levelRose (s : State) :
    aside (levelRose s) = aside s := rfl

@[simp] theorem aside_levelChanged (s : State) :
    aside (levelChanged s) = aside s := by
  unfold levelChanged
  rw [show ∀ b (x y : State), aside (if b = true then x else y) = if b = true then aside x else aside y from
    fun b x y => apply_ite aside _ x y]
  simp

@[simp] theorem aside_filterWarnChanged (s : State) :
    aside (filterWarnChanged s) = aside s := by simp [filterWarnChanged]

@[simp] theorem aside_filterBlockChanged (s : State) :
    aside (filterBlockChanged s) = aside s := by unfold filterBlockChanged; (repeat' split) <;> simp

@[simp] theorem aside_floodMinChanged (s : State) :
    aside (floodMinChanged s) = aside s := by unfold floodMinChanged; split <;> simp

@[simp] theorem aside_floodOverloadChanged (active : Bool) (s : State) :
    aside (floodOverloadChanged active s) = aside s := by unfold floodOverloadChanged; split <;> simp

@[simp] theorem aside_tscOverloadChanged (active : Bool) (s : State) :
    aside (tscOverloadChanged active s) = aside s := by unfold tscOverloadChanged; split <;> simp

@[simp] theorem aside_flowEval (s : State) :
    aside (flowEval s) = aside s := by unfold flowEval; (repeat' split) <;> simp

@[simp] theorem aside_drainTest (s : State) :
    aside (drainTest s) = aside s := by unfold drainTest; split <;> simp

@[simp] theorem aside_dropQueueOwners (s : State) :
    aside (dropQueueOwners s) = aside s := rfl

@[simp] theorem aside_clearRecords (s : State) :
    aside (clearRecords s) = aside s := rfl

@[simp] theorem aside_piDrop (s : State) :
    aside (piDrop s) = aside s := rfl

@[simp] theorem aside_flushIdle (s : State) :
    aside (flushIdle s) = aside s := by simp [flushIdle]

@[simp] theorem aside_sqStop (s : State) :
    aside (sqStop s) = aside s := by unfold sqStop; dsimp only; (repeat' split) <;> simp

@[simp] theorem aside_sqTrip (s : State) :
    aside (sqTrip s) = aside s := by unfold sqTrip; split <;> simp

@[simp] theorem aside_homeFail (a : Axis) (r : HomeReason) (s : State) :
    aside (homeFail a r s) = aside s := rfl

@[simp] theorem aside_homeAbort (s : State) (a : Axis) :
    aside (homeAbort s a) = aside s := by unfold homeAbort; split <;> simp

@[simp] theorem aside_homeClose (a : Axis) (s : State) :
    aside (homeClose a s) = aside s := rfl

@[simp] theorem aside_homeReport (s : State) (a : Axis) :
    aside (homeReport s a) = aside s := by unfold homeReport; split <;> simp

@[simp] theorem aside_homeEnd (a : Axis) (s : State) :
    aside (homeEnd a s) = aside s := by simp [homeEnd]

@[simp] theorem aside_homeOk (a : Axis) (s : State) :
    aside (homeOk a s) = aside s := by simp [homeOk]

@[simp] theorem aside_homeTrip (s : State) (a : Axis) :
    aside (homeTrip s a) = aside s := by unfold homeTrip; split <;> simp

@[simp] theorem aside_stopDeliveries (s : State) :
    aside (stopDeliveries s) = aside s := by simp [stopDeliveries, aside_foldl]

@[simp] theorem aside_reactStop (s : State) :
    aside (reactStop s) = aside s := by unfold reactStop; split <;> simp

@[simp] theorem aside_raiseStop (c : Cond) (seq : Nat) (value : Int) (s : State) :
    aside (raiseStop c seq value s) = aside s := by simp [raiseStop]

@[simp] theorem aside_riseStop (c : Cond) (seq : Nat) (value : Int) (s : State) :
    aside (riseStop c seq value s) = aside s := by unfold riseStop; split <;> simp

@[simp] theorem aside_axesTrip (s : State) :
    aside (axesTrip s) = aside s := by simp [axesTrip, aside_foldl]

@[simp] theorem aside_jogsDrop (s : State) :
    aside (jogsDrop s) = aside s := rfl

@[simp] theorem aside_tripDeliveries (s : State) :
    aside (tripDeliveries s) = aside s := by simp [tripDeliveries, aside_foldl]

@[simp] theorem aside_raiseTrip (c : Cond) (seq : Nat) (value : Int) (s : State) :
    aside (raiseTrip c seq value s) = aside s := by unfold raiseTrip; split <;> simp [aside_foldl]

@[simp] theorem aside_riseTrip (c : Cond) (seq : Nat) (value : Int) (s : State) :
    aside (riseTrip c seq value s) = aside s := by unfold riseTrip; split <;> simp

@[simp] theorem aside_raise (c : Cond) (seq : Nat) (value : Int) (s : State) :
    aside (raise c seq value s) = aside s := by unfold raise; split <;> simp

@[simp] theorem aside_moveNeed (c : ClampAxis) (seq : Nat) (s : State) :
    aside (moveNeed c seq s) = aside s := by unfold moveNeed; split <;> simp

@[simp] theorem aside_axisNeed (a : Axis) (seq : Nat) (s : State) :
    aside (axisNeed a seq s) = aside s := by unfold axisNeed; split <;> simp

@[simp] theorem aside_clampTimedOut (c : ClampAxis) (value : Int) (s : State) :
    aside (clampTimedOut c value s) = aside s := by simp [clampTimedOut]

@[simp] theorem aside_clampLost (c : ClampAxis) (s : State) :
    aside (clampLost c s) = aside s := by unfold clampLost; dsimp only; (repeat' split) <;> simp

@[simp] theorem aside_supplyLow (cause : Int) (s : State) :
    aside (supplyLow cause s) = aside s := by simp [supplyLow]

@[simp] theorem aside_clampCheck (c : ClampAxis) (s : State) :
    aside (clampCheck c s) = aside s := by unfold clampCheck; split <;> simp

@[simp] theorem aside_updShift (f : Shift → Shift) (s : State) :
    aside (updShift f s) = aside s := rfl

@[simp] theorem aside_enterPositioning (s : State) :
    aside (enterPositioning s) = aside s := by unfold enterPositioning; split <;> simp

@[simp] theorem aside_positionTo (t : Int) (s : State) :
    aside (positionTo t s) = aside s := by simp [positionTo]

@[simp] theorem aside_positionHold (s : State) :
    aside (positionHold s) = aside s := rfl

@[simp] theorem aside_strokeWait (s : State) :
    aside (strokeWait s) = aside s := rfl

@[simp] theorem aside_beginStroke (c : Cyl) (s : State) :
    aside (beginStroke c s) = aside s := by unfold beginStroke; dsimp only; (repeat' split) <;> simp

@[simp] theorem aside_enterSettling (s : State) :
    aside (enterSettling s) = aside s := rfl

@[simp] theorem aside_chooseStroke (s : State) :
    aside (chooseStroke s) = aside s := by unfold chooseStroke; (repeat' split) <;> simp

@[simp] theorem aside_nextAttempt (s : State) :
    aside (nextAttempt s) = aside s := by unfold nextAttempt; split <;> simp

@[simp] theorem aside_enterMeshing (s : State) :
    aside (enterMeshing s) = aside s := by unfold enterMeshing; (repeat' split) <;> simp

@[simp] theorem aside_strokeGranted (s : State) :
    aside (strokeGranted s) = aside s := by unfold strokeGranted; (repeat' split) <;> simp

@[simp] theorem aside_applyMiss (s : State) :
    aside (applyMiss s) = aside s := by unfold applyMiss; (repeat' split) <;> simp

@[simp] theorem aside_applyLearn (s : State) :
    aside (applyLearn s) = aside s := by unfold applyLearn; (repeat' split) <;> simp

@[simp] theorem aside_strokeSuccess (s : State) :
    aside (strokeSuccess s) = aside s := by unfold strokeSuccess; (repeat' split) <;> simp

@[simp] theorem aside_shiftFailSteps (s : State) :
    aside (shiftFailSteps s) = aside s := by unfold shiftFailSteps; dsimp only; split <;> simp

@[simp] theorem aside_shiftFail (r : ShiftReason) (s : State) :
    aside (shiftFail r s) = aside s := by unfold shiftFail; split <;> simp

@[simp] theorem aside_shiftSuccess (s : State) :
    aside (shiftSuccess s) = aside s := by unfold shiftSuccess; dsimp only; (repeat' split) <;> simp

@[simp] theorem aside_lateDisengage (c : Cyl) (s : State) :
    aside (lateDisengage c s) = aside s := by unfold lateDisengage; (repeat' split) <;> simp

theorem aside_settleTest (s : State) {t : State}
    (h : settleTest s = some t) : aside t = aside s := by
  revert h; unfold settleTest; (repeat' split) <;> intro h <;> simp at h <;> subst h <;> simp

@[simp] theorem aside_startShift (r : Range) (origin : Nat) (s : State) :
    aside (startShift r origin s) = aside s := by unfold startShift; dsimp only; split <;> simp

@[simp] theorem aside_fprDriveLost (old s : State) :
    aside (fprDriveLost old s) = aside s := by unfold fprDriveLost; split <;> simp

@[simp] theorem aside_driveLost (s : State) :
    aside (driveLost s) = aside s := by unfold driveLost; (repeat' split) <;> simp

@[simp] theorem aside_spindleReadyChanged (s : State) :
    aside (spindleReadyChanged s) = aside s := by unfold spindleReadyChanged; split <;> simp

@[simp] theorem aside_gearFirstRead (s : State) :
    aside (gearFirstRead s) = aside s := by unfold gearFirstRead; (repeat' split) <;> simp

@[simp] theorem aside_completeHead (s : State) :
    aside (completeHead s) = aside s := by unfold completeHead; split <;> simp

@[simp] theorem aside_completeEndMark (s : State) :
    aside (completeEndMark s) = aside s := by unfold completeEndMark; split <;> simp

@[simp] theorem aside_startMove (m : MoveRec) (s : State) :
    aside (startMove m s) = aside s := rfl

@[simp] theorem aside_moveStep4 (q : Nat) (m : MoveRec) (s : State) :
    aside (moveStep4 q m s) = aside s := by unfold moveStep4; split <;> simp

@[simp] theorem aside_moveNeeds (q : Nat) (m : MoveRec) (s : State) :
    aside (moveNeeds q m s) = aside s := by unfold moveNeeds; simp [apply_ite aside, aside_foldl]

@[simp] theorem aside_moveChecks (q : Nat) (m : MoveRec) (s : State) :
    aside (moveChecks q m s) = aside s := by unfold moveChecks; dsimp only; (repeat' split) <;> simp

@[simp] theorem aside_spindleRecord (r : QRec) (speed : Nat) (dir : Dir) (wait : Bool) (s : State) :
    aside (spindleRecord r speed dir wait s) = aside s := by unfold spindleRecord; dsimp only; (repeat' split) <;> simp

@[simp] theorem aside_gearHand (q : Nat) (r : Range) (s : State) :
    aside (gearHand q r s) = aside s := by unfold gearHand; split <;> simp

@[simp] theorem aside_clampAction (c : ClampAxis) (clamp : Bool) (s : State) :
    aside (clampAction c clamp s) = aside s := by unfold clampAction; split <;> simp

@[simp] theorem aside_dispatchHead (s : State) :
    aside (dispatchHead s) = aside s := by
  unfold dispatchHead
  split
  · rfl
  · dsimp only
    split <;> (try split) <;> simp

theorem aside_recordStep (s : State) {t : State}
    (h : recordStep s = some t) : aside t = aside s := by
  revert h; unfold recordStep; (repeat' split) <;> intro h <;> simp at h <;> subst h <;> simp

@[simp] theorem aside_becomeHeld (s : State) :
    aside (becomeHeld s) = aside s := by simp [becomeHeld]

@[simp] theorem aside_resumeRun (s : State) :
    aside (resumeRun s) = aside s := by unfold resumeRun; dsimp only; split <;> simp

@[simp] theorem aside_takeResume (s : State) :
    aside (takeResume s) = aside s := by unfold takeResume; split <;> simp

@[simp] theorem aside_takeStart (s : State) :
    aside (takeStart s) = aside s := by simp [takeStart]

@[simp] theorem aside_resumeRequest (s : State) :
    aside (resumeRequest s).2 = aside s := by unfold resumeRequest; (repeat' split) <;> simp

@[simp] theorem aside_startRequest (s : State) :
    aside (startRequest s).2 = aside s := by unfold startRequest; (repeat' split) <;> simp

@[simp] theorem aside_pendantStart (s : State) :
    aside (pendantStart s) = aside s := by simp [pendantStart]

@[simp] theorem aside_giveSetpoint (a : Axis) (z : Int) (s : State) :
    aside (giveSetpoint a z s) = aside s := by unfold giveSetpoint; split <;> simp

@[simp] theorem aside_giveMove (n p : Nat) (legs : List Leg) (s : State) :
    aside (giveMove n p legs s) = aside s := by simp [giveMove, aside_foldl]

@[simp] theorem aside_refuseCarry (s : State) :
    aside (refuseCarry s) = aside s := rfl

theorem aside_dispatchPassed (n : Nat) (s : State) : aside (dispatchPassed n s) = aside s := by
  induction n generalizing s with
  | zero => rfl
  | succ n ih =>
    unfold dispatchPassed
    (repeat' split) <;> simp [ih]
theorem aside_advanceMove (fuel : Nat) (m : ActiveMove) (p r : Nat) (s : State) :
    aside (advanceMove fuel m p r s) = aside s := by
  induction fuel generalizing m p s with
  | zero => rfl
  | succ n ih =>
    unfold advanceMove
    dsimp only
    (repeat' split) <;> simp [ih, aside_dispatchPassed]

@[simp] theorem aside_advanceReturn (m : ActiveMove) (p r : Nat) (s : State) :
    aside (advanceReturn m p r s) = aside s := by unfold advanceReturn; (repeat' split) <;> simp

@[simp] theorem aside_starvedTest (braking real : Bool) (r target : Nat) (s : State) :
    aside (starvedTest braking real r target s) = aside s := by unfold starvedTest; (repeat' split) <;> simp

@[simp] theorem aside_moveWork (m : ActiveMove) (isReturn : Bool) (rem : Nat) (real : Bool) (s : State) :
    aside (moveWork m isReturn rem real s) = aside s := by
  unfold moveWork
  simp only [apply_ite aside, aside_advanceReturn, aside_advanceMove, aside_starvedTest, aside_fold, ite_self]

@[simp] theorem aside_dwellCount (s : State) :
    aside (dwellCount s) = aside s := by unfold dwellCount; (repeat' split) <;> simp

@[simp] theorem aside_pathWork (s : State) :
    aside (pathWork s) = aside s := by unfold pathWork; (repeat' split) <;> simp

@[simp] theorem aside_searchSwitch (a : Axis) (s : State) :
    aside (searchSwitch a s) = aside s := by unfold searchSwitch; split <;> simp

@[simp] theorem aside_latchSwitch (a : Axis) (s : State) :
    aside (latchSwitch a s) = aside s := by unfold latchSwitch; dsimp only; (repeat' split) <;> simp

@[simp] theorem aside_homeSwitchChanged (a : Axis) (s : State) :
    aside (homeSwitchChanged a s) = aside s := by simp [homeSwitchChanged]

@[simp] theorem aside_beginLatch (a : Axis) (s : State) :
    aside (beginLatch a s) = aside s := by simp [beginLatch]

@[simp] theorem aside_homeChecks (a : Axis) (s : State) :
    aside (homeChecks a s) = aside s := by unfold homeChecks; dsimp only; (repeat' split) <;> simp

@[simp] theorem aside_homeMoved (a : Axis) (s : State) :
    aside (homeMoved a s) = aside s := by unfold homeMoved; dsimp only; (repeat' split) <;> simp

@[simp] theorem aside_homeWork (a : Axis) (s : State) :
    aside (homeWork a s) = aside s := by unfold homeWork; split <;> simp

@[simp] theorem aside_jogWork (a : Axis) (s : State) :
    aside (jogWork a s) = aside s := by unfold jogWork; dsimp only; (repeat' split) <;> simp

@[simp] theorem aside_ownerWork (s : State) (a : Axis) :
    aside (ownerWork s a) = aside s := by unfold ownerWork; (repeat' split) <;> simp

@[simp] theorem aside_saturation (d : Drive) (seq : Nat) (z : Int) (s : State) :
    aside (saturation d seq z s) = aside s := by unfold saturation; split <;> simp

@[simp] theorem aside_axisLoop (s : State) (a : Axis) :
    aside (axisLoop s a) = aside s := by unfold axisLoop; dsimp only; (repeat' split) <;> simp

@[simp] theorem aside_hardLimitTest (s : State) (a : Axis) :
    aside (hardLimitTest s a) = aside s := by unfold hardLimitTest; split <;> simp

@[simp] theorem aside_settleHoming (s : State) (a : Axis) :
    aside (settleHoming s a) = aside s := by unfold settleHoming; dsimp only; split <;> simp

@[simp] theorem aside_prevWork (s : State) :
    aside (prevWork s) = aside s := rfl

@[simp] theorem aside_spindleMeasure (s : State) :
    aside (spindleMeasure s) = aside s := by unfold spindleMeasure; dsimp only; split <;> simp

@[simp] theorem aside_spindleRamp (s : State) :
    aside (spindleRamp s) = aside s := by unfold spindleRamp; split <;> simp

@[simp] theorem aside_atSpeedTest (s : State) :
    aside (atSpeedTest s) = aside s := by unfold atSpeedTest; split <;> simp

@[simp] theorem aside_positionStep (s : State) :
    aside (positionStep s) = aside s := by unfold positionStep; dsimp only; (repeat' split) <;> simp

@[simp] theorem aside_positionDone (s : State) :
    aside (positionDone s) = aside s := by unfold positionDone; (repeat' split) <;> simp

@[simp] theorem aside_spindleOutput (z : Int) (s : State) :
    aside (spindleOutput z s) = aside s := by unfold spindleOutput; dsimp only; split <;> simp

@[simp] theorem aside_positionLoop (s : State) :
    aside (positionLoop s) = aside s := by unfold positionLoop; dsimp only; split <;> simp

@[simp] theorem aside_spindleWork (s : State) :
    aside (spindleWork s) = aside s := by unfold spindleWork; dsimp only; (repeat' split) <;> simp

@[simp] theorem aside_snapAll (s : State) :
    aside (snapAll s) = aside s := rfl

theorem aside_grantRule (s : State) {t : State}
    (h : grantRule s = some t) : aside t = aside s := by
  revert h; unfold grantRule; (repeat' split) <;> intro h <;> simp at h <;> subst h <;> simp

theorem aside_clampRule (s : State) (c : ClampAxis) {t : State}
    (h : clampRule s c = some t) : aside t = aside s := by
  revert h; unfold clampRule; dsimp only; (repeat' split) <;> intro h <;> simp at h <;> subst h <;> simp

theorem aside_pumpRule (s : State) {t : State}
    (h : pumpRule s = some t) : aside t = aside s := by
  revert h; unfold pumpRule; (repeat' split) <;> intro h <;> simp at h <;> subst h <;> simp

theorem aside_supplyRule (s : State) {t : State}
    (h : supplyRule s = some t) : aside t = aside s := by
  revert h; unfold supplyRule; (repeat' split) <;> intro h <;> simp at h <;> subst h <;> simp

theorem aside_spindleRule (s : State) {t : State}
    (h : spindleRule s = some t) : aside t = aside s := by
  revert h; unfold spindleRule; (repeat' split) <;> intro h <;> simp at h <;> subst h <;> simp

theorem aside_engagedRule (s : State) {t : State}
    (h : engagedRule s = some t) : aside t = aside s := by
  revert h; unfold engagedRule; (repeat' split) <;> intro h <;> simp at h <;> subst h <;> simp

theorem aside_levelRule (c : Cond) (cause : Bool) (value : Int) (s : State) {t : State}
    (h : levelRule c cause value s = some t) : aside t = aside s := by
  revert h; unfold levelRule; (repeat' split) <;> intro h <;> simp at h <;> subst h <;> simp

theorem aside_overloadRule (s : State) {t : State}
    (h : overloadRule s = some t) : aside t = aside s := by
  revert h; unfold overloadRule; (repeat' split) <;> intro h <;> simp at h <;> subst h <;> simp

theorem aside_shiftRule (s : State) {t : State}
    (h : shiftRule s = some t) : aside t = aside s := by
  revert h; unfold shiftRule; (repeat' split) <;> intro h <;>
    first | exact aside_settleTest s h | (injection h with h; subst h; simp; done) | cases h

theorem aside_floodRule (s : State) {t : State}
    (h : floodRule s = some t) : aside t = aside s := by
  revert h; unfold floodRule; (repeat' split) <;> intro h <;> simp at h <;> subst h <;> simp

theorem aside_tscRule (s : State) {t : State}
    (h : tscRule s = some t) : aside t = aside s := by
  revert h; unfold tscRule; (repeat' split) <;> intro h <;> simp at h <;> subst h <;> simp

theorem aside_homeRule (s : State) (a : Axis) {t : State}
    (h : homeRule s a = some t) : aside t = aside s := by
  revert h; unfold homeRule; dsimp only; (repeat' split) <;> intro h <;> simp at h <;> subst h <;> simp

theorem aside_giveBackRule (s : State) (a : Axis) {t : State}
    (h : giveBackRule s a = some t) : aside t = aside s := by
  revert h; unfold giveBackRule; dsimp only; (repeat' split) <;> intro h <;> simp at h <;> subst h <;> simp

theorem aside_queueRule (s : State) {t : State}
    (h : queueRule s = some t) : aside t = aside s := by
  revert h; unfold queueRule; split
  · rename_i s1 h1; intro h; injection h with h; subst h; exact aside_recordStep s h1
  · (repeat' split) <;> intro h <;> first | (injection h with h; subst h; simp; done) | cases h

theorem aside_machineRule (s : State) {t : State}
    (h : machineRule s = some t) : aside t = aside s := by
  revert h; unfold machineRule; (repeat' split) <;> intro h <;> simp at h <;> subst h <;> simp

@[simp] theorem aside_tscGuard (s : State) :
    aside (tscGuard s) = aside s := by unfold tscGuard; split <;> simp

@[simp] theorem aside_pendantSend (s : State) :
    aside (pendantSend s) = aside s := by unfold pendantSend; (repeat' split) <;> simp

@[simp] theorem aside_setPend (st : PendState) (cause : PendCause) (s : State) :
    aside (setPend st cause s) = aside s := by simp [setPend]

@[simp] theorem aside_enterPresent (s : State) :
    aside (enterPresent s) = aside s := by simp [enterPresent]

@[simp] theorem aside_mismatchStep (s : State) :
    aside (mismatchStep s) = aside s := by unfold mismatchStep; (repeat' split) <;> simp

@[simp] theorem aside_armStep (s : State) :
    aside (armStep s) = aside s := by unfold armStep; (repeat' split) <;> simp

@[simp] theorem aside_enableStep (f : StatusFrame) (s : State) :
    aside (enableStep f s) = aside s := by unfold enableStep; (repeat' split) <;> simp

@[simp] theorem aside_contactChanged (s : State) :
    aside (contactChanged s) = aside s := by unfold contactChanged; split <;> simp

@[simp] theorem aside_startInterval (s : State) :
    aside (startInterval s) = aside s := rfl

@[simp] theorem aside_selectorStep (prev : Option StatusFrame) (f : StatusFrame) (s : State) :
    aside (selectorStep prev f s) = aside s := by
  unfold selectorStep
  split
  · rfl
  · dsimp only
    have h : ∀ u : State, aside (allAxes.foldl (fun s a => if f.sel = some a then s else endJog .jog a s) u) = aside u :=
      fun u => aside_foldl _ (fun s a => by split <;> simp) _ _
    (repeat' split) <;> simp [h]

@[simp] theorem aside_displace (a : Axis) (s : State) :
    aside (displace a s) = aside s := rfl

@[simp] theorem aside_takeAxis (a : Axis) (s : State) :
    aside (takeAxis a s) = aside s := by unfold takeAxis; split <;> simp

@[simp] theorem aside_refuse (s : State) :
    aside (refuse s) = aside s := rfl

@[simp] theorem aside_jogNeed (a : Axis) (s : State) :
    aside (jogNeed a s) = aside s := by unfold jogNeed; split <;> simp

@[simp] theorem aside_startJog (a : Axis) (d : JogDir) (s : State) :
    aside (startJog a d s) = aside s := rfl

@[simp] theorem aside_jogPress (a : Axis) (d : JogDir) (s : State) :
    aside (jogPress a d s) = aside s := by unfold jogPress; split <;> simp

@[simp] theorem aside_jogReleases (f : StatusFrame) (s : State) :
    aside (jogReleases f s) = aside s := by
  unfold jogReleases
  refine aside_foldl _ (fun s a => ?_) _ _
  split <;> simp

theorem or_some {α : Type} {a b : Option α} {t : α} (h : (a <|> b) = some t) : a = some t ∨ b = some t := by
  cases a with
  | none => exact Or.inr h
  | some v => exact Or.inl h

/-- A closing rule keeps the aside part. -/
theorem aside_rules (s : State) {t : State} (h : rules s = some t) : aside t = aside s := by
  unfold rules at h
  repeat' (first | (rcases or_some h with h | h; clear * - h))
  all_goals first
    | exact aside_levelRule _ _ _ _ h
    | exact aside_engagedRule _ h
    | exact aside_overloadRule _ h
    | exact aside_grantRule _ h
    | exact aside_clampRule _ _ h
    | exact aside_spindleRule _ h
    | exact aside_shiftRule _ h
    | exact aside_floodRule _ h
    | exact aside_tscRule _ h
    | exact aside_homeRule _ _ h
    | exact aside_giveBackRule _ _ h
    | exact aside_queueRule _ h
    | exact aside_pumpRule _ h
    | exact aside_supplyRule _ h
    | exact aside_machineRule _ h

@[simp] theorem aside_settle (n : Nat) (s : State) : aside (settle n s) = aside s := by
  induction n generalizing s with
  | zero => rfl
  | succ n ih =>
    unfold settle
    split
    · rename_i t h
      rw [ih, aside_rules s h]
    · rfl

@[simp] theorem aside_floodPress (s : State) :
    aside (floodPress s) = aside s := by unfold floodPress; split <;> simp

@[simp] theorem aside_holdPress (s : State) :
    aside (holdPress s) = aside s := by simp [holdPress]

/-- A delivered press keeps the aside part where the press itself does. -/
theorem aside_deliverPress (press : Bool) (act : State → State) (h : ∀ s, aside (act s) = aside s) (s : State) :
    aside (deliverPress press act s) = aside s := by unfold deliverPress; split <;> simp [h]

@[simp] theorem aside_pressStep (prev : Option StatusFrame) (f : StatusFrame) (s : State) :
    aside (pressStep prev f s) = aside s := by
  have h : ∀ u, aside (deliverPress (pressed prev f (·.flood)) floodPress
      (deliverPress (pressed prev f (·.start) && u.pp.armed) pendantStart u)) = aside u := fun u => by
    rw [aside_deliverPress _ _ aside_floodPress, aside_deliverPress _ _ aside_pendantStart]
  unfold pressStep
  dsimp only
  (repeat' split) <;> simp [h, aside_deliverPress _ _ aside_holdPress]

@[simp] theorem aside_moveWheel (a : Axis) (z : Int) (s : State) :
    aside (moveWheel a z s) = aside s := rfl

@[simp] theorem aside_offerCounts (a : Axis) (m : Mult) (d : Int) (s : State) :
    aside (offerCounts a m d s) = aside s := by unfold offerCounts; dsimp only; split <;> simp

@[simp] theorem aside_wheelMode (a : Axis) (s : State) :
    aside (wheelMode a s) = aside s := rfl

@[simp] theorem aside_wheelMove (a : Axis) (m : Mult) (d : Int) (s : State) :
    aside (wheelMove a m d s) = aside s := by
  unfold wheelMove
  split
  · rfl
  · dsimp only
    cases takeOutcome s a <;> dsimp only <;> (try split) <;> simp

@[simp] theorem aside_wheelStep (prev : Option StatusFrame) (f : StatusFrame) (s : State) :
    aside (wheelStep prev f s) = aside s := by unfold wheelStep; dsimp only; (repeat' split) <;> simp

@[simp] theorem aside_knobStep (f : StatusFrame) (s : State) :
    aside (knobStep f s) = aside s := by unfold knobStep; split <;> simp

@[simp] theorem aside_takeWhole (prev : Option StatusFrame) (f : StatusFrame) (s : State) :
    aside (takeWhole prev f s) = aside s := by simp [takeWhole]

@[simp] theorem aside_takeFrame (f : StatusFrame) (s : State) :
    aside (takeFrame f s) = aside s := by unfold takeFrame; dsimp only; (repeat' split) <;> simp

@[simp] theorem aside_pendantLost (s : State) :
    aside (pendantLost s) = aside s := by unfold pendantLost; dsimp only; (repeat' split) <;> simp

@[simp] theorem aside_mismatchRaise (s : State) :
    aside (mismatchRaise s) = aside s := by unfold mismatchRaise; split <;> simp

@[simp] theorem aside_startLineTest (s : State) :
    aside (startLineTest s) = aside s := by simp [startLineTest]

@[simp] theorem aside_endLineTest (r : LtResult) (s : State) :
    aside (endLineTest r s) = aside s := by simp [endLineTest]

@[simp] theorem aside_quiesce (s : State) : aside (quiesce s) = aside s := by simp [quiesce]

/-- The end of a command keeps the aside part but for the frame that HLP sends. -/
theorem aside_finish (s : State) :
    aside (finish s) = (s.pending, s.cs, s.inp, s.am, { s.hlp with tx := (finish s).hlp.tx }) := by
  have hp : aside (pendantSend (quiesce s)) = aside s := by simp
  have ht : ∀ u : State, aside (transmit u) =
      (u.pending, u.cs, u.inp, u.am, { u.hlp with tx := (transmit u).hlp.tx }) := by
    intro u; unfold transmit; (repeat' split) <;> rfl
  simp only [aside, Prod.mk.injEq] at hp
  obtain ⟨h1, h2, h3, h4, h5⟩ := hp
  unfold finish
  rw [ht, h1, h2, h3, h4, h5]

end Sys2Proof.Machine
end

