-- ==== Sys2Proof/Laws/Steady.lean ====
section
/-! SUPPORT. What no closing rule touches: the settings of the blocks, the banks, the inputs, the analog channels, the
host link, the queue of commands, the pendant but its jogs, and of each axis its positions and loop. `steady` gathers
it; `steady_f` says that f keeps it, and `steady_finish` what the end of a command leaves. -/

namespace Sys2Proof.Machine

/-- The part of the state that the closing rules keep. -/
structure Steady where
  pending : List Instr
  sq : Nat × Nat
  pi : Nat × Nat × Nat × FeedSource × Nat × Nat × Nat × Nat
  ax : PerAxis (Int × Int × Int × Option Int × LatchStep × Int × Bool × Bool × Int × Nat × AxisParams × AxisSnap)
  cs : PerAxis Bank
  cc : PerClamp (Bool × Policy × Nat × Nat × Nat)
  hs : Nat × Nat
  sgu : SguParams × Int × List Int × Option Int × Nat × Dir × Bool
  cu : CuParams
  pp : (PendState × Option StatusFrame × Bool × Bool × Timer × Timer × Timer × Nat × Option Axis × Mult × Nat ×
    Bool) ×
    (Vector DispLine 4 × Timer × Timer × Bool × Option (List Byte) × RxState × LtPhase × Timer × Option LtResult ×
    Bool × Nat)
  inp : Vector InputCh 32
  am : Analog
  hlp : HostLink
/-- The kept fields of SQ. -/
def keptSq (q : SegQueue) := (q.flowHigh, q.flowLow)
/-- The kept fields of PI. -/
def keptPi (q : PathInt) := (q.feed, q.rapid, q.spindleOvr, q.source, q.pathRamp, q.holdRamp, q.stopRamp,
    q.returnSpeed)
/-- The kept fields of one axis channel. -/
def keptCh (k : AxisCh) := (k.setpoint, k.prev, k.enc, k.latch, k.hStep, k.e, k.inPos, k.atRest, k.out, k.satCount,
    k.p, k.snap)
/-- The kept fields of the axis channels. -/
def keptAx (v : PerAxis AxisCh) := v.map fun _ k => keptCh k
/-- The kept fields of one clamp. -/
def keptCl (k : Clamp) := (k.checked, k.policy, k.delay, k.releaseTime, k.clampTime)
/-- The kept fields of CC. -/
def keptCc (v : PerClamp Clamp) := v.map fun _ k => keptCl k
/-- The kept fields of HS. -/
def keptHs (h : Hyd) := (h.offDelayP, h.startTimeP)
/-- The kept fields of SGU. -/
def keptSgu (g : Sgu) := (g.p, g.pos, g.hist, g.indexPos, g.sAct, g.measDir, g.gearSet)
/-- The kept fields of CU. -/
def keptCu (c : Coolant) := c.p
/-- The kept fields of PP. -/
def keptPp (p : Pendant) := ((p.st, p.last, p.seen, p.armed, p.freshT, p.mismT, p.intT, p.intCount, p.intAxis,
    p.intMult, p.intLimit, p.clipped), (p.lines, p.refuseT, p.clipT, p.answerDue, p.tx, p.rx, p.ltPhase, p.ltT, p.ltLast, p.power, p.lineVf))
/-- The kept part of a state. -/
def steady (s : State) : Steady := ⟨s.pending, keptSq s.sq, keptPi s.pi, keptAx s.ax, s.cs, keptCc s.cc, keptHs
    s.hs, keptSgu s.sgu, keptCu s.cu, keptPp s.pp, s.inp, s.am, s.hlp⟩

@[simp] theorem steady_mk (p fr sq pi ax cs cc hs sgu cu pp inp am cn rq hlp) :
    steady ⟨p, fr, sq, pi, ax, cs, cc, hs, sgu, cu, pp, inp, am, cn, rq, hlp⟩ =
      ⟨p, keptSq sq, keptPi pi, keptAx ax, cs, keptCc cc, keptHs hs, keptSgu sgu, keptCu cu, keptPp pp, inp, am,
    hlp⟩ := rfl

@[simp] theorem steady_fold (s : State) :
    (⟨s.pending, keptSq s.sq, keptPi s.pi, keptAx s.ax, s.cs, keptCc s.cc, keptHs s.hs, keptSgu s.sgu, keptCu s.cu,
    keptPp s.pp, s.inp, s.am, s.hlp⟩ : Steady) = steady s := rfl
@[simp] theorem keptSq_fold (q : SegQueue) (v0 v1 v2 v3 v4 v5 v6 v7 v8) : keptSq ⟨v0, v1, v2, v3, v4, v5, v6, v7,
    v8, q.flowHigh, q.flowLow⟩ = keptSq q := rfl
@[simp] theorem keptPi_fold (q : PathInt) (v0 v1 v2 v3 v4 v5 v6) : keptPi ⟨v0, v1, v2, v3, v4, v5, q.feed, q.rapid,
    q.spindleOvr, q.source, v6, q.pathRamp, q.holdRamp, q.stopRamp, q.returnSpeed⟩ = keptPi q := rfl
@[simp] theorem keptCh_fold (q : AxisCh) (v0 v1 v2 v3 v4 v5 v6) : keptCh ⟨v0, q.setpoint, q.prev, q.enc, q.latch,
    v1, v2, v3, v4, v5, q.hStep, v6, q.e, q.inPos, q.atRest, q.out, q.satCount, q.p, q.snap⟩ = keptCh q := rfl
@[simp] theorem keptCl_fold (q : Clamp) (v0 v1 v2 v3 v4 v5) : keptCl ⟨v0, v1, v2, q.checked, q.policy, v3, v4, v5,
    q.delay, q.releaseTime, q.clampTime⟩ = keptCl q := rfl
@[simp] theorem keptHs_fold (q : Hyd) (v0 v1 v2 v3 v4) : keptHs ⟨v0, v1, v2, v3, v4, q.offDelayP, q.startTimeP⟩ =
    keptHs q := rfl
@[simp] theorem keptSgu_fold (q : Sgu) (v0 v1 v2 v3 v4 v5 v6 v7 v8 v9 v10 v11 v12 v13 v14 v15 v16 v17 v18 v19 v20
    v21 v22 v23 v24 v25 v26 v27 v28) : keptSgu ⟨v0, v1, v2, v3, v4, v5, q.pos, q.hist, q.indexPos, q.sAct, q.measDir, v6, v7, v8, v9, v10, v11, v12, v13, v14, v15, v16, v17, v18, v19, q.gearSet, v20, v21, v22, v23, v24, v25, v26, v27, v28, q.p⟩ = keptSgu q := rfl
@[simp] theorem keptCu_fold (q : Coolant) (v0 v1 v2 v3 v4 v5 v6 v7 v8 v9 v10 v11 v12 v13 v14 v15 v16) : keptCu ⟨v0,
    v1, v2, v3, v4, v5, v6, v7, v8, v9, v10, v11, v12, v13, v14, v15, v16, q.p⟩ = keptCu q := rfl
@[simp] theorem keptPp_fold (q : Pendant) (v0) : keptPp ⟨q.st, q.last, q.seen, q.armed, q.freshT, q.mismT, q.intT,
    q.intCount, q.intAxis, q.intMult, q.intLimit, q.clipped, v0, q.lines, q.refuseT, q.clipT, q.answerDue, q.tx, q.rx, q.ltPhase, q.ltT, q.ltLast, q.power, q.lineVf⟩ = keptPp q := rfl

theorem steady_foldl {α : Type} (f : State → α → State) (h : ∀ s a, steady (f s a) = steady s) (l : List α) (s :
    State) :
    steady (l.foldl f s) = steady s := by
  induction l generalizing s with
  | nil => rfl
  | cons a l ih => rw [List.foldl_cons, ih, h]
/-- `steady` where an update of a per-axis field has not been seen to keep it. -/
def steadyRaw (s : State) : Steady := steady s
open Classical in
@[simp] theorem steady_updAx (a : Axis) (f : AxisCh → AxisCh) (s : State) :
    steady (updAx a f s) = if ∀ k, keptCh (f k) = keptCh k then steady s else steadyRaw (updAx a f s) := by
  split
  · rename_i h
    cases a <;> simp [updAx, PerAxis.upd, keptAx, PerAxis.map, h, steady]
  · rfl
open Classical in
@[simp] theorem steady_mapAx (f : Axis → AxisCh → AxisCh) (s : State) :
    steady (mapAx f s) = if ∀ a k, keptCh (f a k) = keptCh k then steady s else steadyRaw (mapAx f s) := by
  split
  · rename_i h
    simp [mapAx, keptAx, PerAxis.map, h, steady]
  · rfl
open Classical in
@[simp] theorem steady_updClamp (a : ClampAxis) (f : Clamp → Clamp) (s : State) :
    steady (updClamp a f s) = if ∀ k, keptCl (f k) = keptCl k then steady s else steadyRaw (updClamp a f s) := by
  split
  · rename_i h
    cases a <;> simp [updClamp, PerClamp.upd, keptCc, PerClamp.map, h, steady]
  · rfl

@[simp] theorem steady_updJog (a : Axis) (f : Jog → Jog) (s : State) :
    steady (updJog a f s) = steady s := rfl

@[simp] theorem steady_updCond (c : Cond) (f : CondEntry → CondEntry) (s : State) :
    steady (updCond c f s) = steady s := rfl

@[simp] theorem steady_queueReport (k : Report) (s : State) :
    steady (queueReport k s) = steady s := by unfold queueReport; split <;> simp

@[simp] theorem steady_latch (c : Cond) (seq : Nat) (value : Int) (s : State) :
    steady (latch c seq value s) = steady s := by simp [latch]

@[simp] theorem steady_setRaw (c : Cond) (b : Bool) (s : State) :
    steady (setRaw c b s) = steady s := rfl

@[simp] theorem steady_fall (c : Cond) (s : State) :
    steady (fall c s) = steady s := by unfold fall; split <;> simp

@[simp] theorem steady_riseNote (c : Cond) (seq : Nat) (value : Int) (s : State) :
    steady (riseNote c seq value s) = steady s := by unfold riseNote; split <;> simp

@[simp] theorem steady_levelNote (c : Cond) (cause : Bool) (seq : Nat) (value : Int) (s : State) :
    steady (levelNote c cause seq value s) = steady s := by unfold levelNote; split <;> simp

@[simp] theorem steady_setQState (q : QState) (s : State) :
    steady (setQState q s) = steady s := by unfold setQState; (repeat' split) <;> simp

@[simp] theorem steady_sqHold (s : State) :
    steady (sqHold s) = steady s := by unfold sqHold; split <;> simp

@[simp] theorem steady_endJog (step : EndStep) (a : Axis) (s : State) :
    steady (endJog step a s) = steady s := rfl

@[simp] theorem steady_endAllJogs (step : EndStep) (s : State) :
    steady (endAllJogs step s) = steady s := rfl

@[simp] theorem steady_raiseHold (c : Cond) (seq : Nat) (value : Int) (s : State) :
    steady (raiseHold c seq value s) = steady s := by unfold raiseHold; split <;> simp

@[simp] theorem steady_riseHold (c : Cond) (seq : Nat) (value : Int) (s : State) :
    steady (riseHold c seq value s) = steady s := by unfold riseHold; split <;> simp

@[simp] theorem steady_hydJoin (who : Requester) (op : HydOp) (s : State) :
    steady (hydJoin who op s) = steady s := rfl

@[simp] theorem steady_hydWithdraw (who : Requester) (s : State) :
    steady (hydWithdraw who s) = steady s := rfl

@[simp] theorem steady_hydReturn (who : Requester) (s : State) :
    steady (hydReturn who s) = steady s := by unfold hydReturn; (repeat' split) <;> simp

@[simp] theorem steady_releaseNeed (c : ClampAxis) (s : State) :
    steady (releaseNeed c s) = steady s := by unfold releaseNeed; (repeat' split) <;> simp

@[simp] theorem steady_clampNeed (c : ClampAxis) (s : State) :
    steady (clampNeed c s) = steady s := by unfold clampNeed; (repeat' split) <;> simp

@[simp] theorem steady_startClampOp (c : ClampAxis) (s : State) :
    steady (startClampOp c s) = steady s := by unfold startClampOp; split <;> simp

@[simp] theorem steady_releaseDone (c : ClampAxis) (s : State) :
    steady (releaseDone c s) = steady s := by unfold releaseDone; split <;> simp

@[simp] theorem steady_clampDone (c : ClampAxis) (s : State) :
    steady (clampDone c s) = steady s := by unfold clampDone; split <;> simp

@[simp] theorem steady_pumpStop (s : State) :
    steady (pumpStop s) = steady s := by simp [pumpStop]

@[simp] theorem steady_setSpindle (st : SpindleState) (s : State) :
    steady (setSpindle st s) = steady s := by unfold setSpindle; split <;> simp

@[simp] theorem steady_spindleOff (s : State) :
    steady (spindleOff s) = steady s := by simp [spindleOff]

@[simp] theorem steady_spindleStart (s : State) :
    steady (spindleStart s) = steady s := by simp [spindleStart]

@[simp] theorem steady_retarget (s : State) :
    steady (retarget s) = steady s := by unfold retarget; dsimp only; (repeat' split) <;> simp

@[simp] theorem steady_spindleStopSpeed (s : State) :
    steady (spindleStopSpeed s) = steady s := by simp [spindleStopSpeed]

@[simp] theorem steady_speedCommand (speed : Nat) (dir : Dir) (seq : Nat) (s : State) :
    steady (speedCommand speed dir seq s) = steady s := by unfold speedCommand; dsimp only; (repeat' split) <;> simp

@[simp] theorem steady_leaveEngaged (s : State) :
    steady (leaveEngaged s) = steady s := by unfold leaveEngaged; split <;> simp

@[simp] theorem steady_gearAfterAbandon (s : State) :
    steady (gearAfterAbandon s) = steady s := by unfold gearAfterAbandon; split <;> simp

@[simp] theorem steady_stopShiftTimers (s : State) :
    steady (stopShiftTimers s) = steady s := rfl

@[simp] theorem steady_shiftTeardown (s : State) :
    steady (shiftTeardown s) = steady s := by unfold shiftTeardown; dsimp only; split <;> simp

@[simp] theorem steady_abortReport (h : Shift) (s : State) :
    steady (abortReport h s) = steady s := by simp [abortReport]

@[simp] theorem steady_abandonShift (s : State) :
    steady (abandonShift s) = steady s := by unfold abandonShift; (repeat' split) <;> simp

@[simp] theorem steady_floodFault (cause : Int) (s : State) :
    steady (floodFault cause s) = steady s := by simp [floodFault]

@[simp] theorem steady_floodFresh (s : State) :
    steady (floodFresh s) = steady s := by unfold floodFresh; (repeat' split) <;> simp

@[simp] theorem steady_floodOff (s : State) :
    steady (floodOff s) = steady s := rfl

@[simp] theorem steady_tscFaultEntry (s : State) :
    steady (tscFaultEntry s) = steady s := rfl

@[simp] theorem steady_tscFault (cause : Int) (s : State) :
    steady (tscFault cause s) = steady s := by simp [tscFault]

@[simp] theorem steady_tscDryStart (s : State) :
    steady (tscDryStart s) = steady s := by unfold tscDryStart; split <;> simp

@[simp] theorem steady_tscDryEntry (s : State) :
    steady (tscDryEntry s) = steady s := by unfold tscDryEntry; split <;> simp

@[simp] theorem steady_tscRamp (s : State) :
    steady (tscRamp s) = steady s := by unfold tscRamp; split <;> simp

@[simp] theorem steady_tscWait (s : State) :
    steady (tscWait s) = steady s := rfl

@[simp] theorem steady_tscFromOff (s : State) :
    steady (tscFromOff s) = steady s := by unfold tscFromOff; (repeat' split) <;> simp

@[simp] theorem steady_tscFresh (s : State) :
    steady (tscFresh s) = steady s := by unfold tscFresh; (repeat' split) <;> simp

@[simp] theorem steady_tscPurge (s : State) :
    steady (tscPurge s) = steady s := rfl

@[simp] theorem steady_tscOff (s : State) :
    steady (tscOff s) = steady s := by unfold tscOff; (repeat' split) <;> simp

@[simp] theorem steady_tscSuspend (s : State) :
    steady (tscSuspend s) = steady s := rfl

@[simp] theorem steady_tscResume (s : State) :
    steady (tscResume s) = steady s := by unfold tscResume; (repeat' split) <;> simp

@[simp] theorem steady_setPressure (p : Nat) (s : State) :
    steady (setPressure p s) = steady s := by unfold setPressure; (repeat' split) <;> simp

@[simp] theorem steady_purgeDone (s : State) :
    steady (purgeDone s) = steady s := by unfold purgeDone; (repeat' split) <;> simp

@[simp] theorem steady_writeFlood (d : Dem) (s : State) :
    steady (writeFlood d s) = steady s := by unfold writeFlood; split <;> simp

@[simp] theorem steady_writeTsc (d : Dem) (s : State) :
    steady (writeTsc d s) = steady s := by unfold writeTsc; split <;> simp

@[simp] theorem steady_writeMist (d : Dem) (s : State) :
    steady (writeMist d s) = steady s := by unfold writeMist; split <;> simp

@[simp] theorem steady_coolantWrite (flood tsc mist : Dem) (pressure : Option Nat) (s : State) :
    steady (coolantWrite flood tsc mist pressure s) = steady s := by unfold coolantWrite; split <;> simp

@[simp] theorem steady_coolantAllOff (s : State) :
    steady (coolantAllOff s) = steady s := by simp [coolantAllOff]

@[simp] theorem steady_flowEval (s : State) :
    steady (flowEval s) = steady s := by unfold flowEval; (repeat' split) <;> simp

@[simp] theorem steady_drainTest (s : State) :
    steady (drainTest s) = steady s := by unfold drainTest; split <;> simp

@[simp] theorem steady_dropQueueOwners (s : State) :
    steady (dropQueueOwners s) = steady s := by
  have h : ∀ k : AxisCh, keptCh (if k.owner = .queue then { k with owner := .none } else k) = keptCh k := fun k => by split <;> rfl
  simp [dropQueueOwners, h]

@[simp] theorem steady_clearRecords (s : State) :
    steady (clearRecords s) = steady s := rfl

@[simp] theorem steady_piDrop (s : State) :
    steady (piDrop s) = steady s := rfl

@[simp] theorem steady_flushIdle (s : State) :
    steady (flushIdle s) = steady s := by simp [flushIdle]

@[simp] theorem steady_sqStop (s : State) :
    steady (sqStop s) = steady s := by unfold sqStop; dsimp only; (repeat' split) <;> simp

@[simp] theorem steady_homeFail (a : Axis) (r : HomeReason) (s : State) :
    steady (homeFail a r s) = steady s := by simp [homeFail]

@[simp] theorem steady_homeAbort (s : State) (a : Axis) :
    steady (homeAbort s a) = steady s := by unfold homeAbort; split <;> simp

@[simp] theorem steady_homeClose (a : Axis) (s : State) :
    steady (homeClose a s) = steady s := by simp [homeClose]

@[simp] theorem steady_homeReport (s : State) (a : Axis) :
    steady (homeReport s a) = steady s := by unfold homeReport; split <;> simp

@[simp] theorem steady_homeEnd (a : Axis) (s : State) :
    steady (homeEnd a s) = steady s := by simp [homeEnd]

@[simp] theorem steady_homeOk (a : Axis) (s : State) :
    steady (homeOk a s) = steady s := by simp [homeOk]

@[simp] theorem steady_stopDeliveries (s : State) :
    steady (stopDeliveries s) = steady s := by simp [stopDeliveries, steady_foldl]

@[simp] theorem steady_reactStop (s : State) :
    steady (reactStop s) = steady s := by unfold reactStop; split <;> simp

@[simp] theorem steady_raiseStop (c : Cond) (seq : Nat) (value : Int) (s : State) :
    steady (raiseStop c seq value s) = steady s := by simp [raiseStop]

@[simp] theorem steady_riseStop (c : Cond) (seq : Nat) (value : Int) (s : State) :
    steady (riseStop c seq value s) = steady s := by unfold riseStop; split <;> simp

@[simp] theorem steady_moveNeed (c : ClampAxis) (seq : Nat) (s : State) :
    steady (moveNeed c seq s) = steady s := by unfold moveNeed; split <;> simp

@[simp] theorem steady_axisNeed (a : Axis) (seq : Nat) (s : State) :
    steady (axisNeed a seq s) = steady s := by unfold axisNeed; split <;> simp

@[simp] theorem steady_supplyLow (cause : Int) (s : State) :
    steady (supplyLow cause s) = steady s := by simp [supplyLow]

@[simp] theorem steady_updShift (f : Shift → Shift) (s : State) :
    steady (updShift f s) = steady s := rfl

@[simp] theorem steady_enterPositioning (s : State) :
    steady (enterPositioning s) = steady s := by unfold enterPositioning; split <;> simp

@[simp] theorem steady_positionTo (t : Int) (s : State) :
    steady (positionTo t s) = steady s := by simp [positionTo]

@[simp] theorem steady_positionHold (s : State) :
    steady (positionHold s) = steady s := rfl

@[simp] theorem steady_strokeWait (s : State) :
    steady (strokeWait s) = steady s := rfl

@[simp] theorem steady_beginStroke (c : Cyl) (s : State) :
    steady (beginStroke c s) = steady s := by unfold beginStroke; dsimp only; (repeat' split) <;> simp

@[simp] theorem steady_enterSettling (s : State) :
    steady (enterSettling s) = steady s := rfl

@[simp] theorem steady_chooseStroke (s : State) :
    steady (chooseStroke s) = steady s := by unfold chooseStroke; (repeat' split) <;> simp

@[simp] theorem steady_nextAttempt (s : State) :
    steady (nextAttempt s) = steady s := by unfold nextAttempt; split <;> simp

@[simp] theorem steady_enterMeshing (s : State) :
    steady (enterMeshing s) = steady s := by unfold enterMeshing; (repeat' split) <;> simp

@[simp] theorem steady_strokeGranted (s : State) :
    steady (strokeGranted s) = steady s := by unfold strokeGranted; (repeat' split) <;> simp

@[simp] theorem steady_applyMiss (s : State) :
    steady (applyMiss s) = steady s := by unfold applyMiss; (repeat' split) <;> simp

@[simp] theorem steady_applyLearn (s : State) :
    steady (applyLearn s) = steady s := by unfold applyLearn; (repeat' split) <;> simp

@[simp] theorem steady_strokeSuccess (s : State) :
    steady (strokeSuccess s) = steady s := by unfold strokeSuccess; (repeat' split) <;> simp

@[simp] theorem steady_shiftFailSteps (s : State) :
    steady (shiftFailSteps s) = steady s := by unfold shiftFailSteps; dsimp only; split <;> simp

@[simp] theorem steady_shiftFail (r : ShiftReason) (s : State) :
    steady (shiftFail r s) = steady s := by unfold shiftFail; split <;> simp

@[simp] theorem steady_shiftSuccess (s : State) :
    steady (shiftSuccess s) = steady s := by unfold shiftSuccess; dsimp only; (repeat' split) <;> simp

@[simp] theorem steady_lateDisengage (c : Cyl) (s : State) :
    steady (lateDisengage c s) = steady s := by unfold lateDisengage; (repeat' split) <;> simp

theorem steady_settleTest (s : State) {t : State}
    (h : settleTest s = some t) : steady t = steady s := by
  revert h; unfold settleTest; (repeat' split) <;> intro h <;> simp at h <;> subst h <;> simp

@[simp] theorem steady_startShift (r : Range) (origin : Nat) (s : State) :
    steady (startShift r origin s) = steady s := by unfold startShift; dsimp only; split <;> simp

@[simp] theorem steady_completeHead (s : State) :
    steady (completeHead s) = steady s := by unfold completeHead; split <;> simp

@[simp] theorem steady_completeEndMark (s : State) :
    steady (completeEndMark s) = steady s := by unfold completeEndMark; split <;> simp

@[simp] theorem steady_startMove (m : MoveRec) (s : State) :
    steady (startMove m s) = steady s := rfl

@[simp] theorem steady_moveStep4 (q : Nat) (m : MoveRec) (s : State) :
    steady (moveStep4 q m s) = steady s := by unfold moveStep4; split <;> simp

@[simp] theorem steady_moveNeeds (q : Nat) (m : MoveRec) (s : State) :
    steady (moveNeeds q m s) = steady s := by unfold moveNeeds; simp [apply_ite steady, steady_foldl]

@[simp] theorem steady_moveChecks (q : Nat) (m : MoveRec) (s : State) :
    steady (moveChecks q m s) = steady s := by unfold moveChecks; dsimp only; (repeat' split) <;> simp

@[simp] theorem steady_spindleRecord (r : QRec) (speed : Nat) (dir : Dir) (wait : Bool) (s : State) :
    steady (spindleRecord r speed dir wait s) = steady s := by unfold spindleRecord; dsimp only; (repeat' split) <;> simp

@[simp] theorem steady_gearHand (q : Nat) (r : Range) (s : State) :
    steady (gearHand q r s) = steady s := by unfold gearHand; split <;> simp

@[simp] theorem steady_clampAction (c : ClampAxis) (clamp : Bool) (s : State) :
    steady (clampAction c clamp s) = steady s := by unfold clampAction; split <;> simp

@[simp] theorem steady_dispatchHead (s : State) :
    steady (dispatchHead s) = steady s := by
  unfold dispatchHead
  split
  · rfl
  · dsimp only
    split <;> (try split) <;> simp

theorem steady_recordStep (s : State) {t : State}
    (h : recordStep s = some t) : steady t = steady s := by
  revert h; unfold recordStep; (repeat' split) <;> intro h <;> simp at h <;> subst h <;> simp

@[simp] theorem steady_becomeHeld (s : State) :
    steady (becomeHeld s) = steady s := by simp [becomeHeld]

@[simp] theorem steady_resumeRun (s : State) :
    steady (resumeRun s) = steady s := by unfold resumeRun; dsimp only; split <;> simp

@[simp] theorem steady_takeResume (s : State) :
    steady (takeResume s) = steady s := by unfold takeResume; split <;> simp

@[simp] theorem steady_takeStart (s : State) :
    steady (takeStart s) = steady s := by
  have h : ∀ k : AxisCh, keptCh (if k.owner = .none then { k with owner := .queue } else k) = keptCh k := fun k => by split <;> rfl
  simp [takeStart, h]

@[simp] theorem steady_resumeRequest (s : State) :
    steady (resumeRequest s).2 = steady s := by unfold resumeRequest; (repeat' split) <;> simp

@[simp] theorem steady_startRequest (s : State) :
    steady (startRequest s).2 = steady s := by unfold startRequest; (repeat' split) <;> simp

@[simp] theorem steady_pendantStart (s : State) :
    steady (pendantStart s) = steady s := by simp [pendantStart]

theorem steady_dispatchPassed (n : Nat) (s : State) : steady (dispatchPassed n s) = steady s := by
  induction n generalizing s with
  | zero => rfl
  | succ n ih =>
    unfold dispatchPassed
    (repeat' split) <;> simp [ih]

theorem steady_grantRule (s : State) {t : State}
    (h : grantRule s = some t) : steady t = steady s := by
  revert h; unfold grantRule; (repeat' split) <;> intro h <;> simp at h <;> subst h <;> simp

theorem steady_clampRule (s : State) (c : ClampAxis) {t : State}
    (h : clampRule s c = some t) : steady t = steady s := by
  revert h; unfold clampRule; dsimp only; (repeat' split) <;> intro h <;> simp at h <;> subst h <;> simp

theorem steady_pumpRule (s : State) {t : State}
    (h : pumpRule s = some t) : steady t = steady s := by
  revert h; unfold pumpRule; (repeat' split) <;> intro h <;> simp at h <;> subst h <;> simp

theorem steady_supplyRule (s : State) {t : State}
    (h : supplyRule s = some t) : steady t = steady s := by
  revert h; unfold supplyRule; (repeat' split) <;> intro h <;> simp at h <;> subst h <;> simp

theorem steady_spindleRule (s : State) {t : State}
    (h : spindleRule s = some t) : steady t = steady s := by
  revert h; unfold spindleRule; (repeat' split) <;> intro h <;> simp at h <;> subst h <;> simp

theorem steady_engagedRule (s : State) {t : State}
    (h : engagedRule s = some t) : steady t = steady s := by
  revert h; unfold engagedRule; (repeat' split) <;> intro h <;> simp at h <;> subst h <;> simp

theorem steady_levelRule (c : Cond) (cause : Bool) (value : Int) (s : State) {t : State}
    (h : levelRule c cause value s = some t) : steady t = steady s := by
  revert h; unfold levelRule; (repeat' split) <;> intro h <;> simp at h <;> subst h <;> simp

theorem steady_overloadRule (s : State) {t : State}
    (h : overloadRule s = some t) : steady t = steady s := by
  revert h; unfold overloadRule; (repeat' split) <;> intro h <;> simp at h <;> subst h <;> simp

theorem steady_shiftRule (s : State) {t : State}
    (h : shiftRule s = some t) : steady t = steady s := by
  revert h; unfold shiftRule; (repeat' split) <;> intro h <;>
    first | exact steady_settleTest s h | (injection h with h; subst h; simp; done) | cases h

theorem steady_floodRule (s : State) {t : State}
    (h : floodRule s = some t) : steady t = steady s := by
  revert h; unfold floodRule; (repeat' split) <;> intro h <;> simp at h <;> subst h <;> simp

theorem steady_tscRule (s : State) {t : State}
    (h : tscRule s = some t) : steady t = steady s := by
  revert h; unfold tscRule; (repeat' split) <;> intro h <;> simp at h <;> subst h <;> simp

theorem steady_homeRule (s : State) (a : Axis) {t : State}
    (h : homeRule s a = some t) : steady t = steady s := by
  revert h; unfold homeRule; dsimp only; (repeat' split) <;> intro h <;> simp at h <;> subst h <;> simp

theorem steady_giveBackRule (s : State) (a : Axis) {t : State}
    (h : giveBackRule s a = some t) : steady t = steady s := by
  revert h; unfold giveBackRule; dsimp only; (repeat' split) <;> intro h <;> simp at h <;> subst h <;> simp

theorem steady_queueRule (s : State) {t : State}
    (h : queueRule s = some t) : steady t = steady s := by
  revert h; unfold queueRule; split
  · rename_i s1 h1; intro h; injection h with h; subst h; exact steady_recordStep s h1
  · (repeat' split) <;> intro h <;> first | (injection h with h; subst h; simp; done) | cases h

theorem steady_machineRule (s : State) {t : State}
    (h : machineRule s = some t) : steady t = steady s := by
  revert h; unfold machineRule; (repeat' split) <;> intro h <;> simp at h <;> subst h <;> simp

@[simp] theorem steady_tscGuard (s : State) :
    steady (tscGuard s) = steady s := by unfold tscGuard; split <;> simp

/-- A closing rule keeps the steady part. -/
theorem steady_rules (s : State) {t : State} (h : rules s = some t) : steady t = steady s := by
  unfold rules at h
  repeat' (first | (rcases or_some h with h | h; clear * - h))
  all_goals first
    | exact steady_levelRule _ _ _ _ h
    | exact steady_engagedRule _ h
    | exact steady_overloadRule _ h
    | exact steady_grantRule _ h
    | exact steady_clampRule _ _ h
    | exact steady_spindleRule _ h
    | exact steady_shiftRule _ h
    | exact steady_floodRule _ h
    | exact steady_tscRule _ h
    | exact steady_homeRule _ _ h
    | exact steady_giveBackRule _ _ h
    | exact steady_queueRule _ h
    | exact steady_pumpRule _ h
    | exact steady_supplyRule _ h
    | exact steady_machineRule _ h

@[simp] theorem steady_settle (n : Nat) (s : State) : steady (settle n s) = steady s := by
  induction n generalizing s with
  | zero => rfl
  | succ n ih =>
    unfold settle
    split
    · rename_i t h
      rw [ih, steady_rules s h]
    · rfl

@[simp] theorem steady_quiesce (s : State) : steady (quiesce s) = steady s := by simp [quiesce]

/-- The end of a command keeps the steady part but for the two transmitters: PP's answer, its display flags and its
due answer, and the frame HLP sends. -/
theorem steady_finish (s : State) :
    steady (finish s) =
      { steady s with pp := keptPp (pendantSend (quiesce s)).pp, hlp := { s.hlp with tx := (finish s).hlp.tx } } := by
  have h := steady_quiesce s
  have hh : (quiesce s).hlp = s.hlp := congrArg Steady.hlp h
  have hp : steady (pendantSend (quiesce s)) = { steady s with pp := keptPp (pendantSend (quiesce s)).pp } := by
    rw [← h]; unfold pendantSend; (repeat' split) <;> rfl
  have ht : ∀ u : State, steady (transmit u) = { steady u with hlp := { u.hlp with tx := (transmit u).hlp.tx } } := by
    intro u; unfold transmit; (repeat' split) <;> rfl
  have hu : (pendantSend (quiesce s)).hlp = s.hlp := congrArg Steady.hlp hp
  unfold finish
  rw [ht, hp, hu]

end Sys2Proof.Machine
end

