-- ==== Sys2Proof/Laws/Calm.lean ====
section
/-! SUPPORT. When no closing rule applies, rule by rule, as a condition on the state alone (`Resting`), and what the end
of a command does then. A state that differs from a calm one only in fields that `Resting` does not read is calm. -/

namespace Sys2Proof.Machine

theorem or_none {α : Type} {a b : Option α} : (a <|> b) = none ↔ a = none ∧ b = none := by
  cases a with
  | none => simp
  | some v => simp

theorem engagedRule_none (s : State) :
    engagedRule s = none ↔ ∀ r, engagedRange s = some r → consistentWith s r = true := by
  unfold engagedRule; split
  · rename_i r h; split <;> simp_all
  · rename_i h; simp [h]

theorem levelRule_none (c : Cond) (b : Bool) (v : Int) (s : State) : levelRule c b v s = none ↔ rawOf s c = b := by
  unfold levelRule; cases b <;> cases rawOf s c <;> simp

theorem overloadRule_none (s : State) : overloadRule s = none ↔
    ¬((loadMax s = false ∨ spindleRuns s = false) ∧ (s.sgu.overload ≠ 0 ∨ s.sgu.overDone = true)) := by
  unfold overloadRule; split <;> simp_all

theorem grantRule_none (s : State) : grantRule s = none ↔
    ¬(s.hs.st = .ready ∧ s.hs.holder = none ∧ s.hs.fifo ≠ [] ∧ s.cn.machine ≠ .tripped) := by
  unfold grantRule; split
  · split <;> simp_all
  · rename_i h
    simp only [true_iff]
    rintro ⟨h1, h2, h3, -⟩
    cases hf : s.hs.fifo with
    | nil => exact h3 hf
    | cons r rs => exact h r rs h1 h2 hf

/-- No closing rule of a clamp applies. -/
def ClampRests (s : State) (c : ClampAxis) : Prop :=
  releaseMet s c = false ∧ clampMet s c = false ∧
    ¬(s.cn.machine = .ready ∧ (s.cc.get c).st = .clamped ∧ (s.cc.get c).follow = .release) ∧
    ¬(idleRuns s c = true ∧ (s.cc.get c).delay = 0 ∧ s.cn.machine ≠ .tripped) ∧
    (idleRuns s c = false → (s.cc.get c).idle = 0)

theorem clampRule_none (s : State) (c : ClampAxis) : clampRule s c = none ↔ ClampRests s c := by
  unfold clampRule ClampRests; dsimp only; (repeat' split) <;> simp_all

/-- No closing rule of the spindle applies. -/
def SpindleRests (s : State) : Prop :=
  (s.sgu.st = .decel → spindleStopped s = false) ∧
    (s.sgu.st = .fault → ¬(spindleReady s = true ∧ s.sgu.sAct ≤ 10)) ∧ (s.sgu.st = .off → s.sgu.target = 0)

theorem spindleRule_none (s : State) : spindleRule s = none ↔ SpindleRests s := by
  unfold spindleRule SpindleRests; (repeat' split) <;> simp_all <;> omega

/-- No closing rule of a shift applies. -/
def shiftRests (s : State) : Bool :=
  match s.sgu.gear, s.sgu.shift with
  | .preparing, some _ => !(s.sgu.st == .off && decide (s.sgu.sAct ≤ 10) && spindleReady s)
  | .stroking, some h => !targetOn s h.target h.cyl
  | .meshing, some h => !targetOn s h.target h.cyl
  | .settling, some h =>
    targetOn s h.target .a && targetOn s h.target .b && !oppositeOn s h.target .a && !oppositeOn s h.target .b
  | _, _ => true

theorem shiftRule_none (s : State) : shiftRule s = none ↔ shiftRests s = true := by
  unfold shiftRule shiftRests; split
  · split <;> grind
  · split <;> simp_all
  · split <;> simp_all
  · rename_i hs
    unfold settleTest; rw [hs]; dsimp only
    (repeat' split) <;> grind
  · simp

theorem floodRule_none (s : State) : floodRule s = none ↔ ¬(s.cu.flood = .proving ∧ floodMin s = true) := by
  unfold floodRule; split <;> simp_all

/-- No closing rule of TSC applies. -/
def tscRests (s : State) : Bool :=
  match s.cu.tsc with
  | .waitSpindle => !(permit s && levelOk s && !filterBlock s)
  | .suspended => !(permit s && s.cu.tscDem)
  | .ramping | .on => permit s
  | _ => true

theorem tscRule_none (s : State) : tscRule s = none ↔ tscRests s = true := by
  unfold tscRule tscRests; (repeat' split) <;> grind

/-- No closing rule of a homing applies. -/
def homeRests (s : State) (a : Axis) : Bool :=
  match (s.ax.get a).phase with
  | .waitRelease => !released s a
  | .ending => !((s.ax.get a).hVel == 0 && (s.ax.get a).atRest)
  | _ => true

theorem homeRule_none (s : State) (a : Axis) : homeRule s a = none ↔ homeRests s a = true := by
  unfold homeRule homeRests; dsimp only; (repeat' split) <;> grind

theorem giveBackRule_none (s : State) (a : Axis) : giveBackRule s a = none ↔
    ¬((s.ax.get a).owner = .pendant ∧ jogOver s a = true ∧ (s.ax.get a).atRest = true ∧
      (selected s ≠ some a ∨ jogPermitted s = false)) := by
  unfold giveBackRule; dsimp only; split <;> simp_all

/-- The current record neither completes nor goes on. -/
def recordRests (s : State) : Bool :=
  match currentRec s with
  | some ⟨_, .spindle speed _ true⟩ =>
    !(nonMoveRuns s && (if speed = 0 then s.sgu.st == .off else s.sgu.st == .atSpeed))
  | some ⟨_, .gear r⟩ => !(nonMoveRuns s && !shifting s) || (s.sq.handed && engagedRange s != some r)
  | some ⟨_, .coolant f t _ _ true⟩ => !((nonMoveRuns s || s.sq.st == .held) && coolantMet s f t)
  | some ⟨_, .clamp c k⟩ => !(nonMoveRuns s && (s.cc.get c).st == (if k then .clamped else .released))
  | some ⟨_, .mark true⟩ => !(nonMoveRuns s && queueAxesAtRest s)
  | _ => true

theorem recordStep_none (s : State) : recordStep s = none ↔ recordRests s = true := by
  unfold recordStep recordRests
  cases currentRec s with
  | none => simp
  | some r =>
    obtain ⟨q, b⟩ := r
    cases b with
    | move m => simp
    | dwell n => simp
    | spindle v d w => cases w <;> grind
    | gear g => grind
    | coolant f t m p w => cases w <;> grind
    | clamp c k => grind
    | mark w => cases w <;> grind

/-- The queue state does not change by itself. -/
def queueRests (s : State) : Bool :=
  match s.sq.st with
  | .running => s.sq.current || s.sq.recs.isEmpty
  | .holding => !(s.pi.r == 0 && !inProgress s)
  | .stopping => s.pi.r != 0
  | _ => true

theorem queueRule_none (s : State) : queueRule s = none ↔ recordRests s = true ∧ queueRests s = true := by
  rw [← recordStep_none]
  unfold queueRule queueRests; (repeat' split) <;> grind

/-- The pump does not change by itself. -/
def pumpRests (s : State) : Bool :=
  match s.hs.st with
  | .pumpOff => s.cn.machine == .tripped || !pumpDemand s
  | _ => if pumpDemand s then !s.hs.offDelay.on else s.hs.offDelay.on

theorem pumpRule_none (s : State) : pumpRule s = none ↔ pumpRests s = true := by
  unfold pumpRule pumpRests; (repeat' split) <;> grind

theorem supplyRule_none (s : State) : supplyRule s = none ↔
    ¬((s.hs.st = .starting ∨ s.hs.st = .low) ∧ hydMin s = true ∧ hydOverload s = false) := by
  unfold supplyRule; split <;> simp_all

theorem machineRule_none (s : State) : machineRule s = none ↔
    ¬(s.cn.machine = .stopping ∧ readyTest s = true) := by
  unfold machineRule; split <;> simp_all

/-- No closing rule applies, as a condition on the state. -/
structure Resting (s : State) : Prop where
  engaged : ∀ r, engagedRange s = some r → consistentWith s r = true
  lost : rawOf s .gearPositionLost = gearLostCause s
  oil : rawOf s .gearOilLow = oilLowCause s
  overload : ¬((loadMax s = false ∨ spindleRuns s = false) ∧ (s.sgu.overload ≠ 0 ∨ s.sgu.overDone = true))
  grant : ¬(s.hs.st = .ready ∧ s.hs.holder = none ∧ s.hs.fifo ≠ [] ∧ s.cn.machine ≠ .tripped)
  clamp : ∀ c, ClampRests s c
  spindle : SpindleRests s
  shift : shiftRests s = true
  flood : ¬(s.cu.flood = .proving ∧ floodMin s = true)
  tsc : tscRests s = true
  home : ∀ a, homeRests s a = true
  giveBack : ∀ a, ¬((s.ax.get a).owner = .pendant ∧ jogOver s a = true ∧ (s.ax.get a).atRest = true ∧
    (selected s ≠ some a ∨ jogPermitted s = false))
  record : recordRests s = true
  queue : queueRests s = true
  pump : pumpRests s = true
  supply : ¬((s.hs.st = .starting ∨ s.hs.st = .low) ∧ hydMin s = true ∧ hydOverload s = false)
  machine : ¬(s.cn.machine = .stopping ∧ readyTest s = true)

theorem calm_iff (s : State) : Calm s ↔ Resting s := by
  unfold Calm rules
  simp only [or_none, and_assoc, engagedRule_none, levelRule_none, overloadRule_none, grantRule_none, clampRule_none,
    spindleRule_none, shiftRule_none, floodRule_none, tscRule_none, homeRule_none, giveBackRule_none, queueRule_none,
    pumpRule_none, supplyRule_none, machineRule_none]
  constructor
  · rintro ⟨h1, h2, h3, h4, h5, h6, h7, h8, h9, h10, h11, h12, h13, h14, h15, h16, h17, h18, h19, h20, h21, h22, h23,
      h24, h25, h26, h27, h28⟩
    exact ⟨h1, h2, h3, h4, h5, fun c => by cases c <;> assumption, h10, h11, h12, h13,
      fun a => by cases a <;> assumption, fun a => by cases a <;> assumption, h24, h25, h26, h27, h28⟩
  · intro h
    exact ⟨h.engaged, h.lost, h.oil, h.overload, h.grant, h.clamp .x, h.clamp .y, h.clamp .z, h.clamp .b, h.spindle,
      h.shift, h.flood, h.tsc, h.home .x, h.home .y, h.home .z, h.home .w, h.home .b, h.giveBack .x, h.giveBack .y,
      h.giveBack .z, h.giveBack .w, h.giveBack .b, h.record, h.queue, h.pump, h.supply, h.machine⟩

/-- In a calm state TSC flows only under its permit (R146). -/
theorem Calm.permit {s : State} (h : Calm s) : tscFlows s = true → permit s = true := by
  have ht := ((calm_iff s).1 h).tsc
  unfold tscRests at ht
  unfold tscFlows
  intro hf
  split at ht <;> simp_all

/-- The closing rules leave a calm state as it is. -/
theorem quiesce_calm {s : State} (h : Calm s) : quiesce s = s := by
  have hr : rules s = none := h
  have hs : settle 512 s = s := by show settle (511 + 1) s = s; unfold settle; rw [hr]
  unfold quiesce tscGuard
  rw [hs]
  have hp := h.permit
  cases hf : tscFlows s
  · rfl
  · rw [hp hf]; rfl

/-- The end of a command that has led to a calm state. -/
theorem finish_calm {s : State} (h : Calm s) : finish s = transmit (pendantSend s) := by
  unfold finish; rw [quiesce_calm h]

end Sys2Proof.Machine
end

