-- ==== Sys2Proof/Laws/State.lean ====
section
/-! SUPPORT. What each update of the state leaves as it is, field by field, and what it makes of the field it changes. -/

namespace Sys2Proof.Machine

/-! ## Containers -/

@[simp] theorem PerAxis.get_upd {α : Type} (v : PerAxis α) (a b : Axis) (f : α → α) :
    (v.upd a f).get b = if a = b then f (v.get b) else v.get b := by cases a <;> cases b <;> rfl

@[simp] theorem PerAxis.get_map {α β : Type} (v : PerAxis α) (a : Axis) (f : Axis → α → β) :
    (v.map f).get a = f a (v.get a) := by cases a <;> rfl

@[simp] theorem PerClamp.get_upd {α : Type} (v : PerClamp α) (a b : ClampAxis) (f : α → α) :
    (v.upd a f).get b = if a = b then f (v.get b) else v.get b := by cases a <;> cases b <;> rfl

@[simp] theorem PerClamp.get_map {α β : Type} (v : PerClamp α) (a : ClampAxis) (f : ClampAxis → α → β) :
    (v.map f).get a = f a (v.get a) := by cases a <;> rfl

@[simp] theorem PerRange.get_set {α : Type} (v : PerRange α) (a b : Range) (x : α) :
    (v.set a x).get b = if a = b then x else v.get b := by cases a <;> cases b <;> rfl

theorem PerAxis.ext_get {α : Type} {v w : PerAxis α} (h : ∀ a, v.get a = w.get a) : v = w := by
  obtain ⟨x, y, z, u, b⟩ := v
  have hx := h .x; have hy := h .y; have hz := h .z; have hw := h .w; have hb := h .b
  simp only [PerAxis.get] at hx hy hz hw hb
  subst hx hy hz hw hb
  rfl

theorem PerClamp.ext_get {α : Type} {v w : PerClamp α} (h : ∀ c, v.get c = w.get c) : v = w := by
  obtain ⟨x, y, z, b⟩ := v
  have hx := h .x; have hy := h .y; have hz := h .z; have hb := h .b
  simp only [PerClamp.get] at hx hy hz hb
  subst hx hy hz hb
  rfl

/-! ## Updates -/

@[simp] theorem updAx_ax (a : Axis) (f : AxisCh → AxisCh) (s : State) : (updAx a f s).ax = s.ax.upd a f := rfl
@[simp] theorem mapAx_ax (f : Axis → AxisCh → AxisCh) (s : State) : (mapAx f s).ax = s.ax.map f := rfl
@[simp] theorem updBank_cs (a : Axis) (f : Bank → Bank) (s : State) : (updBank a f s).cs = s.cs.upd a f := rfl
@[simp] theorem updClamp_cc (c : ClampAxis) (f : Clamp → Clamp) (s : State) : (updClamp c f s).cc = s.cc.upd c f := rfl
@[simp] theorem updJog_jogs (a : Axis) (f : Jog → Jog) (s : State) : (updJog a f s).pp.jogs = s.pp.jogs.upd a f := rfl
@[simp] theorem updInp_inp (n : Fin 32) (f : InputCh → InputCh) (s : State) :
    (updInp n f s).inp = s.inp.set n (f s.inp[n]) := rfl
@[simp] theorem hydJoin_fifo (who : Requester) (op : HydOp) (s : State) :
    (hydJoin who op s).hs.fifo = s.hs.fifo ++ [⟨who, op⟩] := rfl
@[simp] theorem updCond_machine (c : Cond) (f : CondEntry → CondEntry) (s : State) :
    (updCond c f s).cn.machine = s.cn.machine := rfl
@[simp] theorem setRaw_machine (c : Cond) (b : Bool) (s : State) : (setRaw c b s).cn.machine = s.cn.machine := rfl

@[simp] theorem updAx_pending (a : Axis) (f : AxisCh → AxisCh) (s : State) : (updAx a f s).pending = s.pending := rfl
@[simp] theorem updAx_free (a : Axis) (f : AxisCh → AxisCh) (s : State) : (updAx a f s).free = s.free := rfl
@[simp] theorem updAx_sq (a : Axis) (f : AxisCh → AxisCh) (s : State) : (updAx a f s).sq = s.sq := rfl
@[simp] theorem updAx_pi (a : Axis) (f : AxisCh → AxisCh) (s : State) : (updAx a f s).pi = s.pi := rfl
@[simp] theorem updAx_cs (a : Axis) (f : AxisCh → AxisCh) (s : State) : (updAx a f s).cs = s.cs := rfl
@[simp] theorem updAx_cc (a : Axis) (f : AxisCh → AxisCh) (s : State) : (updAx a f s).cc = s.cc := rfl
@[simp] theorem updAx_hs (a : Axis) (f : AxisCh → AxisCh) (s : State) : (updAx a f s).hs = s.hs := rfl
@[simp] theorem updAx_sgu (a : Axis) (f : AxisCh → AxisCh) (s : State) : (updAx a f s).sgu = s.sgu := rfl
@[simp] theorem updAx_cu (a : Axis) (f : AxisCh → AxisCh) (s : State) : (updAx a f s).cu = s.cu := rfl
@[simp] theorem updAx_pp (a : Axis) (f : AxisCh → AxisCh) (s : State) : (updAx a f s).pp = s.pp := rfl
@[simp] theorem updAx_inp (a : Axis) (f : AxisCh → AxisCh) (s : State) : (updAx a f s).inp = s.inp := rfl
@[simp] theorem updAx_am (a : Axis) (f : AxisCh → AxisCh) (s : State) : (updAx a f s).am = s.am := rfl
@[simp] theorem updAx_cn (a : Axis) (f : AxisCh → AxisCh) (s : State) : (updAx a f s).cn = s.cn := rfl
@[simp] theorem updAx_rq (a : Axis) (f : AxisCh → AxisCh) (s : State) : (updAx a f s).rq = s.rq := rfl
@[simp] theorem updAx_hlp (a : Axis) (f : AxisCh → AxisCh) (s : State) : (updAx a f s).hlp = s.hlp := rfl

@[simp] theorem mapAx_pending (f : Axis → AxisCh → AxisCh) (s : State) : (mapAx f s).pending = s.pending := rfl
@[simp] theorem mapAx_free (f : Axis → AxisCh → AxisCh) (s : State) : (mapAx f s).free = s.free := rfl
@[simp] theorem mapAx_sq (f : Axis → AxisCh → AxisCh) (s : State) : (mapAx f s).sq = s.sq := rfl
@[simp] theorem mapAx_pi (f : Axis → AxisCh → AxisCh) (s : State) : (mapAx f s).pi = s.pi := rfl
@[simp] theorem mapAx_cs (f : Axis → AxisCh → AxisCh) (s : State) : (mapAx f s).cs = s.cs := rfl
@[simp] theorem mapAx_cc (f : Axis → AxisCh → AxisCh) (s : State) : (mapAx f s).cc = s.cc := rfl
@[simp] theorem mapAx_hs (f : Axis → AxisCh → AxisCh) (s : State) : (mapAx f s).hs = s.hs := rfl
@[simp] theorem mapAx_sgu (f : Axis → AxisCh → AxisCh) (s : State) : (mapAx f s).sgu = s.sgu := rfl
@[simp] theorem mapAx_cu (f : Axis → AxisCh → AxisCh) (s : State) : (mapAx f s).cu = s.cu := rfl
@[simp] theorem mapAx_pp (f : Axis → AxisCh → AxisCh) (s : State) : (mapAx f s).pp = s.pp := rfl
@[simp] theorem mapAx_inp (f : Axis → AxisCh → AxisCh) (s : State) : (mapAx f s).inp = s.inp := rfl
@[simp] theorem mapAx_am (f : Axis → AxisCh → AxisCh) (s : State) : (mapAx f s).am = s.am := rfl
@[simp] theorem mapAx_cn (f : Axis → AxisCh → AxisCh) (s : State) : (mapAx f s).cn = s.cn := rfl
@[simp] theorem mapAx_rq (f : Axis → AxisCh → AxisCh) (s : State) : (mapAx f s).rq = s.rq := rfl
@[simp] theorem mapAx_hlp (f : Axis → AxisCh → AxisCh) (s : State) : (mapAx f s).hlp = s.hlp := rfl

@[simp] theorem updBank_pending (a : Axis) (f : Bank → Bank) (s : State) : (updBank a f s).pending = s.pending := rfl
@[simp] theorem updBank_free (a : Axis) (f : Bank → Bank) (s : State) : (updBank a f s).free = s.free := rfl
@[simp] theorem updBank_sq (a : Axis) (f : Bank → Bank) (s : State) : (updBank a f s).sq = s.sq := rfl
@[simp] theorem updBank_pi (a : Axis) (f : Bank → Bank) (s : State) : (updBank a f s).pi = s.pi := rfl
@[simp] theorem updBank_ax (a : Axis) (f : Bank → Bank) (s : State) : (updBank a f s).ax = s.ax := rfl
@[simp] theorem updBank_cc (a : Axis) (f : Bank → Bank) (s : State) : (updBank a f s).cc = s.cc := rfl
@[simp] theorem updBank_hs (a : Axis) (f : Bank → Bank) (s : State) : (updBank a f s).hs = s.hs := rfl
@[simp] theorem updBank_sgu (a : Axis) (f : Bank → Bank) (s : State) : (updBank a f s).sgu = s.sgu := rfl
@[simp] theorem updBank_cu (a : Axis) (f : Bank → Bank) (s : State) : (updBank a f s).cu = s.cu := rfl
@[simp] theorem updBank_pp (a : Axis) (f : Bank → Bank) (s : State) : (updBank a f s).pp = s.pp := rfl
@[simp] theorem updBank_inp (a : Axis) (f : Bank → Bank) (s : State) : (updBank a f s).inp = s.inp := rfl
@[simp] theorem updBank_am (a : Axis) (f : Bank → Bank) (s : State) : (updBank a f s).am = s.am := rfl
@[simp] theorem updBank_cn (a : Axis) (f : Bank → Bank) (s : State) : (updBank a f s).cn = s.cn := rfl
@[simp] theorem updBank_rq (a : Axis) (f : Bank → Bank) (s : State) : (updBank a f s).rq = s.rq := rfl
@[simp] theorem updBank_hlp (a : Axis) (f : Bank → Bank) (s : State) : (updBank a f s).hlp = s.hlp := rfl

@[simp] theorem updClamp_pending (c : ClampAxis) (f : Clamp → Clamp) (s : State) : (updClamp c f s).pending = s.pending := rfl
@[simp] theorem updClamp_free (c : ClampAxis) (f : Clamp → Clamp) (s : State) : (updClamp c f s).free = s.free := rfl
@[simp] theorem updClamp_sq (c : ClampAxis) (f : Clamp → Clamp) (s : State) : (updClamp c f s).sq = s.sq := rfl
@[simp] theorem updClamp_pi (c : ClampAxis) (f : Clamp → Clamp) (s : State) : (updClamp c f s).pi = s.pi := rfl
@[simp] theorem updClamp_ax (c : ClampAxis) (f : Clamp → Clamp) (s : State) : (updClamp c f s).ax = s.ax := rfl
@[simp] theorem updClamp_cs (c : ClampAxis) (f : Clamp → Clamp) (s : State) : (updClamp c f s).cs = s.cs := rfl
@[simp] theorem updClamp_hs (c : ClampAxis) (f : Clamp → Clamp) (s : State) : (updClamp c f s).hs = s.hs := rfl
@[simp] theorem updClamp_sgu (c : ClampAxis) (f : Clamp → Clamp) (s : State) : (updClamp c f s).sgu = s.sgu := rfl
@[simp] theorem updClamp_cu (c : ClampAxis) (f : Clamp → Clamp) (s : State) : (updClamp c f s).cu = s.cu := rfl
@[simp] theorem updClamp_pp (c : ClampAxis) (f : Clamp → Clamp) (s : State) : (updClamp c f s).pp = s.pp := rfl
@[simp] theorem updClamp_inp (c : ClampAxis) (f : Clamp → Clamp) (s : State) : (updClamp c f s).inp = s.inp := rfl
@[simp] theorem updClamp_am (c : ClampAxis) (f : Clamp → Clamp) (s : State) : (updClamp c f s).am = s.am := rfl
@[simp] theorem updClamp_cn (c : ClampAxis) (f : Clamp → Clamp) (s : State) : (updClamp c f s).cn = s.cn := rfl
@[simp] theorem updClamp_rq (c : ClampAxis) (f : Clamp → Clamp) (s : State) : (updClamp c f s).rq = s.rq := rfl
@[simp] theorem updClamp_hlp (c : ClampAxis) (f : Clamp → Clamp) (s : State) : (updClamp c f s).hlp = s.hlp := rfl

@[simp] theorem updJog_pending (a : Axis) (f : Jog → Jog) (s : State) : (updJog a f s).pending = s.pending := rfl
@[simp] theorem updJog_free (a : Axis) (f : Jog → Jog) (s : State) : (updJog a f s).free = s.free := rfl
@[simp] theorem updJog_sq (a : Axis) (f : Jog → Jog) (s : State) : (updJog a f s).sq = s.sq := rfl
@[simp] theorem updJog_pi (a : Axis) (f : Jog → Jog) (s : State) : (updJog a f s).pi = s.pi := rfl
@[simp] theorem updJog_ax (a : Axis) (f : Jog → Jog) (s : State) : (updJog a f s).ax = s.ax := rfl
@[simp] theorem updJog_cs (a : Axis) (f : Jog → Jog) (s : State) : (updJog a f s).cs = s.cs := rfl
@[simp] theorem updJog_cc (a : Axis) (f : Jog → Jog) (s : State) : (updJog a f s).cc = s.cc := rfl
@[simp] theorem updJog_hs (a : Axis) (f : Jog → Jog) (s : State) : (updJog a f s).hs = s.hs := rfl
@[simp] theorem updJog_sgu (a : Axis) (f : Jog → Jog) (s : State) : (updJog a f s).sgu = s.sgu := rfl
@[simp] theorem updJog_cu (a : Axis) (f : Jog → Jog) (s : State) : (updJog a f s).cu = s.cu := rfl
@[simp] theorem updJog_inp (a : Axis) (f : Jog → Jog) (s : State) : (updJog a f s).inp = s.inp := rfl
@[simp] theorem updJog_am (a : Axis) (f : Jog → Jog) (s : State) : (updJog a f s).am = s.am := rfl
@[simp] theorem updJog_cn (a : Axis) (f : Jog → Jog) (s : State) : (updJog a f s).cn = s.cn := rfl
@[simp] theorem updJog_rq (a : Axis) (f : Jog → Jog) (s : State) : (updJog a f s).rq = s.rq := rfl
@[simp] theorem updJog_hlp (a : Axis) (f : Jog → Jog) (s : State) : (updJog a f s).hlp = s.hlp := rfl

@[simp] theorem updCond_pending (c : Cond) (f : CondEntry → CondEntry) (s : State) : (updCond c f s).pending = s.pending := rfl
@[simp] theorem updCond_free (c : Cond) (f : CondEntry → CondEntry) (s : State) : (updCond c f s).free = s.free := rfl
@[simp] theorem updCond_sq (c : Cond) (f : CondEntry → CondEntry) (s : State) : (updCond c f s).sq = s.sq := rfl
@[simp] theorem updCond_pi (c : Cond) (f : CondEntry → CondEntry) (s : State) : (updCond c f s).pi = s.pi := rfl
@[simp] theorem updCond_ax (c : Cond) (f : CondEntry → CondEntry) (s : State) : (updCond c f s).ax = s.ax := rfl
@[simp] theorem updCond_cs (c : Cond) (f : CondEntry → CondEntry) (s : State) : (updCond c f s).cs = s.cs := rfl
@[simp] theorem updCond_cc (c : Cond) (f : CondEntry → CondEntry) (s : State) : (updCond c f s).cc = s.cc := rfl
@[simp] theorem updCond_hs (c : Cond) (f : CondEntry → CondEntry) (s : State) : (updCond c f s).hs = s.hs := rfl
@[simp] theorem updCond_sgu (c : Cond) (f : CondEntry → CondEntry) (s : State) : (updCond c f s).sgu = s.sgu := rfl
@[simp] theorem updCond_cu (c : Cond) (f : CondEntry → CondEntry) (s : State) : (updCond c f s).cu = s.cu := rfl
@[simp] theorem updCond_pp (c : Cond) (f : CondEntry → CondEntry) (s : State) : (updCond c f s).pp = s.pp := rfl
@[simp] theorem updCond_inp (c : Cond) (f : CondEntry → CondEntry) (s : State) : (updCond c f s).inp = s.inp := rfl
@[simp] theorem updCond_am (c : Cond) (f : CondEntry → CondEntry) (s : State) : (updCond c f s).am = s.am := rfl
@[simp] theorem updCond_rq (c : Cond) (f : CondEntry → CondEntry) (s : State) : (updCond c f s).rq = s.rq := rfl
@[simp] theorem updCond_hlp (c : Cond) (f : CondEntry → CondEntry) (s : State) : (updCond c f s).hlp = s.hlp := rfl

@[simp] theorem setRaw_pending (c : Cond) (b : Bool) (s : State) : (setRaw c b s).pending = s.pending := rfl
@[simp] theorem setRaw_free (c : Cond) (b : Bool) (s : State) : (setRaw c b s).free = s.free := rfl
@[simp] theorem setRaw_sq (c : Cond) (b : Bool) (s : State) : (setRaw c b s).sq = s.sq := rfl
@[simp] theorem setRaw_pi (c : Cond) (b : Bool) (s : State) : (setRaw c b s).pi = s.pi := rfl
@[simp] theorem setRaw_ax (c : Cond) (b : Bool) (s : State) : (setRaw c b s).ax = s.ax := rfl
@[simp] theorem setRaw_cs (c : Cond) (b : Bool) (s : State) : (setRaw c b s).cs = s.cs := rfl
@[simp] theorem setRaw_cc (c : Cond) (b : Bool) (s : State) : (setRaw c b s).cc = s.cc := rfl
@[simp] theorem setRaw_hs (c : Cond) (b : Bool) (s : State) : (setRaw c b s).hs = s.hs := rfl
@[simp] theorem setRaw_sgu (c : Cond) (b : Bool) (s : State) : (setRaw c b s).sgu = s.sgu := rfl
@[simp] theorem setRaw_cu (c : Cond) (b : Bool) (s : State) : (setRaw c b s).cu = s.cu := rfl
@[simp] theorem setRaw_pp (c : Cond) (b : Bool) (s : State) : (setRaw c b s).pp = s.pp := rfl
@[simp] theorem setRaw_inp (c : Cond) (b : Bool) (s : State) : (setRaw c b s).inp = s.inp := rfl
@[simp] theorem setRaw_am (c : Cond) (b : Bool) (s : State) : (setRaw c b s).am = s.am := rfl
@[simp] theorem setRaw_rq (c : Cond) (b : Bool) (s : State) : (setRaw c b s).rq = s.rq := rfl
@[simp] theorem setRaw_hlp (c : Cond) (b : Bool) (s : State) : (setRaw c b s).hlp = s.hlp := rfl

@[simp] theorem updInp_pending (n : Fin 32) (f : InputCh → InputCh) (s : State) : (updInp n f s).pending = s.pending := rfl
@[simp] theorem updInp_free (n : Fin 32) (f : InputCh → InputCh) (s : State) : (updInp n f s).free = s.free := rfl
@[simp] theorem updInp_sq (n : Fin 32) (f : InputCh → InputCh) (s : State) : (updInp n f s).sq = s.sq := rfl
@[simp] theorem updInp_pi (n : Fin 32) (f : InputCh → InputCh) (s : State) : (updInp n f s).pi = s.pi := rfl
@[simp] theorem updInp_ax (n : Fin 32) (f : InputCh → InputCh) (s : State) : (updInp n f s).ax = s.ax := rfl
@[simp] theorem updInp_cs (n : Fin 32) (f : InputCh → InputCh) (s : State) : (updInp n f s).cs = s.cs := rfl
@[simp] theorem updInp_cc (n : Fin 32) (f : InputCh → InputCh) (s : State) : (updInp n f s).cc = s.cc := rfl
@[simp] theorem updInp_hs (n : Fin 32) (f : InputCh → InputCh) (s : State) : (updInp n f s).hs = s.hs := rfl
@[simp] theorem updInp_sgu (n : Fin 32) (f : InputCh → InputCh) (s : State) : (updInp n f s).sgu = s.sgu := rfl
@[simp] theorem updInp_cu (n : Fin 32) (f : InputCh → InputCh) (s : State) : (updInp n f s).cu = s.cu := rfl
@[simp] theorem updInp_pp (n : Fin 32) (f : InputCh → InputCh) (s : State) : (updInp n f s).pp = s.pp := rfl
@[simp] theorem updInp_am (n : Fin 32) (f : InputCh → InputCh) (s : State) : (updInp n f s).am = s.am := rfl
@[simp] theorem updInp_cn (n : Fin 32) (f : InputCh → InputCh) (s : State) : (updInp n f s).cn = s.cn := rfl
@[simp] theorem updInp_rq (n : Fin 32) (f : InputCh → InputCh) (s : State) : (updInp n f s).rq = s.rq := rfl
@[simp] theorem updInp_hlp (n : Fin 32) (f : InputCh → InputCh) (s : State) : (updInp n f s).hlp = s.hlp := rfl

@[simp] theorem updShift_pending (f : Shift → Shift) (s : State) : (updShift f s).pending = s.pending := rfl
@[simp] theorem updShift_free (f : Shift → Shift) (s : State) : (updShift f s).free = s.free := rfl
@[simp] theorem updShift_sq (f : Shift → Shift) (s : State) : (updShift f s).sq = s.sq := rfl
@[simp] theorem updShift_pi (f : Shift → Shift) (s : State) : (updShift f s).pi = s.pi := rfl
@[simp] theorem updShift_ax (f : Shift → Shift) (s : State) : (updShift f s).ax = s.ax := rfl
@[simp] theorem updShift_cs (f : Shift → Shift) (s : State) : (updShift f s).cs = s.cs := rfl
@[simp] theorem updShift_cc (f : Shift → Shift) (s : State) : (updShift f s).cc = s.cc := rfl
@[simp] theorem updShift_hs (f : Shift → Shift) (s : State) : (updShift f s).hs = s.hs := rfl
@[simp] theorem updShift_cu (f : Shift → Shift) (s : State) : (updShift f s).cu = s.cu := rfl
@[simp] theorem updShift_pp (f : Shift → Shift) (s : State) : (updShift f s).pp = s.pp := rfl
@[simp] theorem updShift_inp (f : Shift → Shift) (s : State) : (updShift f s).inp = s.inp := rfl
@[simp] theorem updShift_am (f : Shift → Shift) (s : State) : (updShift f s).am = s.am := rfl
@[simp] theorem updShift_cn (f : Shift → Shift) (s : State) : (updShift f s).cn = s.cn := rfl
@[simp] theorem updShift_rq (f : Shift → Shift) (s : State) : (updShift f s).rq = s.rq := rfl
@[simp] theorem updShift_hlp (f : Shift → Shift) (s : State) : (updShift f s).hlp = s.hlp := rfl

@[simp] theorem hydJoin_pending (who : Requester) (op : HydOp) (s : State) : (hydJoin who op s).pending = s.pending := rfl
@[simp] theorem hydJoin_free (who : Requester) (op : HydOp) (s : State) : (hydJoin who op s).free = s.free := rfl
@[simp] theorem hydJoin_sq (who : Requester) (op : HydOp) (s : State) : (hydJoin who op s).sq = s.sq := rfl
@[simp] theorem hydJoin_pi (who : Requester) (op : HydOp) (s : State) : (hydJoin who op s).pi = s.pi := rfl
@[simp] theorem hydJoin_ax (who : Requester) (op : HydOp) (s : State) : (hydJoin who op s).ax = s.ax := rfl
@[simp] theorem hydJoin_cs (who : Requester) (op : HydOp) (s : State) : (hydJoin who op s).cs = s.cs := rfl
@[simp] theorem hydJoin_cc (who : Requester) (op : HydOp) (s : State) : (hydJoin who op s).cc = s.cc := rfl
@[simp] theorem hydJoin_sgu (who : Requester) (op : HydOp) (s : State) : (hydJoin who op s).sgu = s.sgu := rfl
@[simp] theorem hydJoin_cu (who : Requester) (op : HydOp) (s : State) : (hydJoin who op s).cu = s.cu := rfl
@[simp] theorem hydJoin_pp (who : Requester) (op : HydOp) (s : State) : (hydJoin who op s).pp = s.pp := rfl
@[simp] theorem hydJoin_inp (who : Requester) (op : HydOp) (s : State) : (hydJoin who op s).inp = s.inp := rfl
@[simp] theorem hydJoin_am (who : Requester) (op : HydOp) (s : State) : (hydJoin who op s).am = s.am := rfl
@[simp] theorem hydJoin_cn (who : Requester) (op : HydOp) (s : State) : (hydJoin who op s).cn = s.cn := rfl
@[simp] theorem hydJoin_rq (who : Requester) (op : HydOp) (s : State) : (hydJoin who op s).rq = s.rq := rfl
@[simp] theorem hydJoin_hlp (who : Requester) (op : HydOp) (s : State) : (hydJoin who op s).hlp = s.hlp := rfl

@[simp] theorem hydWithdraw_pending (who : Requester) (s : State) : (hydWithdraw who s).pending = s.pending := rfl
@[simp] theorem hydWithdraw_free (who : Requester) (s : State) : (hydWithdraw who s).free = s.free := rfl
@[simp] theorem hydWithdraw_sq (who : Requester) (s : State) : (hydWithdraw who s).sq = s.sq := rfl
@[simp] theorem hydWithdraw_pi (who : Requester) (s : State) : (hydWithdraw who s).pi = s.pi := rfl
@[simp] theorem hydWithdraw_ax (who : Requester) (s : State) : (hydWithdraw who s).ax = s.ax := rfl
@[simp] theorem hydWithdraw_cs (who : Requester) (s : State) : (hydWithdraw who s).cs = s.cs := rfl
@[simp] theorem hydWithdraw_cc (who : Requester) (s : State) : (hydWithdraw who s).cc = s.cc := rfl
@[simp] theorem hydWithdraw_sgu (who : Requester) (s : State) : (hydWithdraw who s).sgu = s.sgu := rfl
@[simp] theorem hydWithdraw_cu (who : Requester) (s : State) : (hydWithdraw who s).cu = s.cu := rfl
@[simp] theorem hydWithdraw_pp (who : Requester) (s : State) : (hydWithdraw who s).pp = s.pp := rfl
@[simp] theorem hydWithdraw_inp (who : Requester) (s : State) : (hydWithdraw who s).inp = s.inp := rfl
@[simp] theorem hydWithdraw_am (who : Requester) (s : State) : (hydWithdraw who s).am = s.am := rfl
@[simp] theorem hydWithdraw_cn (who : Requester) (s : State) : (hydWithdraw who s).cn = s.cn := rfl
@[simp] theorem hydWithdraw_rq (who : Requester) (s : State) : (hydWithdraw who s).rq = s.rq := rfl
@[simp] theorem hydWithdraw_hlp (who : Requester) (s : State) : (hydWithdraw who s).hlp = s.hlp := rfl

@[simp] theorem hydReturn_pending (who : Requester) (s : State) : (hydReturn who s).pending = s.pending := by unfold hydReturn; (repeat' split) <;> rfl
@[simp] theorem hydReturn_free (who : Requester) (s : State) : (hydReturn who s).free = s.free := by unfold hydReturn; (repeat' split) <;> rfl
@[simp] theorem hydReturn_sq (who : Requester) (s : State) : (hydReturn who s).sq = s.sq := by unfold hydReturn; (repeat' split) <;> rfl
@[simp] theorem hydReturn_pi (who : Requester) (s : State) : (hydReturn who s).pi = s.pi := by unfold hydReturn; (repeat' split) <;> rfl
@[simp] theorem hydReturn_ax (who : Requester) (s : State) : (hydReturn who s).ax = s.ax := by unfold hydReturn; (repeat' split) <;> rfl
@[simp] theorem hydReturn_cs (who : Requester) (s : State) : (hydReturn who s).cs = s.cs := by unfold hydReturn; (repeat' split) <;> rfl
@[simp] theorem hydReturn_cc (who : Requester) (s : State) : (hydReturn who s).cc = s.cc := by unfold hydReturn; (repeat' split) <;> rfl
@[simp] theorem hydReturn_sgu (who : Requester) (s : State) : (hydReturn who s).sgu = s.sgu := by unfold hydReturn; (repeat' split) <;> rfl
@[simp] theorem hydReturn_cu (who : Requester) (s : State) : (hydReturn who s).cu = s.cu := by unfold hydReturn; (repeat' split) <;> rfl
@[simp] theorem hydReturn_pp (who : Requester) (s : State) : (hydReturn who s).pp = s.pp := by unfold hydReturn; (repeat' split) <;> rfl
@[simp] theorem hydReturn_inp (who : Requester) (s : State) : (hydReturn who s).inp = s.inp := by unfold hydReturn; (repeat' split) <;> rfl
@[simp] theorem hydReturn_am (who : Requester) (s : State) : (hydReturn who s).am = s.am := by unfold hydReturn; (repeat' split) <;> rfl
@[simp] theorem hydReturn_cn (who : Requester) (s : State) : (hydReturn who s).cn = s.cn := by unfold hydReturn; (repeat' split) <;> rfl
@[simp] theorem hydReturn_rq (who : Requester) (s : State) : (hydReturn who s).rq = s.rq := by unfold hydReturn; (repeat' split) <;> rfl
@[simp] theorem hydReturn_hlp (who : Requester) (s : State) : (hydReturn who s).hlp = s.hlp := by unfold hydReturn; (repeat' split) <;> rfl

@[simp] theorem queueReport_pending (k : Report) (s : State) : (queueReport k s).pending = s.pending := by unfold queueReport; split <;> rfl
@[simp] theorem queueReport_free (k : Report) (s : State) : (queueReport k s).free = s.free := by unfold queueReport; split <;> rfl
@[simp] theorem queueReport_sq (k : Report) (s : State) : (queueReport k s).sq = s.sq := by unfold queueReport; split <;> rfl
@[simp] theorem queueReport_pi (k : Report) (s : State) : (queueReport k s).pi = s.pi := by unfold queueReport; split <;> rfl
@[simp] theorem queueReport_ax (k : Report) (s : State) : (queueReport k s).ax = s.ax := by unfold queueReport; split <;> rfl
@[simp] theorem queueReport_cs (k : Report) (s : State) : (queueReport k s).cs = s.cs := by unfold queueReport; split <;> rfl
@[simp] theorem queueReport_cc (k : Report) (s : State) : (queueReport k s).cc = s.cc := by unfold queueReport; split <;> rfl
@[simp] theorem queueReport_hs (k : Report) (s : State) : (queueReport k s).hs = s.hs := by unfold queueReport; split <;> rfl
@[simp] theorem queueReport_sgu (k : Report) (s : State) : (queueReport k s).sgu = s.sgu := by unfold queueReport; split <;> rfl
@[simp] theorem queueReport_cu (k : Report) (s : State) : (queueReport k s).cu = s.cu := by unfold queueReport; split <;> rfl
@[simp] theorem queueReport_pp (k : Report) (s : State) : (queueReport k s).pp = s.pp := by unfold queueReport; split <;> rfl
@[simp] theorem queueReport_inp (k : Report) (s : State) : (queueReport k s).inp = s.inp := by unfold queueReport; split <;> rfl
@[simp] theorem queueReport_am (k : Report) (s : State) : (queueReport k s).am = s.am := by unfold queueReport; split <;> rfl
@[simp] theorem queueReport_cn (k : Report) (s : State) : (queueReport k s).cn = s.cn := by unfold queueReport; split <;> rfl
@[simp] theorem queueReport_hlp (k : Report) (s : State) : (queueReport k s).hlp = s.hlp := by unfold queueReport; split <;> rfl

/-! ## Raises without their reaction -/

@[simp] theorem latch_pending (c : Cond) (q : Nat) (v : Int) (s : State) : (latch c q v s).pending = s.pending := by simp [latch]
@[simp] theorem latch_free (c : Cond) (q : Nat) (v : Int) (s : State) : (latch c q v s).free = s.free := by simp [latch]
@[simp] theorem latch_sq (c : Cond) (q : Nat) (v : Int) (s : State) : (latch c q v s).sq = s.sq := by simp [latch]
@[simp] theorem latch_pi (c : Cond) (q : Nat) (v : Int) (s : State) : (latch c q v s).pi = s.pi := by simp [latch]
@[simp] theorem latch_ax (c : Cond) (q : Nat) (v : Int) (s : State) : (latch c q v s).ax = s.ax := by simp [latch]
@[simp] theorem latch_cs (c : Cond) (q : Nat) (v : Int) (s : State) : (latch c q v s).cs = s.cs := by simp [latch]
@[simp] theorem latch_cc (c : Cond) (q : Nat) (v : Int) (s : State) : (latch c q v s).cc = s.cc := by simp [latch]
@[simp] theorem latch_hs (c : Cond) (q : Nat) (v : Int) (s : State) : (latch c q v s).hs = s.hs := by simp [latch]
@[simp] theorem latch_sgu (c : Cond) (q : Nat) (v : Int) (s : State) : (latch c q v s).sgu = s.sgu := by simp [latch]
@[simp] theorem latch_cu (c : Cond) (q : Nat) (v : Int) (s : State) : (latch c q v s).cu = s.cu := by simp [latch]
@[simp] theorem latch_pp (c : Cond) (q : Nat) (v : Int) (s : State) : (latch c q v s).pp = s.pp := by simp [latch]
@[simp] theorem latch_inp (c : Cond) (q : Nat) (v : Int) (s : State) : (latch c q v s).inp = s.inp := by simp [latch]
@[simp] theorem latch_am (c : Cond) (q : Nat) (v : Int) (s : State) : (latch c q v s).am = s.am := by simp [latch]
@[simp] theorem latch_hlp (c : Cond) (q : Nat) (v : Int) (s : State) : (latch c q v s).hlp = s.hlp := by simp [latch]
@[simp] theorem latch_machine (c : Cond) (q : Nat) (v : Int) (s : State) : (latch c q v s).cn.machine = s.cn.machine := by simp [latch]

@[simp] theorem fall_pending (c : Cond) (s : State) : (fall c s).pending = s.pending := by unfold fall; split <;> simp
@[simp] theorem fall_free (c : Cond) (s : State) : (fall c s).free = s.free := by unfold fall; split <;> simp
@[simp] theorem fall_sq (c : Cond) (s : State) : (fall c s).sq = s.sq := by unfold fall; split <;> simp
@[simp] theorem fall_pi (c : Cond) (s : State) : (fall c s).pi = s.pi := by unfold fall; split <;> simp
@[simp] theorem fall_ax (c : Cond) (s : State) : (fall c s).ax = s.ax := by unfold fall; split <;> simp
@[simp] theorem fall_cs (c : Cond) (s : State) : (fall c s).cs = s.cs := by unfold fall; split <;> simp
@[simp] theorem fall_cc (c : Cond) (s : State) : (fall c s).cc = s.cc := by unfold fall; split <;> simp
@[simp] theorem fall_hs (c : Cond) (s : State) : (fall c s).hs = s.hs := by unfold fall; split <;> simp
@[simp] theorem fall_sgu (c : Cond) (s : State) : (fall c s).sgu = s.sgu := by unfold fall; split <;> simp
@[simp] theorem fall_cu (c : Cond) (s : State) : (fall c s).cu = s.cu := by unfold fall; split <;> simp
@[simp] theorem fall_pp (c : Cond) (s : State) : (fall c s).pp = s.pp := by unfold fall; split <;> simp
@[simp] theorem fall_inp (c : Cond) (s : State) : (fall c s).inp = s.inp := by unfold fall; split <;> simp
@[simp] theorem fall_am (c : Cond) (s : State) : (fall c s).am = s.am := by unfold fall; split <;> simp
@[simp] theorem fall_hlp (c : Cond) (s : State) : (fall c s).hlp = s.hlp := by unfold fall; split <;> simp
@[simp] theorem fall_machine (c : Cond) (s : State) : (fall c s).cn.machine = s.cn.machine := by unfold fall; split <;> simp

@[simp] theorem riseNote_pending (c : Cond) (q : Nat) (v : Int) (s : State) : (riseNote c q v s).pending = s.pending := by unfold riseNote; split <;> simp
@[simp] theorem riseNote_free (c : Cond) (q : Nat) (v : Int) (s : State) : (riseNote c q v s).free = s.free := by unfold riseNote; split <;> simp
@[simp] theorem riseNote_sq (c : Cond) (q : Nat) (v : Int) (s : State) : (riseNote c q v s).sq = s.sq := by unfold riseNote; split <;> simp
@[simp] theorem riseNote_pi (c : Cond) (q : Nat) (v : Int) (s : State) : (riseNote c q v s).pi = s.pi := by unfold riseNote; split <;> simp
@[simp] theorem riseNote_ax (c : Cond) (q : Nat) (v : Int) (s : State) : (riseNote c q v s).ax = s.ax := by unfold riseNote; split <;> simp
@[simp] theorem riseNote_cs (c : Cond) (q : Nat) (v : Int) (s : State) : (riseNote c q v s).cs = s.cs := by unfold riseNote; split <;> simp
@[simp] theorem riseNote_cc (c : Cond) (q : Nat) (v : Int) (s : State) : (riseNote c q v s).cc = s.cc := by unfold riseNote; split <;> simp
@[simp] theorem riseNote_hs (c : Cond) (q : Nat) (v : Int) (s : State) : (riseNote c q v s).hs = s.hs := by unfold riseNote; split <;> simp
@[simp] theorem riseNote_sgu (c : Cond) (q : Nat) (v : Int) (s : State) : (riseNote c q v s).sgu = s.sgu := by unfold riseNote; split <;> simp
@[simp] theorem riseNote_cu (c : Cond) (q : Nat) (v : Int) (s : State) : (riseNote c q v s).cu = s.cu := by unfold riseNote; split <;> simp
@[simp] theorem riseNote_pp (c : Cond) (q : Nat) (v : Int) (s : State) : (riseNote c q v s).pp = s.pp := by unfold riseNote; split <;> simp
@[simp] theorem riseNote_inp (c : Cond) (q : Nat) (v : Int) (s : State) : (riseNote c q v s).inp = s.inp := by unfold riseNote; split <;> simp
@[simp] theorem riseNote_am (c : Cond) (q : Nat) (v : Int) (s : State) : (riseNote c q v s).am = s.am := by unfold riseNote; split <;> simp
@[simp] theorem riseNote_hlp (c : Cond) (q : Nat) (v : Int) (s : State) : (riseNote c q v s).hlp = s.hlp := by unfold riseNote; split <;> simp
@[simp] theorem riseNote_machine (c : Cond) (q : Nat) (v : Int) (s : State) : (riseNote c q v s).cn.machine = s.cn.machine := by unfold riseNote; split <;> simp

end Sys2Proof.Machine
end

