-- ==== Sys2Proof/Laws/Ops.lean ====
section
/-! SUPPORT. What each shared operation does, said once: arithmetic, the condition table, the report queue, raises, and
the end of a command. -/

namespace Sys2Proof.Machine

/-! ## Arithmetic -/

theorem clampInt_range {lo hi : Int} (h : lo ≤ hi) (z : Int) : lo ≤ clampInt lo hi z ∧ clampInt lo hi z ≤ hi := by
  unfold clampInt; omega

theorem clampInt_of_mem {lo hi z : Int} (h1 : lo ≤ z) (h2 : z ≤ hi) : clampInt lo hi z = z := by
  unfold clampInt; omega

/-- `approach` moves by at most the step, toward the target, and never past it. -/
theorem approach_spec (v t : Int) {d : Int} (hd : 0 ≤ d) :
    (v ≤ t → v ≤ approach v t d ∧ approach v t d ≤ t ∧ approach v t d ≤ v + d) ∧
      (t ≤ v → t ≤ approach v t d ∧ approach v t d ≤ v ∧ v - d ≤ approach v t d) := by
  unfold approach; split <;> omega

/-- `rateToward` moves by at most the step, toward the target, and never past it. -/
theorem rateToward_spec (r t d : Nat) :
    (r ≤ t → r ≤ rateToward r t d ∧ rateToward r t d ≤ t ∧ rateToward r t d ≤ r + d) ∧
      (t ≤ r → t ≤ rateToward r t d ∧ rateToward r t d ≤ r ∧ r - d ≤ rateToward r t d) := by
  unfold rateToward; split <;> omega

theorem fit32_of_mem {z : Int} (h1 : -2147483648 ≤ z) (h2 : z ≤ 2147483647) : fit32 z = z := by
  unfold fit32; simp [h1, h2]

/-- A 32-bit quantity stays in its format whatever the exact result (entry 2). -/
theorem fit32_range (z : Int) : -2147483648 ≤ fit32 z ∧ fit32 z ≤ 2147483647 := by
  unfold fit32; split
  · assumption
  · have h1 := BitVec.le_toInt (Config.overflow32 z)
    have h2 := BitVec.toInt_lt (x := Config.overflow32 z)
    norm_num at h1 h2
    omega

theorem circDist_comm (n a b : Nat) : circDist n a b = circDist n b a := by
  unfold circDist; dsimp only; rw [min_comm]

/-! ## Homing switches and jogs -/

/-- The home switch ends SEARCH, and nothing else happens. -/
theorem searchSwitch_cases (a : Axis) (s : State) :
    ((s.ax.get a).phase = .search ∧ homeSwitch s a = true ∧
      searchSwitch a s = updAx a (fun k => { k with phase := .searchStop }) s) ∨ searchSwitch a s = s := by
  unfold searchSwitch; split
  · rename_i h; exact .inl ⟨h.1, h.2, rfl⟩
  · exact .inr rfl

/-- At or beyond the limit ahead a jog keeps its setpoint and its remainder, and its velocity goes toward 0. -/
theorem jogLimited_beyond {target : Int} {step a : Nat} {limit sp : Int} {plus : Bool} {j : Jog}
    (h : 0 ≤ (if plus then (1 : Int) else -1) * (sp - limit)) :
    jogLimited target step a limit plus sp j = (sp, { j with vel := approach j.vel 0 step, brk := false }) := by
  unfold jogLimited; simp only [h, if_true]

/-- A press that starts a jog keeps its velocity and its remainder. -/
@[simp] theorem startJog_profile (a : Axis) (d : JogDir) (s : State) :
    ((startJog a d s).pp.jogs.get a).vel = (s.pp.jogs.get a).vel ∧
      ((startJog a d s).pp.jogs.get a).rem = (s.pp.jogs.get a).rem ∧ ((startJog a d s).pp.jogs.get a).brk = false := by
  cases a <;> exact ⟨rfl, rfl, rfl⟩

/-! ## The condition table -/

theorem axisIdx_inj {a b : Axis} (h : axisIdx a = axisIdx b) : a = b := by
  revert h; cases a <;> cases b <;> decide

theorem Cond.place_inj {c d : Cond} (h : c.place = d.place) : c = d := by
  have e : ∀ c : Cond, allConds[c.place]? = some c := by
    intro c
    cases c with
    | followingError x => cases x with
      | axis a => cases a <;> rfl
      | spindle => rfl
    | driveSaturated x => cases x with
      | axis a => cases a <;> rfl
      | spindle => rfl
    | hardLimit a => cases a <;> rfl
    | softLimit a => cases a <;> rfl
    | notReferenced a => cases a <;> rfl
    | referenceFailed a => cases a <;> rfl
    | clampFault k => cases k <;> rfl
    | clampLost k => cases k <;> rfl
    | _ => rfl
  have h1 := e c
  rw [h, e d] at h1
  exact (Option.some.inj h1).symm

theorem Cond.index_inj {c d : Cond} (h : c.index = d.index) : c = d :=
  Cond.place_inj (congrArg Fin.val h)

@[simp] theorem condEntry_updCond (c d : Cond) (f : CondEntry → CondEntry) (s : State) :
    condEntry (updCond c f s) d = if c = d then f (condEntry s d) else condEntry s d := by
  unfold condEntry updCond
  by_cases h : c = d
  · subst h; simp
  · have hp : c.index.val ≠ d.index.val := fun e => h (Cond.index_inj (Fin.ext e))
    simp only [h, if_false]
    exact Vector.getElem_set_ne _ _ hp

@[simp] theorem condEntry_queueReport (k : Report) (d : Cond) (s : State) :
    condEntry (queueReport k s) d = condEntry s d := by unfold condEntry; rw [queueReport_cn]

/-- A raise without its reaction (R195 steps 1 to 3): the entry is latched with the time, the seq and the value, its
raw stays, and no other entry changes. -/
theorem condEntry_latch (c d : Cond) (q : Nat) (v : Int) (s : State) :
    condEntry (latch c q v s) d =
      if c = d then { condEntry s d with latched := true, last := some ⟨s.hlp.ms, q, fit32 v⟩ }
      else condEntry s d := by simp [latch]

/-- The fall of a level entry's raw (R194). -/
theorem condEntry_fall (c d : Cond) (s : State) :
    condEntry (fall c s) d = if c = d then { condEntry s d with raw := false } else condEntry s d := by
  unfold fall rawOf
  split
  · simp [setRaw]
  · rename_i h
    by_cases e : c = d
    · subst e
      simp only [if_true]
      simp only [Bool.not_eq_true] at h
      rw [← h]
    · simp [e]

/-! ## The report queue (R204) -/

theorem queueReport_rq_lt (k : Report) {s : State} (h : s.rq.length < 32) :
    (queueReport k s).rq = s.rq ++ [⟨k, s.hlp.ms, 0⟩] := by unfold queueReport; rw [if_pos h]

theorem queueReport_rq_full (k : Report) {s : State} (h : 32 ≤ s.rq.length) :
    (queueReport k s).rq =
      s.rq.dropLast ++ [⟨k, s.hlp.ms, min 65535 ((s.rq.getLast?.map fun e => e.overran).getD 0 + 1)⟩] := by
  unfold queueReport; rw [if_neg (by omega)]

/-- A report queued is one more entry up to 32, and its fields stand in the newest one. -/
theorem queueReport_spec (k : Report) (s : State) :
    (queueReport k s).rq.length = (if s.rq.length < 32 then s.rq.length + 1 else s.rq.length) ∧
      ∃ n, (queueReport k s).rq.getLast? = some ⟨k, s.hlp.ms, n⟩ := by
  unfold queueReport
  split
  · simp
  · rename_i h
    have : s.rq ≠ [] := by intro e; simp [e] at h
    simp only [List.length_append, List.length_dropLast, List.length_singleton]
    refine ⟨by omega, ?_⟩
    simp

/-! ## The end of a command -/

/-- After the interlock TSC flows only under its permit (R146). -/
theorem tscGuard_permit (s : State) : ¬(tscFlows (tscGuard s) = true ∧ permit (tscGuard s) = false) := by
  unfold tscGuard
  split
  · rintro ⟨h, -⟩; cases h
  · rename_i h
    simp only [Bool.and_eq_true, Bool.not_eq_true', not_and, Bool.not_eq_false] at h
    rintro ⟨h1, h2⟩
    rw [h h1] at h2; cases h2

@[simp] theorem transmit_of_some {s : State} {f : TxFrame} (h : s.hlp.tx = some f) : transmit s = s := by
  unfold transmit; rw [h]

theorem pendantSend_of_not_due {s : State} (h : s.pp.answerDue = false) : pendantSend s = s := by
  unfold pendantSend
  split
  · rw [if_neg (by simp [h])]
  · rfl

/-- The two transmitters change no field but their own, the display flags and the due answer. -/
theorem finish_tsc (s : State) : ¬(tscFlows (finish s) = true ∧ permit (finish s) = false) := by
  have hp : ∀ u : State, (pendantSend u).cu = u.cu ∧ (pendantSend u).sgu = u.sgu := by
    intro u; unfold pendantSend; (repeat' split) <;> exact ⟨rfl, rfl⟩
  have ht : ∀ u : State, (transmit u).cu = u.cu ∧ (transmit u).sgu = u.sgu := by
    intro u; unfold transmit; (repeat' split) <;> exact ⟨rfl, rfl⟩
  have hc : (finish s).cu = (quiesce s).cu := (ht _).1.trans (hp _).1
  have hs : (finish s).sgu = (quiesce s).sgu := (ht _).2.trans (hp _).2
  have h := tscGuard_permit (settle 512 s)
  unfold tscFlows permit engagedRange turning at h ⊢
  rw [hc, hs]
  exact h

end Sys2Proof.Machine
end

