-- ==== Sys2Proof/WellFormed.lean ====
section
/-! DEFINITION. Which terms of `Instr` a link or a pin can bring: every number fits its field on the wire (Tables 11-3
to 11-10), every frame has the length its LENGTH byte gives, and every record list is one the walk of R212 can yield. -/

namespace Sys2Proof

/-- The number fits n values. -/
def fits (n v : Nat) : Bool := decide (v < n)

/-- The optional number fits n values. -/
def fitsOpt (n : Nat) (v : Option Nat) : Bool := v.all (fits n)

/-- The signed number fits 16 bits. -/
def fitsI16 (z : Int) : Bool := decide (-32768 ≤ z ∧ z ≤ 32767)

/-- The signed number fits 32 bits. -/
def fitsI32 (z : Int) : Bool := decide (-2147483648 ≤ z ∧ z ≤ 2147483647)

/-- The number of axes of an axis mask of five bits. -/
def maskCount (mask : Nat) : Nat :=
  (mask % 2) + (mask / 2 % 2) + (mask / 4 % 2) + (mask / 8 % 2) + (mask / 16 % 2)

/-- A record of an APPEND body fits its fields (Table 11-7). -/
def RawRec.wf : RawRec → Bool
  | .move seq control mask n sRef ends =>
    fits 65536 seq && fits 256 control && control % 4 != 3 && fits 32 mask && fits 65536 n &&
      fitsOpt 65536 sRef && sRef.isSome == (control % 4 == 2) && ends.length == maskCount mask &&
      ends.all fitsI32
  | .dwell seq n => fits 65536 seq && fits 65536 n
  | .spindle seq speed flags => fits 65536 seq && fits 65536 speed && fits 256 flags
  | .gear seq r => fits 65536 seq && fits 256 r
  | .coolant seq channels flags pressure =>
    fits 65536 seq && fits 256 channels && fits 256 flags && fitsOpt 65536 pressure &&
      pressure.isSome == (flags / 2 % 2 == 1)
  | .clamp seq axis action => fits 65536 seq && fits 256 axis && fits 256 action
  | .mark seq flags => fits 65536 seq && fits 256 flags
  | .bad code => fits 256 code && (code ≤ 1 || 7 < code)

/-- The record stops the walk (R212). -/
def RawRec.isBad : RawRec → Bool
  | .bad _ => true
  | _ => false

/-- The records that the walk of an APPEND body yields for a count (R212): none for a count outside 1 to 8; else
the count of records, or fewer with a bad one at the end. -/
def walkWf (count : Nat) (recs : List RawRec) : Bool :=
  if count < 1 ∨ 8 < count then recs.isEmpty
  else
    recs.all RawRec.wf && (recs.dropLast.all fun r => !r.isBad) &&
      (if recs.length = count then true else decide (recs.length < count) && (recs.getLast?.any RawRec.isBad))

/-- The KINDs of Table 11-4. -/
def requestKinds : List Nat :=
  [0x01, 0x02, 0x03, 0x04, 0x05, 0x06, 0x07, 0x10, 0x11, 0x12, 0x13, 0x14, 0x15, 0x16, 0x17, 0x18, 0x19, 0x1A,
   0x1B, 0x1C, 0x1D, 0x1E, 0x20, 0x21, 0x22, 0x23, 0x24, 0x28, 0x29, 0x2A, 0x2C, 0x2D]

/-- The bytes have the number that their LENGTH byte gives: LENGTH itself, KIND to the end of the body, two CRC
bytes (R209). -/
def frameLength (bytes : List Byte) : Bool :=
  match bytes with
  | [] => false
  | len :: rest => rest.length == len.toNat + 2

/-- The commands that can come (R207, R209 to R212, Table 11-10). -/
def Instr.wf : Instr → Bool
  | .hardwareReset cause _ _ _ => cause != .host
  | .hostFrameReceived bytes => frameLength bytes && bytes.head?.any fun len => decide (2 ≤ len.toNat ∧ len.toNat ≤ 250)
  | .unknownKind kind tag => fits 64 kind && kind != 0 && !requestKinds.contains kind && fits 256 tag
  | .identify tag | .status tag | .resetTrip tag | .restart tag | .start tag | .hold tag | .resume tag | .stop tag
  | .flush tag | .queueStatus tag | .spindleSetStop tag | .spindleSetNone tag | .meshTableRead tag
  | .meshTableClear tag | .lineTest tag | .pendantStatus tag | .inputRead tag | .analogRead tag => fits 256 tag
  | .ackConditions tag flag pairs =>
    fits 256 tag && fits 256 flag && (flag == 0 || pairs.isEmpty) && fits 124 pairs.length &&
      pairs.all fun p => fits 256 p.1 && fits 256 p.2
  | .setParam tag id inst value => fits 256 tag && fits 65536 id && fits 256 inst && fitsI32 value
  | .getParam tag id inst => fits 256 tag && fits 65536 id && fits 256 inst
  | .append tag count recs => fits 256 tag && fits 256 count && walkWf count recs
  | .setOverride tag feed rapid spindle source =>
    fits 256 tag && fitsOpt 65536 feed && fitsOpt 65536 rapid && fitsOpt 65536 spindle && fitsOpt 256 source
  | .home tag axis | .axisStatus tag axis | .compClear tag axis | .clampSetClamp tag axis | .clampSetRelease tag axis
  | .clampSetNone tag axis => fits 256 tag && fits 256 axis
  | .compLoad tag axis first values =>
    fits 256 tag && fits 256 axis && fits 256 first && fits 123 values.length && values.all fitsI16
  | .compCommit tag axis count origin spacing mode check =>
    fits 256 tag && fits 256 axis && fits 256 count && fitsI32 origin &&
      decide (0 ≤ spacing ∧ spacing < 4294967296) && fits 256 mode && fits 65536 check
  | .compRead tag axis first count => fits 256 tag && fits 256 axis && fits 256 first && fits 256 count
  | .spindleSetRun tag speed dir => fits 256 tag && fits 65536 speed && fits 256 dir
  | .gearSelect tag range => fits 256 tag && fits 256 range
  | .coolantSet tag flood tsc mist pressure =>
    fits 256 tag && fits 256 flood && fits 256 tsc && fits 256 mist && fitsOpt 65536 pressure
  | .pendantText tag line chars => fits 256 tag && fits 256 line && chars.length == 20 && chars.all (fits 256)
  | .analogConversion counts => fits 4096 counts
  | .pendantFrame bytes => frameLength bytes
  | .lengthOutOfRange len => decide (len.toNat < 2 ∨ 250 < len.toNat)
  | .frameGapTimeout _ | .replySent | .reportSent | .restartTeardown | .moveStart | .pathPeriod | .dwellEnd
  | .axisIndexEdge _ | .spindleIndexEdge | .inputRawChange _ _ | .inputFilterTimeReached _ | .idleClamp _
  | .releaseTimeout _ | .clampTimeout _ | .pumpOffDelay | .hydStartTimeout | .prepareTimeout | .positionTimeout
  | .strokeTimeout | .meshDwellEnd | .settleTimeReached | .spindleOverload | .oilGraceEnd | .floodProveTimeout
  | .floodDryTimeout | .tscRampTimeout | .suspendKeepEnd | .purgeEnd | .tscDryTimeout | .pendantFrameGap _
  | .handwheelInterval | .pendantAnswerSent | .pendantTimeout | .enableMismatch | .refuseTimerEnd | .clipTimerEnd
  | .lineTestWaitEnd | .lineTestActivity | .lineTestListenEnd | .lineTestReflection _ _ | .lineTestEchoWindowEnd
  | .encoderEdge _ _ | .spindleEncoderEdge _ => true

end Sys2Proof
end

