-- ==== Sys2Proof/Tests/Slice0.lean ====
section
/-! SUPPORT. Tests. First the ill-formed terms that each check of WellFormed.lean refuses; then, for each statement with
hypotheses, a state and operands that meet them; then values that the spec works out, and one step of some commands. -/

namespace Sys2Proof.Tests
open Sys2Proof Sys2Proof.Machine

/- One theorem at a time: a thread for each would need more memory than the check allows. -/
set_option Elab.async false

/-! ## Well-formedness -/

theorem test_wf_takes_a_request : (Instr.setParam 255 65535 5 (-2147483648)).wf = true := by decide
theorem test_wf_tag : (Instr.identify 256).wf = false := by decide
theorem test_wf_reset_cause : (Instr.hardwareReset .host false false 0).wf = false := by decide
theorem test_wf_frame_length : (Instr.hostFrameReceived [0x03, 0x01, 0x00, 0x00, 0x00]).wf = false := by decide
theorem test_wf_frame_short : (Instr.hostFrameReceived [0x01, 0x01, 0x00, 0x00]).wf = false := by decide
theorem test_wf_known_kind : (Instr.unknownKind 0x11 0).wf = false := by decide
theorem test_wf_kind_above_3F : (Instr.unknownKind 0x40 0).wf = false := by decide
theorem test_wf_ack_pairs_with_all : (Instr.ackConditions 0 1 [(1, 0)]).wf = false := by decide
theorem test_wf_ack_pair_byte : (Instr.ackConditions 0 0 [(1, 256)]).wf = false := by decide
theorem test_wf_param_value : (Instr.setParam 0 0 0 2147483648).wf = false := by decide
theorem test_wf_param_id : (Instr.getParam 0 65536 0).wf = false := by decide
theorem test_wf_walk_count : (Instr.append 0 9 [.mark 0 0]).wf = false := by decide
theorem test_wf_walk_stops_early : (Instr.append 0 2 [.mark 0 0]).wf = false := by decide
theorem test_wf_walk_goes_past_bad : (Instr.append 0 2 [.bad 9, .mark 0 0]).wf = false := by decide
theorem test_wf_bad_of_known_kind : (Instr.append 0 1 [.bad 5]).wf = false := by decide
theorem test_wf_move_ends : (Instr.append 0 1 [.move 1 0 3 10 none [5]]).wf = false := by decide
theorem test_wf_move_sRef : (Instr.append 0 1 [.move 1 2 1 10 none [5]]).wf = false := by decide
theorem test_wf_coolant_pressure : (Instr.append 0 1 [.coolant 1 1 0 (some 300)]).wf = false := by decide
theorem test_wf_override : (Instr.setOverride 0 (some 65536) none none none).wf = false := by decide
theorem test_wf_point : (Instr.compLoad 0 0 0 [32768]).wf = false := by decide
theorem test_wf_spacing : (Instr.compCommit 0 0 2 0 (-1) 0 0).wf = false := by decide
theorem test_wf_read_count : (Instr.compRead 0 0 0 256).wf = false := by decide
theorem test_wf_speed : (Instr.spindleSetRun 0 65536 0).wf = false := by decide
theorem test_wf_range : (Instr.gearSelect 0 256).wf = false := by decide
theorem test_wf_pressure : (Instr.coolantSet 0 1 1 1 (some 65536)).wf = false := by decide
theorem test_wf_text_length : (Instr.pendantText 0 1 [0x41]).wf = false := by decide
theorem test_wf_counts : (Instr.analogConversion 4096).wf = false := by decide
theorem test_wf_pendant_frame : (Instr.pendantFrame [0x09]).wf = false := by decide
theorem test_wf_length_in_range : (Instr.lengthOutOfRange 2).wf = false := by decide

/-- No row of the table has bits. -/
theorem test_decode_spells_nothing : decodeTableWord 8 1 = none := rfl

/-! ## States of the tests -/

/-- Nothing follows in the state, as a Bool. -/
def isStill (s : State) : Bool := (rules s).isNone && !s.pp.answerDue

theorem still_of_isStill {s : State} (h : isStill s = true) : Still s := by
  unfold isStill at h
  simp only [Bool.and_eq_true, Option.isNone_iff_eq_none, Bool.not_eq_true'] at h
  exact h

/-- A READY machine with an empty condition table and the gear in FAULT. -/
def ready : State := { State.reset with cn := ⟨.ready, Vector.replicate 62 .clear⟩, sgu.gear := .fault }

/-- A TRIPPED machine with an empty condition table. -/
def tripped : State := { ready with cn.machine := .tripped }

/-- A READY machine whose gear is ENGAGED in range 2: A_HI and B_LO are on, and so is the drive's ready input. -/
def engaged : State :=
  { ready with
    sgu.gear := .engaged .r2
    inp := Vector.ofFn fun i => ⟨i.val == 26 || i.val == 27 || i.val == 2, i.val == 26 || i.val == 27 || i.val == 2, true, 20,
      5⟩ }

/-- The spindle turns in range 2 at 300 rpm. -/
def turningState : State :=
  { engaged with sgu.st := .atSpeed, sgu.sAct := 300, sgu.target := 300, sgu.reqSpeed := 300, sgu.ramped := 300000 }

/-- The queue in the state given. -/
def queueIn (q : QState) (s : State) : State := { s with sq.st := q }

/-- The queue moves in the state given. -/
def moving (q : QState) : State := { queueIn q ready with pi.r := 65536 }

/-- A running timer at its limit. -/
def atLimit : Timer := ⟨true, 5, 5⟩

/-- A shift to range 3 at an attempt, its stroke begun at 100. -/
def shiftAt (n : Nat) : Shift :=
  { target := .r3, origin := 7, cyl := .a, attA := n, attB := 0, startA := some 100, startB := none, keyA := none,
    keyB := none, entry := none, total := n, late := false }

/-- A status frame at rest with the enable given. -/
def frameOfEnable (e : Enable) : StatusFrame :=
  { seq := 3, counter := 0, sel := none, mult := .m1, jogP := false, jogM := false, rapid := false, hold := false,
    start := false, flood := false, enable := e, knob := 100, estop := false }

/-- The pendant is PRESENT with a last frame whose timers stand at their limits. -/
def pendantIn (e : Enable) : State :=
  { ready with pp.st := .present, pp.last := some (frameOfEnable e), pp.seen := true, pp.armed := true,
               pp.freshT := atLimit, pp.mismT := atLimit, pp.intT := atLimit, pp.refuseT := atLimit, pp.clipT := atLimit }

/-- The state after a command. -/
def after (c : Instr) (s : State) : State :=
  match exec c s with
  | .next t => t
  | .fault _ => s
  | .refused _ => s

/-- The reply in the slot after a request. -/
def answer (c : Instr) (s : State) : Option Answer := (after c s).hlp.slot.map fun r => r.ans

/-- The reply code after a request. -/
def codeAfter (c : Instr) (s : State) : Option Code := (answer c s).map fun a => a.code

theorem still_reset : Still State.reset := still_of_isStill (by decide +kernel)
theorem still_ready : Still ready := still_of_isStill (by decide +kernel)
theorem free_ready : LinkFree ready := ⟨rfl, rfl⟩
theorem never_ready : NeverInv ready := by intro c; cases c <;> decide
theorem still_tripped : Still tripped := still_of_isStill (by decide +kernel)
theorem still_engaged : Still engaged := still_of_isStill (by decide +kernel)

/-! ## Witnesses: the hypotheses of each statement can be met -/

theorem witness_IdleStep : State.reset.pending = [] := rfl

theorem witness_WhatFollows_sending : Still State.reset ∧ State.reset.hlp.tx = some ⟨false, true, helloBytesReset⟩ :=
  ⟨still_reset, rfl⟩
theorem witness_WhatFollows_reply :
    let s : State := { ready with hlp.tx := none, hlp.slot := some ⟨1, 2, ⟨.ok, []⟩⟩ }
    Still s ∧ s.hlp.tx = none ∧ s.hlp.slot = some ⟨1, 2, ⟨.ok, []⟩⟩ := ⟨still_of_isStill (by decide +kernel), rfl, rfl⟩
theorem witness_WhatFollows_report :
    let s : State := { ready with hlp.tx := none }
    Still s ∧ s.hlp.tx = none ∧ s.hlp.slot = none ∧ s.rq = ⟨.hello .power 0, 0, 0⟩ :: s.rq.tail :=
  ⟨still_of_isStill (by decide +kernel), rfl, rfl, rfl⟩
theorem witness_WhatFollows_idle :
    let s : State := { ready with hlp.tx := none, rq := [] }
    Still s ∧ s.hlp.tx = none ∧ s.hlp.slot = none ∧ s.rq = [] := ⟨still_of_isStill (by decide +kernel), rfl, rfl, rfl⟩

/-- A RESTART's reply is being sent in a machine whose report queue is full. -/
def restarting : State :=
  { engaged with hlp.tx := some ⟨true, true, []⟩, hlp.slot := some ⟨0x05, 9, ⟨.ok, []⟩⟩,
                 rq := List.replicate 32 ⟨.markReached 1, 0, 0⟩ }
theorem witness_RestartTeardownState : restarting.hlp.tx = some ⟨true, true, []⟩ ∧ restartWaits restarting = true := by decide

/-- X CLAMPED, Y RELEASED under NEVER, Z CLAMPING with a follow-on and B in FAULT with its clamped sensor on, in a machine
with both drives' inputs on, a spindle in FAULT and a homing of W in SETTLE. -/
def restartingMixed : State :=
  { restarting with
    inp := Vector.ofFn fun i => ⟨i.val == 0 || i.val == 1 || i.val == 23, i.val == 0 || i.val == 1 || i.val == 23, true, 20, 5⟩
    cc.y.policy := .never, cc.y.st := .released, cc.z.st := .clamping, cc.z.follow := .release, cc.b.st := .fault
    sgu.st := .fault, sgu.gear := .stroking, ax.w.phase := .settle, ax.w.owner := .homing }
theorem witness_RestartTeardown_blocks :
    let s := restartingMixed
    restartWaits s = true ∧ EngagedStands s ∧ s.sgu.st = .fault ∧ spindleReady s = false ∧ shifting s = true ∧
      inputOn s 0 = true ∧ inputOn s 1 = true ∧ (s.cc.get .x).st = .clamped ∧ (s.cc.get .x).follow ≠ .release ∧
      (s.cc.get .y).policy = .never ∧ (s.cc.get .z).policy ≠ .never ∧ (s.cc.get .z).st = .clamping ∧
      clampedSensor s .z = false ∧ (s.cc.get .b).st ≠ .clamping ∧ clampedSensor s .b = true ∧
      (s.ax.get .w).phase = .settle ∧ (after .replySent s).cn.machine = .stopping ∧
      (after .replySent restarting).cn.machine = .tripped ∧ shifting restarting = false ∧ ¬EngagedStands { engaged with inp := s.inp } :=
  ⟨by decide, fun r h => by simp [engagedRange, restartingMixed] at h, rfl, by decide, rfl, by decide, by decide, rfl, by decide,
    rfl, by decide, rfl, by decide, by decide, by decide, rfl, by decide +kernel, by decide +kernel, rfl,
    fun h => absurd (h .r2 rfl) (by decide)⟩

theorem witness_FramesAreReadBack :
    1 ≤ 0x06 ∧ 0x06 ≤ 63 ∧ 17 < 256 ∧ [0x01, 0x01, 0x00, 0x00, 0x00, 0x00, (0x2A : Byte)].length ≤ 248 ∧
      requestOf (.setParam 17 0x0101 0 42) =
        some (17, parseRequest 0x06 [0x01, 0x01, 0x00, 0x00, 0x00, 0x00, 0x2A]) := by decide +kernel
theorem witness_FramesAreReadBack_longest :
    (List.replicate 248 (0 : Byte)).length ≤ 248 ∧
      requestOf (.unknownKind 63 255) = some (255, parseRequest 63 (List.replicate 248 0)) := by decide +kernel

theorem witness_FramesAreReadBack_taken :
    1 ≤ 0x06 ∧ ([0x01] : List Byte).length ≤ 248 ∧ LinkFree ready ∧ Still ready ∧
      (serve (parseRequest 0x06 [0x01]) ready).1.code = .badLength := ⟨by decide, by decide, free_ready, still_ready, by
  decide +kernel⟩

theorem witness_DiscardedFrames_length :
    Still ready ∧ ((1 : Byte).toNat < 2 ∨ 250 < (1 : Byte).toNat) ∧ ((251 : Byte).toNat < 2 ∨ 250 < (251 : Byte).toNat) :=
  ⟨still_ready, by decide⟩
theorem witness_DiscardedFrames_crc :
    Still ready ∧ 2 ≤ (2 : Byte).toNat ∧ (2 : Byte).toNat ≤ 250 ∧ ([] : List Byte).length + 2 = (2 : Byte).toNat ∧
      crc16 [2, 1, 0] ≠ (0 : Byte).toNat * 256 + (0 : Byte).toNat := ⟨still_ready, by decide +kernel⟩
theorem witness_DiscardedFrames_kind :
    let len : Byte := 2
    let kind : Byte := 0x40
    let c := crc16 [len, kind, 0]
    Still ready ∧ c = (BitVec.ofNat 8 (c / 256)).toNat * 256 + (BitVec.ofNat 8 (c % 256)).toNat ∧
      (kind.toNat < 1 ∨ 0x3F < kind.toNat) := ⟨still_ready, by decide +kernel⟩

/-- A reply waits, and the FIFO holds n requests. -/
def waitingLink (n : Nat) : State :=
  { ready with hlp.slot := some ⟨1, 2, ⟨.ok, []⟩⟩, hlp.tx := some ⟨true, true, []⟩,
               hlp.fifo := List.replicate n ⟨5, .queueStatus⟩ }
theorem witness_FramesAreReadBack_waiting : (waitingLink 3).hlp.slot ≠ none ∧ (waitingLink 3).hlp.fifo.length < 4 := by decide
theorem witness_RequestsWait :
    Still (waitingLink 3) ∧ Still (waitingLink 4) ∧ (waitingLink 4).hlp.slot ≠ none ∧
      requestOf (.start 9) = some (9, .start) :=
  ⟨still_of_isStill (by decide +kernel), still_of_isStill (by decide +kernel), by decide, rfl⟩

theorem witness_SentFrames_replies :
    (waitingLink 0).hlp.tx = some ⟨true, true, []⟩ ∧ restartWaits (waitingLink 0) = false ∧ (waitingLink 0).hlp.fifo = [] ∧
      restartWaits (waitingLink 2) = false ∧ (waitingLink 2).hlp.fifo = ⟨5, .queueStatus⟩ :: [⟨5, .queueStatus⟩] := by decide
theorem witness_SentFrames_reports :
    let s : State := { ready with rq := [⟨.markReached 1, 5, 3⟩] }
    s.hlp.tx = some ⟨false, true, helloBytesReset⟩ ∧ s.rq = ⟨.markReached 1, 5, 3⟩ :: [] := ⟨rfl, rfl⟩

theorem witness_QueriesOnlyReply :
    Still ready ∧ LinkFree ready ∧ requestOf (.compRead 3 4 100 28) = some (3, .compRead 4 100 28) ∧
      isQuery (.compRead 4 100 28) = true := ⟨still_ready, free_ready, rfl, by decide⟩
theorem witness_RefusedRequests :
    Still ready ∧ LinkFree ready ∧ requestOf (.resetTrip 3) = some (3, .resetTrip) ∧ (serve .resetTrip ready).1.code ≠ .ok :=
  ⟨still_ready, free_ready, rfl, by decide +kernel⟩

theorem witness_RaisesLatch :
    State.reset.cn.machine = .tripped ∧ Cond.cls .queueStarved = .note ∧ ready.cn.machine ≠ .tripped := by decide
theorem witness_StopReaction :
    Cond.cls .gearOilLow = .stop ∧ ready.cn.machine ≠ .tripped ∧ (moving .running).sq.st = .running ∧
      (moving .running).pi.r ≠ 0 ∧ (queueIn .returning ready).pi.r = 0 ∧ (queueIn .held ready).sq.st = .held ∧
      ready.sq.st = .idle ∧ (moving .stopping).sq.st = .stopping := by decide
theorem witness_ReadyTest :
    let s : State := { ready with cn.machine := .stopping }
    s.cn.machine = .stopping ∧ s.sq.st = .idle ∧ s.sgu.st = .off ∧ shifting s = false ∧
      (∀ a, (s.ax.get a).atRest = true) ∧ ¬(ready.cn.machine = .stopping) :=
  ⟨rfl, rfl, rfl, rfl, by intro a; cases a <;> rfl, by decide⟩
theorem witness_StopReaction_shift :
    let s : State := { ready with sgu.gear := .stroking, sgu.shift := some (shiftAt 1) }
    s.sgu.shift ≠ none ∧ shifting s = true := by decide
theorem witness_TripTurns :
    NeverInv ready ∧ Cond.cls (.followingError .spindle) = .trip ∧ ready.cn.machine ≠ .tripped :=
  ⟨never_ready, by decide⟩
/-- Inputs 0 and 1 were on and have gone off. -/
def opened : State := { ready with inp := Vector.ofFn fun _ => ⟨false, true, true, 5, 5⟩ }
theorem witness_TripTurns_estop :
    opened.inp[(1 : Fin 32)].raw = false ∧ opened.inp[(1 : Fin 32)].filt = true ∧
      opened.inp[(1 : Fin 32)].ft ≤ opened.inp[(1 : Fin 32)].t ∧ opened.inp[(0 : Fin 32)].filt = true ∧
      rawOf opened .estopOpen = false ∧ rawOf opened .drivesNotReady = false := by decide +kernel

theorem witness_TrippedIsLeft_resetTrip :
    let s : State := { tripped with pending := [.resetTrip 1] }
    LinkInv s ∧ s.cn.machine = .tripped ∧ s.pending = .resetTrip 1 :: [] ∧
      ∃ t : State, step s = .next t ∧ t.cn.machine ≠ .tripped :=
  ⟨⟨by decide, fun _ => rfl⟩, rfl, rfl, after (.resetTrip 1) tripped, rfl, by decide +kernel⟩
theorem witness_TrippedIsLeft_restart :
    let s : State := { restarting with
      cn.machine := .tripped, pending := [.replySent]
      inp := Vector.ofFn fun _ => ⟨true, true, true, 20, 5⟩ }
    LinkInv s ∧ s.cn.machine = .tripped ∧ s.pending = .replySent :: [] ∧
      ∃ t : State, step s = .next t ∧ t.cn.machine ≠ .tripped :=
  ⟨⟨by decide, fun _ => rfl⟩, rfl, rfl, after .replySent { restarting with
      cn.machine := .tripped, inp := Vector.ofFn fun _ => ⟨true, true, true, 20, 5⟩ }, rfl, by decide +kernel⟩

theorem witness_AckClears :
    Still State.reset ∧ LinkFree State.reset ∧ 1 ≤ [(4, 0), (30, 0)].length ∧ [(4, 0), (30, 0)].length ≤ 16 ∧
      (∀ p ∈ [(4, 0), (30, 0)], (condOf p.1 p.2).isSome = true) := ⟨still_reset, ⟨rfl, rfl⟩, by decide +kernel⟩

theorem witness_ResetTrip :
    Still tripped ∧ LinkFree tripped ∧ tripped.cn.machine = .tripped ∧ rawOf tripped .estopOpen = false ∧
      rawOf tripped .drivesNotReady = false ∧
      (∀ c, (tripped.cc.get c).st = .clamped ∧ (tripped.cc.get c).follow = .none) ∧ tripped.hs.st = .pumpOff ∧
      tripped.hs.fifo = [] ∧ tripped.hs.holder = none ∧ anyOwner tripped .pendant = false :=
  ⟨still_tripped, ⟨rfl, rfl⟩, rfl, by decide +kernel, by decide +kernel, by intro c; cases c <;> decide, rfl, rfl, rfl,
    by decide⟩
/-- X is CLAMPED with a kept follow-on, Y of policy NEVER, Z RELEASED and B in FAULT. -/
def trippedClamps : State :=
  { tripped with cc.x.follow := .release, cc.y.policy := .never, cc.y.st := .released, cc.z.st := .released,
                 cc.b.st := .fault }
theorem witness_ResetTrip_clamps :
    Still trippedClamps ∧ LinkFree trippedClamps ∧ trippedClamps.cn.machine = .tripped ∧
      rawOf trippedClamps .estopOpen = false ∧ rawOf trippedClamps .drivesNotReady = false ∧ TrippedOff trippedClamps ∧
      TrippedAxes trippedClamps ∧ NeverInv trippedClamps ∧ ReleasedFree trippedClamps ∧ trippedClamps.hs.fifo = [] ∧
      trippedClamps.hs.holder = none ∧ rawOf trippedClamps .hydPressureLow = false ∧ (trippedClamps.cc.get .x).policy ≠ .never :=
  ⟨still_of_isStill (by decide +kernel), ⟨rfl, rfl⟩, rfl, by decide +kernel, by decide +kernel,
    fun _ => ⟨rfl, by intro a; cases a <;> rfl, .inl rfl, rfl, rfl, rfl, .inl rfl, rfl, rfl,
      by intro c; cases c <;> decide⟩, fun _ => by intro a; cases a <;> decide, by intro c; cases c <;> decide,
    by intro c; cases c <;> decide, rfl, rfl, by decide +kernel, by decide⟩

theorem witness_StatusShows : topCond State.reset = some .estopOpen ∧ topCond ready = none ∧
    (condEntry State.reset .estopOpen).latched = true := by decide +kernel

theorem witness_SetParam_range_ends :
    paramOf 0x0101 0 = some .flowHigh ∧ (paramRange ready .flowHigh).1 = 25 ∧ (paramRange ready .flowHigh).2 = 63 ∧
      writeRefusal ready .flowHigh 25 = none ∧ writeRefusal ready .flowHigh 63 = none ∧ LinkFree ready :=
  ⟨rfl, rfl, rfl, rfl, rfl, free_ready⟩

/-- An idle queue of n records with the flow state given. -/
def filled (n : Nat) (f : Flow) : State := { ready with sq.recs := List.replicate n ⟨1, .mark false⟩, sq.flow := f }
theorem witness_Append :
    Still (filled 55 .go) ∧ LinkFree (filled 55 .go) ∧ (filled 55 .go).cn.machine ≠ .tripped ∧
      (filled 55 .go).sq.st = .idle ∧ (filled 55 .go).sq.current = false ∧
      (filled 55 .go).sq.recs.length + 1 = (filled 55 .go).sq.flowHigh ∧
      [RawRec.spindle 4 7000 1].map recOf = [some ⟨4, .spindle 6000 .ccw false⟩] :=
  ⟨still_of_isStill (by decide +kernel), ⟨rfl, rfl⟩, by decide +kernel⟩
theorem witness_Append_flow_go :
    Still (filled 23 .stopped) ∧ LinkFree (filled 23 .stopped) ∧ (filled 23 .stopped).sq.flow = .stopped ∧
      (filled 23 .stopped).sq.recs.length + 1 = (filled 23 .stopped).sq.flowLow ∧
      (filled 60 .stopped).sq.recs.length + 4 ≤ 64 :=
  ⟨still_of_isStill (by decide +kernel), ⟨rfl, rfl⟩, by decide +kernel⟩

/-- A queue in the state given with a current DWELL and two records behind it. -/
def dwelling (q : QState) : State :=
  { moving q with sq.recs := [⟨8, .dwell 5⟩, ⟨9, .mark false⟩, ⟨10, .mark true⟩], sq.current := true, sq.dwellLeft := 3 }
theorem witness_Append_states :
    Still (dwelling .running) ∧ Still (dwelling .holding) ∧ Still (dwelling .held) ∧ Still (dwelling .returning) ∧
      LinkFree (dwelling .held) ∧ (dwelling .running).sq.current = true ∧ (dwelling .running).sq.recs ≠ [] ∧
      (dwelling .held).sq.st ≠ .stopping ∧ (dwelling .held).cn.machine ≠ .tripped ∧ Still (moving .held) ∧
      (moving .held).sq.current = false :=
  ⟨still_of_isStill (by decide +kernel), still_of_isStill (by decide +kernel), still_of_isStill (by decide +kernel),
    still_of_isStill (by decide +kernel), ⟨rfl, rfl⟩, rfl, by decide, by decide, by decide,
    still_of_isStill (by decide +kernel), rfl⟩

theorem witness_Flush :
    FlowInv (filled 60 .stopped) ∧ Still (filled 60 .stopped) ∧ LinkFree (filled 60 .stopped) ∧
      (filled 60 .stopped).sq.st = .idle ∧ FlowInv (moving .running) ∧ (moving .running).sq.st ≠ .idle :=
  ⟨⟨by decide, by decide, by decide⟩, still_of_isStill (by decide +kernel), ⟨rfl, rfl⟩, rfl,
    ⟨by decide, by decide, by decide⟩, by decide⟩

theorem witness_Start :
    Still ready ∧ LinkFree ready ∧ ready.sq.st = .idle ∧ ready.sq.recs = [] ∧ ready.sq.current = false ∧
      ready.cn.machine = .ready ∧ anyRaw ready .hold = false ∧ anyRaw ready .stop = false ∧
      anyOwner ready .pendant = false ∧ anyOwner ready .homing = false ∧ (∀ c, (ready.cc.get c).idle = 0) :=
  ⟨still_ready, free_ready, rfl, rfl, rfl, rfl, by decide +kernel, by decide +kernel, by decide, by decide,
    by intro c; cases c <;> rfl⟩
theorem witness_Resume :
    let s := queueIn .held ready
    Still s ∧ LinkFree s ∧ s.sq.st = .held ∧ s.sq.recs = [] ∧ s.cn.machine = .ready ∧ anyRaw s .hold = false ∧
      anyRaw s .stop = false ∧ anyRaw s .trip = false ∧ anyOwner s .pendant = false ∧ displacedAxes s = [] :=
  ⟨still_of_isStill (by decide +kernel), ⟨rfl, rfl⟩, rfl, rfl, rfl, by decide +kernel, by decide +kernel,
    by decide +kernel, by decide, rfl⟩
/-- HELD, with W 500 pu away from its hold position. -/
def displaced : State :=
  { queueIn .held ready with
    ax.w.setpoint := 500
    pi.hold := some ⟨none, ready.ax.map fun _ k => k.setpoint, ⟨false, false, false, true, false⟩⟩ }
theorem witness_Resume_displaced :
    let h : HoldRec := ⟨none, ready.ax.map fun _ k => k.setpoint, ⟨false, false, false, true, false⟩⟩
    Still displaced ∧ LinkFree displaced ∧ displaced.sq.st = .held ∧ displaced.cn.machine = .ready ∧
      anyRaw displaced .hold = false ∧ anyRaw displaced .stop = false ∧ anyRaw displaced .trip = false ∧
      anyOwner displaced .pendant = false ∧ displaced.pi.hold = some h ∧ (∃ a, h.displaced.get a = true) ∧
      1000 ≤ displaced.pi.returnSpeed :=
  ⟨still_of_isStill (by decide +kernel), ⟨rfl, rfl⟩, rfl, rfl, by decide +kernel, by decide +kernel, by decide +kernel,
    by decide, rfl, ⟨.w, rfl⟩, by decide⟩
/-- The record is the head of a queue in the state given, and current, with a MARK behind it. -/
def headed (b : RecBody) (q : QState) (s : State) : State :=
  { queueIn q s with sq.recs := [⟨8, b⟩, ⟨9, .mark false⟩], sq.current := true }
/-- The MARK behind the head of `headed`. -/
def markBehind : List QRec := [⟨9, .mark false⟩]
theorem witness_Dispatch :
    let s : State := { headed (.dwell 5) .running ready with sq.current := false }
    s.sq.st = .running ∧ s.sq.current = false ∧ s.sq.recs ≠ [] := by decide
theorem witness_EndMark :
    let s : State := { headed (.mark true) .running ready with ax.w.owner := .queue }
    let m : State := { s with ax.w.atRest := false }
    RunsRecord ⟨8, .mark true⟩ markBehind s ∧ (∀ a, (s.ax.get a).owner = .queue → (s.ax.get a).atRest = true) ∧
      s.rq.length ≤ 29 ∧ RunsRecord ⟨8, .mark true⟩ markBehind m ∧
      (∃ a, (m.ax.get a).owner = .queue ∧ (m.ax.get a).atRest = false) :=
  ⟨⟨rfl, rfl, .inl rfl⟩, by intro a; cases a <;> decide, by decide, ⟨rfl, rfl, .inl rfl⟩, .w, rfl, rfl⟩

theorem witness_HoldAndStop_running :
    Still (moving .running) ∧ LinkFree (moving .running) ∧ (moving .running).pi.r ≠ 0 ∧
      gearRecordCurrent (moving .running) = false := ⟨still_of_isStill (by decide +kernel), ⟨rfl, rfl⟩, by decide⟩
theorem witness_HoldAndStop_holding :
    Still (moving .holding) ∧ LinkFree (moving .holding) ∧ (moving .holding).sq.st ≠ .running ∧
      (moving .holding).sq.st ≠ .returning ∧ Still (moving .returning) ∧ Still (moving .stopping) :=
  ⟨still_of_isStill (by decide +kernel), ⟨rfl, rfl⟩, by decide, by decide, still_of_isStill (by decide +kernel),
    still_of_isStill (by decide +kernel)⟩

theorem witness_HoldAndStop_flush :
    let s : State := { queueIn .held (filled 30 .stopped) with ax.w.owner := .queue }
    Still s ∧ LinkFree s ∧ s.sq.st = .held ∧ s.cn.machine ≠ .stopping ∧ (∀ c, (s.cc.get c).delay ≠ 0) ∧
      (queueIn .stopping s).sq.st = .stopping ∧ (queueIn .stopping s).pi.r = 0 :=
  ⟨still_of_isStill (by decide +kernel), ⟨rfl, rfl⟩, rfl, by decide, by intro c; cases c <;> decide, rfl, rfl⟩

theorem witness_Mark :
    let s : State := { ready with sq.recs := [⟨65535, .mark false⟩], rq := List.replicate 29 ⟨.markReached 1, 0, 0⟩ }
    s.sq.recs = ⟨65535, .mark false⟩ :: [] ∧ s.rq.length ≤ 29 := ⟨rfl, by decide⟩

/-- A MOVE of W waits in RUNNING. -/
def waitingMove : State :=
  { queueIn .running ready with
    sq.recs := [⟨8, .move ⟨.feed, true, [(.w, 500)], 20, none⟩⟩], sq.current := true, sq.waiting := true }
theorem witness_MoveStart :
    Still waitingMove ∧ waitingMove.sq.st = .running ∧ waitingMove.sq.current = true ∧
      waitingMove.sq.recs = ⟨8, .move ⟨.feed, true, [(.w, 500)], 20, none⟩⟩ :: [] ∧ waitingMove.sq.waiting = true ∧
      (∀ l ∈ [(Axis.w, (500 : Int))], released waitingMove l.1 = true) ∧ (Motion.feed = .fpr → turning waitingMove = true) :=
  ⟨still_of_isStill (by decide +kernel), rfl, rfl, rfl, rfl, by decide, by decide⟩
theorem witness_DwellEnd :
    let s : State := { queueIn .running ready with sq.recs := [⟨8, .dwell 5⟩], sq.current := true }
    s.sq.st = .running ∧ s.sq.current = true ∧ s.sq.recs = ⟨8, .dwell 5⟩ :: [] ∧ s.sq.dwellLeft = 0 := ⟨rfl, rfl, rfl, rfl⟩
theorem witness_MoveStart_not_running : Still ready ∧ ready.sq.st ≠ .running := ⟨still_ready, by decide⟩
/-- A MOVE of W and B stands at the head, both REFERENCED, and B's clamp is in the state given. -/
def moveHead (m : Motion) (c : ClampState) (fin : Int) : State :=
  { headed (.move ⟨m, true, [(.w, fin), (.b, 700)], 20, some 300⟩) .running ready with
    ax.w.refd := true, ax.b.refd := true, cc.b.st := c }
theorem witness_MoveDispatch_not_referenced :
    let s : State := { moveHead .feed .clamped 500 with ax.b.refd := false }
    [(Axis.w, (500 : Int)), (.b, 700)] = [(.w, 500)] ++ (.b, 700) :: [] ∧
      (∀ k ∈ [(Axis.w, (500 : Int))], (s.ax.get k.1).refd = true) ∧ (s.ax.get .b).refd = false := by decide
theorem witness_MoveDispatch_soft_limit :
    let s := moveHead .feed .clamped 2000000001
    (∀ l ∈ [(Axis.w, (2000000001 : Int)), (.b, 700)], (s.ax.get l.1).refd = true) ∧
      ((2000000001 : Int) < (s.ax.get .w).p.softMin ∨ (s.ax.get .w).p.softMax < 2000000001) := by decide
theorem witness_MoveDispatch_waits :
    let s := moveHead .feed .clamped 500
    (∀ l ∈ [(Axis.w, (500 : Int)), (.b, 700)], (s.ax.get l.1).refd = true ∧
        ¬(l.2 < (s.ax.get l.1).p.softMin ∨ (s.ax.get l.1).p.softMax < l.2)) ∧
      ([(Axis.w, (500 : Int)), (.b, 700)].map fun l => l.1).Nodup ∧ s.cn.machine ≠ .tripped ∧ released s .b = false ∧
      clampOfAxis .w = none ∧ (s.cc.get .b).st = .clamped ∧ (s.cc.get .b).policy ≠ .never := by decide
theorem witness_MoveDispatch_starts :
    let s := moveHead .fpr .released 500
    (∀ l ∈ [(Axis.w, (500 : Int)), (.b, 700)], released s l.1 = true) ∧ turning s = false ∧
      turning { s with sgu.st := .atSpeed } = true ∧ (moveHead .rapid .released 500).sq.recs =
        ⟨8, .move ⟨.rapid, true, [(.w, 500), (.b, 700)], 20, some 300⟩⟩ :: markBehind := by decide
theorem witness_DwellDispatch : (headed (.dwell 5) .running ready).sq.recs = ⟨8, .dwell 5⟩ :: markBehind := rfl

theorem witness_SetOverride :
    Still ready ∧ LinkFree ready ∧ (∀ v, some 0 = some v → v ≤ 1) ∧ (∀ v, some 1 = some v → v ≤ 1) :=
  ⟨still_ready, free_ready, fun v h => by cases h; decide, fun v h => by cases h; decide⟩
theorem witness_RateSteps : PathInt.reset.r ≤ 131072 ∧ 131072 ≤ 131072 ∧ PathInt.reset.pathRamp ≤ 65536 ∧
    PathInt.reset.r < 131072 := by decide
theorem witness_MovePositions : 0 < 65535 ∧ 65535 * 65536 ≤ 65535 * 65536 ∧ 0 ≤ 65535 * 65536 := by decide
theorem witness_PathPeriod_tripped : State.reset.cn.machine = .tripped := rfl
theorem witness_PathPeriod_ready :
    (after .pathPeriod ready).cn.machine ≠ .tripped ∧ (ready.ax.get .b).owner ≠ .homing := by decide +kernel
/-- The encoder of Z stands far from its setpoint. -/
def farZ : State := { ready with ax.z.enc := 900000 }
theorem witness_PathPeriod_following :
    let w := periodSetpoints farZ
    let e := fun a => (w.ax.get a).setpoint + (w.cs.get a).c - (w.ax.get a).enc
    farZ.cn.machine ≠ .tripped ∧ allAxes = [.x, .y] ++ .z :: [.w, .b] ∧
      (∀ b ∈ [Axis.x, .y], ¬(w.ax.get b).p.feLimit < (e b).natAbs) ∧ (w.ax.get .z).p.feLimit < (e .z).natAbs := by
  decide +kernel
/-- Z's output saturates within its error limit, Y's count reaches 20, X is the pendant's and jogs toward its limit. -/
def checked : State :=
  { ready with
    ax.z.enc := 400, ax.z.p.kp := 65535, ax.y.satCount := 19, ax.x.owner := .pendant, cc.x.st := .released
    pp.jogs.x.mode := .wheel, pp.jogs.x.wheel := 50, cn.table := (setRaw (.driveSaturated (.axis .y)) true ready).cn.table }
theorem witness_PathPeriod_checks :
    let w := periodSetpoints checked
    let e := (w.ax.get .z).setpoint + (w.cs.get .z).c - (w.ax.get .z).enc
    (after .pathPeriod checked).cn.machine ≠ .tripped ∧
      32767 < (((w.ax.get .z).p.kp * e + (w.ax.get .z).p.kff * ((w.ax.get .z).setpoint - (w.ax.get .z).prev)).tdiv
        256).natAbs ∧
      rawOf checked (.driveSaturated (.axis .y)) = true ∧ (checked.ax.get .y).satCount + 1 = 20 ∧
      (w.ax.get .x).owner = .pendant ∧ limitPlus checked .x = true ∧ (w.ax.get .x).prev < (w.ax.get .x).setpoint ∧
      limitActive checked .y = true ∧ rawOf checked (.hardLimit .y) = false := by decide +kernel

/-- The limit inputs read good and the axis B is clamped. -/
def limitsOk : State := { ready with inp := Vector.ofFn fun _ => ⟨true, true, true, 20, 5⟩, cc := ready.cc }
theorem witness_Home_released :
    Still limitsOk ∧ LinkFree limitsOk ∧ axisOf 3 = some .w ∧ limitsOk.cn.machine = .ready ∧ limitsOk.sq.st = .idle ∧
      (limitsOk.ax.get .w).owner = .none ∧ limitActive limitsOk .w = false ∧ (∀ c, (limitsOk.cc.get c).idle = 0) ∧
      released limitsOk .w = true :=
  ⟨still_of_isStill (by decide +kernel), ⟨rfl, rfl⟩, rfl, rfl, rfl, rfl, by decide +kernel,
    by intro c; cases c <;> rfl, rfl⟩
/-- A feed MOVE of W by 20 periods, with the stop flag given. -/
def feedMove (stop : Bool) (fin : Int) : MoveRec := ⟨.feed, stop, [(.w, fin)], 20, none⟩
/-- A started MOVE at a phase and rate, with records behind it. -/
def onPath (q : QState) (p r : Nat) (stop : Bool) (rs : List QRec) : State :=
  { queueIn q limitsOk with
    sq.recs := ⟨8, .move (feedMove stop 500)⟩ :: rs, sq.current := true
    pi.move := some ⟨.feed, 20, 1, [⟨.w, 0, 500⟩], p⟩, pi.r := r, ax.w.owner := .queue, ax.w.refd := true }
/-- The started MOVE of `onPath`, its rate and whether a period's work leaves the queue in its state. -/
def pathMove (p : Nat) : ActiveMove := ⟨.feed, 20, 1, [⟨.w, 0, 500⟩], p⟩
def pathRate (s : State) (p : Nat) : Nat := nextRate s (pathMove p) (lookahead s (pathMove p)).1 (lookahead s (pathMove p)).2
def nearEnd : Nat := 20 * 65536 - 100
/-- The MOVE behind. -/
def behind : List QRec := [⟨9, .move (feedMove true 600)⟩]

theorem witness_RateSteps_targets :
    (onPath .running 0 0 true []).sq.st = .running ∧ (pathMove 0).motion = .feed ∧ (feedMove false 500).stop = false ∧
      (∀ l ∈ (feedMove true 600).legs, released (onPath .running 0 0 false behind) l.1 = true) := by decide
theorem witness_RateSteps_advance :
    let s := onPath .running 0 0 true []
    s.pi.ret = none ∧ s.pi.move = some (pathMove 0) ∧ s.sq.current = true ∧
      s.sq.recs = ⟨8, .move (feedMove true 500)⟩ :: [] ∧ s.cn.machine ≠ .tripped ∧ 0 + pathRate s 0 < 20 * 65536 ∧
      (periodWork s).sq.st = s.sq.st ∧ LegsApart (pathMove 0).legs ∧ (s.ax.get .w).owner = .queue ∧
      released s .w = true := ⟨rfl, rfl, rfl, rfl, by decide, by decide +kernel, by decide +kernel, by unfold LegsApart; decide,
    rfl, rfl⟩
/-- The queue goes back to its hold positions. -/
def returning (p r : Nat) : State :=
  { queueIn .returning limitsOk with pi.ret := some (pathMove p), pi.r := r, ax.w.owner := .queue, ax.w.refd := true }
theorem witness_RateSteps_return :
    let s := returning 0 0
    s.pi.ret = some (pathMove 0) ∧ s.sq.st = .returning ∧ s.cn.machine ≠ .tripped ∧
      0 + nextRate s (pathMove 0) (20 * 65536 - 0) true < 20 * 65536 ∧ (periodWork s).sq.st = .returning :=
  ⟨rfl, rfl, by decide, by decide +kernel, by decide +kernel⟩
theorem witness_MovePositions_end :
    let s := onPath .running nearEnd 131 true []
    s.pi.move = some (pathMove nearEnd) ∧ s.sq.recs = ⟨8, .move (feedMove true 500)⟩ :: [] ∧ s.cn.machine ≠ .tripped ∧
      20 * 65536 ≤ nearEnd + pathRate s nearEnd ∧ (periodWork s).sq.st = s.sq.st :=
  ⟨rfl, rfl, by decide, by decide +kernel, by decide +kernel⟩
theorem witness_MovePositions_stopping :
    let s := onPath .stopping nearEnd 10000 false behind
    s.sq.st = .stopping ∧ 20 * 65536 ≤ nearEnd + pathRate s nearEnd ∧ (periodWork s).sq.st = s.sq.st :=
  ⟨rfl, by decide +kernel, by decide +kernel⟩
theorem witness_MovePositions_carry :
    let s := onPath .running nearEnd 10000 false behind
    20 * 65536 ≤ nearEnd + pathRate s nearEnd ∧ s.sq.st ≠ .stopping ∧ s.cn.machine ≠ .tripped ∧
      (∀ l ∈ (feedMove true 600).legs, (s.ax.get l.1).refd = true ∧ released s l.1 = true ∧
        (s.ax.get l.1).p.softMin ≤ l.2 ∧ l.2 ≤ (s.ax.get l.1).p.softMax) ∧
      nearEnd + pathRate s nearEnd - 20 * 65536 < 20 * 65536 ∧ (periodWork s).sq.st = s.sq.st := by decide +kernel
theorem witness_MovePositions_return :
    let s := returning nearEnd 131
    s.pi.ret = some (pathMove nearEnd) ∧ s.sq.st = .returning ∧ s.sq.recs = [] ∧ s.cn.machine ≠ .tripped ∧
      20 * 65536 ≤ nearEnd + nextRate s (pathMove nearEnd) (20 * 65536 - nearEnd) true ∧
      (periodWork s).sq.st = .running := ⟨rfl, rfl, rfl, by decide, by decide +kernel, by decide +kernel⟩
theorem witness_MovePositions_held :
    let s := onPath .held 100 0 true []
    s.sq.st = .held ∧ s.cn.machine ≠ .tripped ∧ (s.ax.get .w).owner = .queue ∧ limitsOk.sq.st = .idle := by decide
theorem witness_MovePositions_holding :
    let s := onPath .holding 100 0 true []
    s.sq.st = .holding ∧ s.pi.r = 0 ∧ s.sq.current = true ∧ s.sq.recs = ⟨8, .move (feedMove true 500)⟩ :: [] :=
  ⟨rfl, rfl, rfl, rfl⟩
theorem witness_MovePositions_hold :
    let s := queueIn .running ready
    Still s ∧ LinkFree s ∧ s.sq.st = .running ∧ s.pi.r = 0 ∧ s.sq.recs = [] ∧ rawOf s .queueStarved = false :=
  ⟨still_of_isStill (by decide +kernel), ⟨rfl, rfl⟩, rfl, rfl, rfl, by decide +kernel⟩

/-- A homing of W in a phase, with its switch and its limits as given; HARD_LIMIT is raw where a limit is active. -/
def homingAt (on lim : Bool) (ph : HomePhase) (st : LatchStep) (latched : Option Int) (v : Int) : State :=
  { limitsOk with
    inp := Vector.ofFn fun i =>
      let b := !(i.val == 15 && !on) && !(i.val == 10 && lim)
      ⟨b, b, true, 20, 5⟩
    cn.table := if lim then (setRaw (.hardLimit .w) true limitsOk).cn.table else limitsOk.cn.table
    ax.w.owner := .homing, ax.w.phase := ph, ax.w.hStep := st, ax.w.latch := latched, ax.w.hVel := v }
/-- W's homing runs, no reaction comes in the period, and its switch and limits read as given. -/
def homingRuns (s : State) (on lim : Bool) : Bool :=
  s.cn.machine == .ready && s.sq.st == .idle && (s.ax.get .w).owner == .homing && released s .w &&
    (periodWork s).cn.machine == .ready && homeSwitch s .w == on && limitActive s .w == lim
theorem witness_Homing_search :
    homingRuns (homingAt false false .search .active none 0) false false = true ∧
      homingRuns (homingAt true false .search .active none 400) true false = true ∧
      homingRuns (homingAt true false .searchStop .active none 200) true false = true := by decide +kernel
theorem witness_Homing_latch :
    homingRuns (homingAt true false .latch .inactive none 0) true false = true ∧
      homingRuns (homingAt false false .latch .inactive none 0) false false = true ∧
      homingRuns (homingAt false false .latch .index none 0) false false = true ∧
      homingRuns (homingAt false false .latch .index (some 7) 1000) false false = true := by decide +kernel
theorem witness_Homing_limit :
    homingRuns (homingAt false true .search .active none 0) false true = true ∧
      homingRuns (homingAt true true .latch .active none 0) true true = true := by decide +kernel
theorem witness_Homing_settle :
    let s := homingAt true false .settle .index none 0
    homingRuns s true false = true ∧ homingRuns (homingAt true false .ending .index none 1000) true false = true ∧
      (s.ax.get .w).hVel = 0 ∧ (s.ax.get .w).hRem.natAbs < 1000 ∧
      ((s.ax.get .w).setpoint + ((periodWork s).cs.get .w).c - (s.ax.get .w).enc).natAbs ≤ (s.ax.get .w).p.inposWindow ∧
      (s.ax.get .w).setpoint = (s.ax.get .w).prev := by decide +kernel
theorem witness_Homing_travel :
    let s := { homingAt false false .search .active none 0 with ax.w.hFrom := 20000000 }
    homingRuns s false false = true ∧
      (s.ax.get .w).p.homeTravel < (((periodWork s).ax.get .w).setpoint - ((periodWork s).ax.get .w).hFrom).natAbs := by
  decide +kernel
/-- A homing of W whose home switch input I15 is due to change to the level given. -/
def switching (on : Bool) (ph : HomePhase) (st : LatchStep) : State :=
  let s := homingAt (!on) false ph st none 400
  { s with inp := s.inp.set 15 ⟨on, !on, true, 5, 5⟩ }
theorem witness_Homing_delivery :
    Still (switching true .search .active) ∧ Still (switching true .latch .active) ∧
      Still (switching false .latch .inactive) ∧ Still (switching false .search .active) ∧
      (15 : Fin 32).val = 12 + axisIdx .w ∧ (switching true .search .active).inp[(15 : Fin 32)].raw = true ∧
      (switching true .search .active).inp[(15 : Fin 32)].raw ≠ (switching true .search .active).inp[(15 : Fin 32)].filt ∧
      ((switching true .latch .active).ax.get .w).hStep = .active :=
  ⟨still_of_isStill (by decide +kernel), still_of_isStill (by decide +kernel), still_of_isStill (by decide +kernel),
    still_of_isStill (by decide +kernel), rfl, by decide +kernel, by decide +kernel, rfl⟩
theorem witness_Homing_fails :
    let s := { homingAt false false .ending .active none 0 with ax.w.hFail := some (.travel, .search) }
    (s.ax.get .w).phase = .ending ∧ (s.ax.get .w).hVel = 0 ∧ (s.ax.get .w).atRest = true ∧
      (s.ax.get .w).hFail = some (.travel, .search) ∧ s.cn.machine ≠ .tripped ∧ Cond.cls .gearOilLow = .stop ∧
      Cond.cls .estopOpen = .trip := by decide
theorem witness_Homing_stop :
    let s := homingAt false false .search .active none 400
    let t := homingAt false false .settle .active none 400
    s.cn.machine ≠ .tripped ∧ (s.ax.get .w).owner = .homing ∧ (s.ax.get .w).phase = .search ∧
      (t.ax.get .w).owner = .homing ∧ (t.ax.get .w).phase = .settle := by decide
theorem witness_Home_clamped :
    Still limitsOk ∧ axisOf 4 = some .b ∧ (limitsOk.ax.get .b).owner = .none ∧ limitActive limitsOk .b = false ∧
      clampOfAxis .b = some .b ∧ (limitsOk.cc.get .b).st = .clamped ∧ (limitsOk.cc.get .b).policy ≠ .never ∧
      limitsOk.hs.st = .pumpOff ∧ limitsOk.hs.fifo = [] ∧ limitsOk.hs.holder = none ∧ hydMin limitsOk = false :=
  ⟨still_of_isStill (by decide +kernel), by decide +kernel⟩

theorem witness_CompLoad :
    LinkFree ready ∧ axisOf 4 = some .b ∧ 1 ≤ (List.replicate 32 (-5000 : Int)).length ∧
      (List.replicate 32 (-5000 : Int)).length ≤ 32 ∧ 96 ≤ 127 ∧ 96 + (List.replicate 32 (-5000 : Int)).length ≤ 128 ∧
      (∀ v ∈ List.replicate 32 (-5000 : Int), -5000 ≤ v ∧ v ≤ 5000) ∧ (ready.cs.get .b).st ≠ .active :=
  ⟨free_ready, rfl, by decide +kernel⟩
/-- X's bank is LOADING with its 128 points at 1. -/
def loaded : State :=
  { ready with cs.x := { Bank.reset with st := .loading, pts := Vector.replicate 128 (some 1) } }
theorem witness_CompCommit :
    LinkFree loaded ∧ (loaded.cs.get .x).st = .loading ∧ Still loaded ∧
      (∀ n : Fin 128, n.val < 128 → (loaded.cs.get .x).pts[n] ≠ none) ∧ pointSum (loaded.cs.get .x) 128 = 128 :=
  ⟨⟨rfl, rfl⟩, rfl, still_of_isStill (by decide +kernel), by decide +kernel, by decide +kernel⟩

/-- The map of section 4.3.1. -/
def workedBank (m : CompMode) : Bank :=
  { Bank.reset with
    st := .active, c := 5, geom := some ⟨128, 0, 50000, m, 0⟩
    pts := (Vector.replicate 128 (some 0)).set 24 (some 12) |>.set 25 (some (-8)) }
theorem witness_Corrections :
    (workedBank .linear).st = .active ∧ (workedBank .linear).geom = some ⟨128, 0, 50000, .linear, 0⟩ ∧
      (compStep (workedBank .linear) true 1234567).target ≤ (workedBank .linear).c ∧
      (workedBank .linear).c ≤ (compStep (workedBank .linear) true 1200000).target ∧
      (0 : Int) + (128 - 1) * 50000 ≤ 6350000 ∧ (1250000 : Int) = 0 + (25 : Nat) * 50000 := by decide +kernel

theorem witness_Corrections_between :
    (2 : Nat) ≤ 128 ∧ (1 : Int) ≤ 50000 ∧ 24 + 1 < 128 ∧ (0 : Int) < 34567 ∧ (34567 : Int) < 50000 ∧
      (0 : Int) < 49999 ∧ (49999 : Int) < 50000 ∧ 126 + 1 < 128 ∧
      (1234567 : Int) = 0 + (24 : Nat) * 50000 + 34567 := by decide

theorem witness_EdgesCount :
    Still ready ∧ ready.sgu.indexPos = none ∧ 0 < ready.sgu.p.cpr ∧
      Still { ready with sgu.indexPos := some 4090, sgu.pos := 4089 } ∧
      spindleAngle { ready with sgu.indexPos := some 4090, sgu.pos := 4089 } = some 4095 :=
  ⟨still_ready, rfl, by decide, still_of_isStill (by decide +kernel), by decide +kernel⟩

/-- Y is RELEASED without an owner, GEAR holds the grant, and the supply is READY. -/
def shared : State :=
  { ready with cc.y.st := .released, cc.y.policy := .host, hs.st := .ready, hs.holder := some ⟨.gear, .stroke⟩ }
theorem witness_ClampSet :
    Still shared ∧ LinkFree shared ∧ clampOf 1 = some .y ∧ shared.cn.machine = .ready ∧ (shared.cc.get .y).policy ≠ .never ∧
      shared.hs.holder ≠ none ∧ (shared.cc.get .y).st = .released ∧ (shared.ax.get (clampAxis .y)).owner = .none ∧
      clampOf 4 = some .b ∧ (shared.cc.get .b).st = .clamped ∧ (shared.cc.get .b).policy ≠ .never :=
  ⟨still_of_isStill (by decide +kernel), ⟨rfl, rfl⟩, by decide +kernel⟩
theorem witness_ClampRecord :
    let s := headed (.clamp .y true) .running shared
    let r := headed (.clamp .b false) .holding shared
    let n : State := { headed (.clamp .y true) .running shared with cc.y.policy := .never }
    s.sq.recs = ⟨8, .clamp .y true⟩ :: markBehind ∧ (s.cc.get .y).policy ≠ .never ∧ s.cn.machine ≠ .tripped ∧
      (s.cc.get .y).st = .released ∧ (r.cc.get .b).policy ≠ .never ∧ (r.cc.get .b).st = .clamped ∧
      (n.cc.get .y).policy = .never := by decide
theorem witness_ClampRecord_runs :
    RunsRecord ⟨8, .clamp .y true⟩ markBehind (headed (.clamp .y true) .running shared) ∧
      RunsRecord ⟨8, .clamp .b true⟩ markBehind (headed (.clamp .b true) .holding shared) ∧
      (shared.cc.get .y).st ≠ .clamped ∧ (shared.cc.get .b).st = .clamped :=
  ⟨⟨rfl, rfl, .inl rfl⟩, ⟨rfl, rfl, .inr rfl⟩, by decide, rfl⟩
theorem witness_ClampTimers :
    let s : State := { ready with
      cc := { ready.cc with x := { Clamp.reset with st := .released, idle := 2000 }
                            y := { Clamp.reset with st := .releasing, op := atLimit }
                            z := { Clamp.reset with st := .clamping, op := atLimit } } }
    (s.cc.get .x).st = .released ∧ (s.cc.get .x).policy = .auto ∧ (s.ax.get .x).owner = .none ∧
      (s.cc.get .x).delay ≤ (s.cc.get .x).idle ∧ s.cn.machine ≠ .tripped ∧ (s.cc.get .y).st = .releasing ∧
      (s.cc.get .y).op.on = true ∧ (s.cc.get .y).op.lim ≤ (s.cc.get .y).op.t ∧ (s.cc.get .z).st = .clamping := by decide
theorem witness_PumpAndSpindleTimers :
    let s : State := { turningState with
      hs.st := .starting, hs.offDelay := atLimit, hs.startT := atLimit, sgu.overload := 2000, sgu.oilT := 5000
      am.cmps := turningState.am.cmps.set 4 ⟨true, 0, 120, 4⟩ }
    s.hs.offDelay.on = true ∧ s.hs.offDelay.lim ≤ s.hs.offDelay.t ∧ s.hs.st = .starting ∧ s.hs.startT.on = true ∧
      rawOf s .hydPressureLow = false ∧ loadMax s = true ∧ spindleRuns s = true ∧ s.sgu.overDone = false ∧
      s.sgu.p.overloadTime ≤ s.sgu.overload ∧ s.sgu.oilDone = false ∧ s.sgu.p.oilGrace ≤ s.sgu.oilT := by decide +kernel
theorem witness_TimerRows :
    Still ready ∧ (∀ c, idleDue ready c = false ∧ (ready.cc.get c).op.due = false) ∧ ready.hs.offDelay.due = false ∧
      ready.hs.startT.due = false ∧ ready.sgu.prepareT.due = false ∧ ready.sgu.positionT.due = false ∧
      ready.sgu.strokeT.due = false ∧ ready.sgu.dwellT.due = false ∧ ready.sgu.settleT.due = false ∧
      ready.cu.proveT.due = false ∧ ready.cu.floodDryT.due = false ∧ ready.cu.rampT.due = false ∧
      ready.cu.keepT.due = false ∧ ready.cu.purgeT.due = false ∧ ready.cu.tscDryT.due = false ∧
      ready.pp.intT.due = false ∧ ready.pp.freshT.due = false ∧ ready.pp.mismT.due = false ∧
      ready.pp.refuseT.due = false ∧ ready.pp.clipT.due = false ∧ ready.pp.ltT.due = false ∧
      eventDue ready .spindleOverload = false ∧ eventDue ready .oilGraceEnd = false ∧
      (∀ n : Fin 32, ready.inp[n].due = false) :=
  ⟨still_ready, by intro c; cases c <;> decide +kernel, by decide +kernel⟩

theorem witness_SpindleSet :
    LinkFree engaged ∧ engaged.cn.machine = .ready ∧ shifting engaged = false ∧ 0 < 7000 ∧ 1 ≤ 1 ∧
      engaged.sgu.gear = .engaged .r2 ∧ driveRefuses engaged = false ∧ engaged.sgu.st = .off ∧
      0 < engaged.sgu.p.rangeMax.get .r2 ∧ engaged.sgu.p.rangeMax.get .r2 < min 6000 7000 ∧ turning turningState = true :=
  ⟨⟨rfl, rfl⟩, by decide +kernel⟩
theorem witness_SpindleRecord :
    let s := headed (.spindle 7000 .ccw true) .running turningState
    s.sq.recs = ⟨8, .spindle 7000 .ccw true⟩ :: markBehind ∧ s.sgu.gear = .engaged .r2 ∧ turning s = true ∧
      s.sgu.p.rangeMax.get .r2 < 7000 ∧ (headed (.spindle 5 .cw false) .running engaged).sgu.st = .off ∧
      engagedRange (headed (.spindle 5 .cw false) .running ready) = none := by decide
theorem witness_SpindleRecord_runs :
    RunsRecord ⟨8, .spindle 300 .cw true⟩ markBehind (headed (.spindle 300 .cw true) .running turningState) ∧
      RunsRecord ⟨8, .spindle 0 .cw true⟩ markBehind (headed (.spindle 0 .cw true) .holding turningState) ∧
      turningState.sgu.st = .atSpeed ∧ ready.sgu.st = .off :=
  ⟨⟨rfl, rfl, .inl rfl⟩, ⟨rfl, rfl, .inr rfl⟩, rfl, rfl⟩
theorem witness_SpindlePeriod :
    let s : State := { turningState with sgu.hist := List.replicate 16 (0 : Int), sgu.pos := 327, sgu.st := .accel }
    s.sgu.hist[15]? = some 0 ∧ turningState.sgu.hist[15]? = none ∧ State.reset.cn.machine = .tripped ∧
      s.cn.machine ≠ .tripped ∧ ((s.sgu.pos - 0).natAbs * 60000 / (s.sgu.p.cpr * 16) ≤ 65535) ∧
      s.sgu.st ≠ .positioning := by decide
theorem witness_GearSelect :
    LinkFree turningState ∧ rangeOf 4 = some .r4 ∧ turningState.cn.machine = .ready ∧ turningState.sq.st = .idle ∧
      shifting turningState = false ∧ engagedRange turningState ≠ some .r4 ∧ engagedRange turningState ≠ none ∧
      turning turningState = true ∧ Still engaged ∧ rangeOf 2 = some .r2 ∧ engagedRange engaged = some .r2 :=
  ⟨⟨rfl, rfl⟩, rfl, rfl, rfl, rfl, by decide, by decide, rfl, still_engaged, rfl, rfl⟩
theorem witness_GearRecord :
    (headed (.gear .r4) .running turningState).sq.recs = ⟨8, .gear .r4⟩ :: markBehind ∧
      shifting (headed (.gear .r4) .running turningState) = false ∧ turningState.sgu.gear ≠ .engaged .r4 ∧
      turningState.sgu.gear = .engaged .r2 ∧
      shifting (headed (.gear .r4) .running { ready with sgu.gear := .meshing, sgu.shift := some (shiftAt 3) }) = true := by
  decide
theorem witness_GearRecord_runs :
    let s := headed (.gear .r4) .running turningState
    RunsRecord ⟨8, .gear .r4⟩ markBehind s ∧ s.sq.handed = false ∧ shifting s = false ∧
      RunsRecord ⟨8, .gear .r2⟩ markBehind (headed (.gear .r2) .holding turningState) :=
  ⟨⟨rfl, rfl, .inl rfl⟩, rfl, rfl, rfl, rfl, .inr rfl⟩
theorem witness_ShiftsFail :
    let s : State := { ready with sgu.gear := .meshing, sgu.shift := some (shiftAt 8), sgu.prepareT := atLimit,
                                  sgu.positionT := atLimit, sgu.dwellT := atLimit }
    s.sgu.shift = some (shiftAt 8) ∧ s.sgu.prepareT.due = true ∧ s.sgu.positionT.due = true ∧ s.sgu.gear = .meshing ∧
      s.sgu.dwellT.due = true ∧ 8 ≤ (shiftAt 8).att (shiftAt 8).cyl := ⟨rfl, by decide⟩
theorem witness_Strokes :
    let s : State := { ready with sgu.gear := .stroking, sgu.shift := some (shiftAt 0), sgu.strokeT := atLimit }
    s.sgu.shift = some (shiftAt 0) ∧ (shiftAt 0).start (shiftAt 0).cyl = some 100 ∧ s.sgu.gear = .stroking ∧
      s.sgu.strokeT.due = true ∧ targetOn s (shiftAt 0).target (shiftAt 0).cyl = false ∧
      (shiftAt 0).att (shiftAt 0).cyl = 0 ∧ (shiftAt 7).att (shiftAt 7).cyl < 8 := ⟨rfl, by decide +kernel⟩
theorem witness_Settle :
    let s : State := { ready with sgu.gear := .settling, sgu.shift := some (shiftAt 1), sgu.settleT := atLimit }
    s.sgu.gear = .settling ∧ s.sgu.settleT.due = true ∧ s.sgu.shiftCount < 4294967295 := by decide +kernel
/-- The spindle is POSITIONING toward 50 from a setpoint, its encoder at a position. -/
def positioningAt (g : GearState) (p pos : Int) : State :=
  { ready with sgu.st := .positioning, sgu.gear := g, sgu.posMoving := true, sgu.pSet := p, sgu.posTarget := 50, sgu.pos := pos }
theorem witness_Positioning :
    let s := positioningAt .orienting 50 49
    let f := positioningAt .meshing 0 (-900000)
    s.cn.machine ≠ .tripped ∧ s.sgu.st = .positioning ∧ (50 - s.sgu.pos).natAbs ≤ s.sgu.p.feLimit ∧
      toward s.sgu.pSet s.sgu.posTarget ((s.sgu.pRem + s.sgu.p.orientSpeed * s.sgu.p.cpr) / 60000) = 50 ∧
      (50 - s.sgu.pos).natAbs ≤ s.sgu.p.inpos ∧ s.sgu.posMoving = true ∧
      toward 0 50 ((f.sgu.pRem + f.sgu.p.orientSpeed * f.sgu.p.cpr) / 60000) ≠ 50 ∧
      f.sgu.p.feLimit < (toward 0 50 ((f.sgu.pRem + f.sgu.p.orientSpeed * f.sgu.p.cpr) / 60000) - f.sgu.pos).natAbs := by
  decide
theorem witness_Learning :
    let k : MeshKey := ⟨.a, .lo, .hi⟩
    let e : MeshEntry := ⟨⟨.b, .lo, .hi⟩, 5, 1, 0, 0⟩
    let t : List MeshEntry := [⟨k, 4090, 255, 2, 0⟩, e, ⟨k, 100, 1, 0, 0⟩]
    MeshApart 4096 16 t ∧ t.length ≤ 11 ∧ e ∈ t ∧ e.key ≠ k :=
  ⟨⟨by decide, by decide +kernel⟩, by decide⟩
theorem witness_Learning_full :
    let t : List MeshEntry := (List.range 12).map fun i => ⟨⟨.a, .lo, .hi⟩, 100 * i, 1, 0, 0⟩
    MeshApart 4096 16 t ∧ t.length = 12 ∧ (∀ e ∈ t, 16 < circDist 4096 e.angle 50) ∧
      (∃ e ∈ t, circDist 4096 e.angle 210 ≤ 16) :=
  ⟨⟨by decide, by decide +kernel⟩, by decide, by decide +kernel, by decide +kernel⟩

theorem witness_CoolantSet :
    let s : State := { ready with am.cmps := ready.am.cmps.set 5 ⟨true, 0, 150, 4⟩ }
    Still s ∧ LinkFree s ∧ s.cn.machine ≠ .tripped ∧ s.cu.flood = .off ∧ levelOk s = true ∧ floodMin s = false ∧
      currentRec s = none := ⟨still_of_isStill (by decide +kernel), ⟨rfl, rfl⟩, by decide +kernel⟩
theorem witness_CoolantSet_tsc :
    let s : State := { ready with cu.tsc := .suspended, cu.pump := true }
    Still s ∧ LinkFree s ∧ s.cu.tsc = .suspended ∧ currentRec s = none :=
  ⟨still_of_isStill (by decide +kernel), ⟨rfl, rfl⟩, by decide⟩
theorem witness_CoolantRecord :
    let s := headed (.coolant .on .unchanged .off (some 300) true) .held { ready with cu.flood := .on }
    s.sq.recs = ⟨8, .coolant .on .unchanged .off (some 300) true⟩ :: markBehind ∧ s.sq.current = true ∧ s.sq.st = .held ∧
      s.cu.flood = .on ∧ s.sq.st ≠ .holding ∧ ready.cu.flood ≠ .on := by decide
theorem witness_CoolantRecord_runs :
    RunsRecord ⟨8, .coolant .on .on .off none true⟩ markBehind (headed (.coolant .on .on .off none true) .running ready) ∧
      ready.cu.tsc ≠ .on := ⟨⟨rfl, rfl, .inl rfl⟩, by decide⟩
theorem witness_FreshFlood :
    ready.cu.flood = .off ∧ levelOk ready = false ∧
      levelOk { ready with am.cmps := ready.am.cmps.set 5 ⟨true, 0, 150, 4⟩ } = true := by decide +kernel
theorem witness_FloodPress : tripped.cn.machine = .tripped ∧ ready.cn.machine ≠ .tripped := by decide
theorem witness_CoolantTimers_faults :
    let s : State := { ready with cu.proveT := atLimit, cu.floodDryT := atLimit, cu.rampT := atLimit, cu.tscDryT := atLimit }
    s.cu.proveT.due = true ∧ s.cu.floodDryT.due = true ∧ s.cu.rampT.due = true ∧ s.cu.tscDryT.due = true ∧
      s.sq.st ≠ .running ∧ s.sq.st ≠ .returning ∧ noJog s := ⟨rfl, rfl, rfl, rfl, by decide, by decide, by intro a; cases a <;> rfl⟩
theorem witness_CoolantTimers_suspended :
    let s : State := { ready with cu.tsc := .suspended, cu.pump := true, cu.keepT := atLimit }
    Still s ∧ s.cu.tsc = .suspended ∧ s.cu.keepT.due = true := ⟨still_of_isStill (by decide +kernel), rfl, rfl⟩
theorem witness_CoolantTimers_purging :
    let s : State := { ready with cu.tsc := .purging, cu.purgeT := atLimit }
    Still s ∧ s.cu.tsc = .purging ∧ s.cu.purgeT.due = true ∧ s.cu.pendingOn = false :=
  ⟨still_of_isStill (by decide +kernel), rfl, rfl, rfl⟩
theorem witness_DutySteps : tscFlows ready = false ∧ ({ ready with cu.tsc := .ramping } : State).cu.tsc = .ramping := by decide

/-- TSC in a state given, the permit holding and the level OK. -/
def tscIn (t : TscState) : State :=
  { turningState with cu.tsc := t, am.next := 2, am.cmps := turningState.am.cmps.set 5 ⟨true, 0, 150, 4⟩ }
theorem witness_Tsc_samples :
    let s : State := { tscIn .ramping with cu.window := 7 }
    let f : State := { tscIn .on with cu.band := 7 }
    Still s ∧ currentRec s = none ∧ s.am.next = 2 ∧ (scaleCounts s.am.chans[2] 1884 : Int) - s.cu.setP = 0 ∧
      8 ≤ s.cu.window + 1 ∧ Still f ∧ f.cu.p.faultBand < ((scaleCounts f.am.chans[2] 4095 : Int) - f.cu.setP).natAbs ∧
      8 ≤ f.cu.band + 1 :=
  ⟨still_of_isStill (by decide +kernel), rfl, rfl, by decide +kernel, by decide, still_of_isStill (by decide +kernel),
    by decide +kernel, by decide⟩
theorem witness_Tsc_fresh :
    let s := tscIn .off
    Still s ∧ LinkFree s ∧ s.cn.machine ≠ .tripped ∧ currentRec s = none ∧ filterBlock s = false ∧
      (permit s && levelOk s) = true ∧ tscOverload s = false ∧ Still (tscIn .fault) ∧ (tscIn .fault).cu.purgeT.on = false ∧
      (permit ready && levelOk ready) = false :=
  ⟨still_of_isStill (by decide +kernel), ⟨rfl, rfl⟩, by decide +kernel, rfl, by decide +kernel, by decide +kernel,
    by decide +kernel, still_of_isStill (by decide +kernel), rfl, by decide +kernel⟩
theorem witness_Tsc_fresh_blocked :
    let s : State := { tscIn .off with am.cmps := (tscIn .off).am.cmps.set 3 ⟨true, 0, 30, 4⟩ }
    Still s ∧ s.cu.tsc = .off ∧ filterBlock s = true := ⟨still_of_isStill (by decide +kernel), rfl, by decide +kernel⟩
theorem witness_Tsc_pressure :
    Still (tscIn .ramping) ∧ Still (tscIn .on) ∧ levelOk (tscIn .on) = true ∧ max 100 (min 700 900) ≠ (tscIn .on).cu.setP ∧
      max 100 (min 700 400) = (tscIn .on).cu.setP ∧ Still (tscIn .purging) :=
  ⟨still_of_isStill (by decide +kernel), still_of_isStill (by decide +kernel), by decide +kernel, by decide, by decide,
    still_of_isStill (by decide +kernel)⟩
theorem witness_Tsc_pressure_low :
    let s : State := { tscIn .on with am.cmps := turningState.am.cmps }
    Still s ∧ levelOk s = false ∧ 0 < s.cu.p.dryTime := ⟨still_of_isStill (by decide +kernel), by decide +kernel, by decide⟩

/-- A status frame's bytes from LENGTH to the CRC: seq 9 and knob 100, with the fields given. -/
def statusOf (counter sel buttons enable : Byte) : List Byte :=
  let inner : List Byte := [9, 0x20, 9, counter, sel, 0, buttons, enable, 100, 0]
  let c := crc16 inner
  inner ++ [BitVec.ofNat 8 (c / 256), BitVec.ofNat 8 (c % 256)]
/-- Selector X, enable MIDDLE. -/
def statusBytes : List Byte := statusOf 0 1 0 1

/-- The pendant's last frame before: W is selected, the enable MIDDLE, nothing pressed. -/
def beforeFrame : StatusFrame := { frameOfEnable .middle with sel := some .w }
/-- A pendant may jog W. -/
def jogging : State :=
  { limitsOk with pp.st := .present, pp.last := some beforeFrame, pp.seen := true, pp.armed := true }
/-- The frame that `statusOf` spells with W selected. -/
def frameW (counter : Nat) (buttons : StatusFrame → StatusFrame) : StatusFrame :=
  buttons { beforeFrame with seq := 9, counter := counter }
theorem new_frame (s : State) (f : StatusFrame) (l : List Byte) (h : s.pp.st = .present ∧ s.pp.last = some beforeFrame ∧
    parseStatus l = some f ∧ beforeFrame.seq ≠ f.seq) : NewFrame s beforeFrame f l := h
theorem witness_Frame_jog :
    let f := frameW 0 fun f => { f with jogP := true }
    Still jogging ∧ NewFrame jogging beforeFrame f (statusOf 0 4 1 1) ∧ JogFrame beforeFrame f ∧ f.sel = some .w ∧
      f.enable = .middle ∧ f.jogP = true ∧ f.jogM = false ∧ beforeFrame.jogP = false ∧
      anyOwner jogging .pendant = false ∧ JogReady jogging ∧ released jogging .w = true ∧
      (jogging.ax.get .w).owner = .none :=
  ⟨still_of_isStill (by decide +kernel), new_frame _ _ _ (by decide +kernel), by unfold JogFrame; decide, rfl, rfl, rfl, rfl,
    rfl, by decide, by unfold JogReady; decide +kernel, rfl, rfl⟩
theorem witness_Frame_jog_held :
    let s : State := { queueIn .held jogging with ax.w.owner := .queue, pi.hold := some ⟨none, jogging.ax.map fun _ k =>
      k.setpoint, ⟨false, false, false, false, false⟩⟩ }
    Still s ∧ JogReady s ∧ (s.ax.get .w).owner = .queue ∧ s.sq.st = .held ∧ anyOwner s .pendant = false :=
  ⟨still_of_isStill (by decide +kernel), by unfold JogReady; decide +kernel, rfl, rfl, by decide⟩
theorem witness_Frame_jog_ignored :
    let s : State := { jogging with pp.armed := false }
    Still s ∧ s.pp.armed = false ∧ NewFrame s beforeFrame (frameW 0 fun f => { f with jogM := true }) (statusOf 0 4 2 1) :=
  ⟨still_of_isStill (by decide +kernel), rfl, new_frame _ _ _ (by decide +kernel)⟩
theorem witness_Frame_start :
    let f := frameW 0 fun f => { f with start := true }
    NewFrame jogging beforeFrame f (statusOf 0 4 16 1) ∧ f.start = true ∧ beforeFrame.start = false ∧ f.hold = false ∧
      jogging.sq.st = .idle ∧ jogging.sq.recs = [] ∧ jogging.sq.current = false ∧ jogging.cn.machine = .ready ∧
      anyRaw jogging .hold = false ∧ anyRaw jogging .stop = false ∧ anyOwner jogging .homing = false ∧
      (∀ c, (jogging.cc.get c).idle = 0) ∧ enableContact jogging = true ∧ Still { jogging with pp.armed := false } :=
  ⟨new_frame _ _ _ (by decide +kernel), rfl, rfl, rfl, rfl, rfl, rfl, rfl, by decide +kernel, by decide +kernel, by decide,
    by intro c; cases c <;> rfl, by decide +kernel, still_of_isStill (by decide +kernel)⟩
theorem witness_Frame_hold :
    let s : State := { queueIn .running jogging with pi.r := 100 }
    let f := frameW 0 fun f => { f with hold := true }
    Still s ∧ NewFrame s beforeFrame f (statusOf 0 4 8 1) ∧ f.hold = true ∧ beforeFrame.hold = false ∧ s.sq.st = .running ∧
      s.pi.r ≠ 0 ∧ anyOwner s .pendant = false :=
  ⟨still_of_isStill (by decide +kernel), new_frame _ _ _ (by decide +kernel), rfl, rfl, rfl, by decide, by decide⟩
theorem witness_Frame_hold_start :
    let s := queueIn .running jogging
    let f := frameW 0 fun f => { f with hold := true, start := true }
    Still s ∧ NewFrame s beforeFrame f (statusOf 0 4 24 1) ∧ s.sq.recs = [] ∧ s.pi.r = 0 ∧ s.pi.hold = none ∧
      s.pp.armed = true ∧ anyRaw s .hold = false ∧ anyRaw s .stop = false ∧ anyRaw s .trip = false ∧
      rawOf s .queueStarved = false ∧ s.rq.length ≤ 29 :=
  ⟨still_of_isStill (by decide +kernel), new_frame _ _ _ (by decide +kernel), rfl, rfl, rfl, rfl, by decide +kernel,
    by decide +kernel, by decide +kernel, by decide +kernel, by decide⟩
theorem witness_Wheel :
    let f := frameW 40 id
    NewFrame jogging beforeFrame f (statusOf 40 4 0 1) ∧ wheelDelta beforeFrame.counter f.counter ≠ 0 ∧ JogReady jogging ∧
      (jogging.ax.get .w).owner = .none ∧ (jogging.pp.jogs.get .w).mode ≠ .button ∧
      min (wheelDelta 0 40).natAbs (jogging.pp.intLimit - jogging.pp.intCount) < (wheelDelta 0 40).natAbs ∧
      jogging.pp.clipped = false ∧ ∀ i, i ≠ .w → (jogging.ax.get i).owner ≠ .pendant :=
  ⟨new_frame _ _ _ (by decide +kernel), by decide, by unfold JogReady; decide +kernel, rfl, by decide, by decide, rfl,
    by intro i; cases i <;> decide⟩
/-- W is the pendant's in the jog mode given. -/
def jogged (m : JogMode) (d : JogDir) : State :=
  { jogging with ax.w.owner := .pendant, pp.jogs.w.mode := m, pp.jogs.w.dir := d, pp.jogs.w.wheel := 500 }
theorem witness_Jog_periods :
    let s := jogged .button .plus
    (s.ax.get .w).owner = .pendant ∧ s.sq.st = .idle ∧ released s .w = true ∧ (periodWork s).cn.machine ≠ .tripped ∧
      (s.ax.get .w).refd = false ∧ s.pp.last = some beforeFrame ∧
      (periodWork (jogged .wheel .none)).cn.machine ≠ .tripped :=
  ⟨rfl, rfl, rfl, by decide +kernel, rfl, rfl, by decide +kernel⟩
/-- W, REFERENCED, is jogged with a direction, velocity and end step from a setpoint and remainder; its soft_max is 0. -/
def jogTo (d : JogDir) (sp rem vel : Int) (fin : EndStep) (brk : Bool) : State :=
  let s := jogged .button d
  { s with ax.w.refd := true, ax.w.setpoint := sp, ax.w.prev := sp, ax.w.enc := sp, ax.w.p.softMax := 0
           pp.jogs.w.vel := vel, pp.jogs.w.rem := rem, pp.jogs.w.fin := fin, pp.jogs.w.brk := brk }
/-- The hypotheses common to the jogs of a REFERENCED axis. -/
def jogRuns (s : State) : Bool :=
  (s.ax.get .w).owner == .pendant && s.sq.st == .idle && released s .w && (periodWork s).cn.machine != .tripped &&
    (s.pp.jogs.get .w).mode == .button && (s.ax.get .w).refd && s.pp.last == some beforeFrame
/-- D + v of R171 for W. -/
def brakingPath (s : State) : Int :=
  let v := (s.pp.jogs.get .w).vel.natAbs
  ((v * v / (2 * aStep (s.ax.get .w).p) + v : Nat) : Int)
/-- The distance of R171 for W's soft_max. -/
def farOf (s : State) : Int := aheadDistance (s.ax.get .w) (s.pp.jogs.get .w) true
theorem witness_Jog_limit_far_and_near :
    let far := jogTo .plus (-70) 0 5000 .none false
    let near := jogTo .plus (-65) 0 5000 .none false
    jogRuns far = true ∧ brakingPath far < farOf far ∧ jogRuns near = true ∧ farOf near ≤ brakingPath near ∧
      jogRuns (jogTo .plus (-65) 0 5000 .jog false) = true ∧ jogRuns (jogTo .minus (-65) 0 (-5000) .none false) = true ∧
      jogRuns (jogTo .none (-65) 300 0 .none false) = true := by decide +kernel
theorem witness_Jog_limit_reached_and_beyond :
    let last := jogTo .plus (-1) 900 200 .none true
    jogRuns last = true ∧ farOf last ≤ brakingPath last ∧ farOf last ≤ 200 ∧ jogRuns (jogTo .plus 0 0 0 .none false) = true ∧
      jogRuns (jogTo .plus 5 300 100 .none false) = true ∧
      (let slack := jogTo .plus (-69) 0 5000 .none true
       jogRuns slack = true ∧ brakingPath slack < farOf slack) := by decide +kernel
theorem witness_PendantFrames :
    ready.pp.st ≠ .testing ∧ (parseStatus statusBytes).isSome = true ∧ parseStatus [] = none ∧ Still ready :=
  ⟨by decide, by decide +kernel, rfl, still_ready⟩
theorem witness_PendantFrames_testing :
    Still { ready with pp.st := .testing } ∧ ({ ready with pp.st := .testing } : State).pp.st = .testing :=
  ⟨still_of_isStill (by decide +kernel), rfl⟩
theorem witness_PendantFrames_repeat :
    let s : State := { pendantIn .middle with pp.last := some { frameOfEnable .middle with seq := 9 } }
    s.pp.st = .present ∧ (s.pp.last.map fun o => o.seq) = (parseStatus statusBytes).map fun f => f.seq := by decide +kernel
theorem witness_PendantTimers :
    Still (pendantIn .middle) ∧ (pendantIn .middle).pp.intT.due = true ∧ (pendantIn .middle).pp.seen = true ∧
      (pendantIn .middle).pp.last = some (frameOfEnable .middle) ∧ (pendantIn .middle).pp.refuseT.due = true ∧
      (pendantIn .middle).pp.clipT.due = true ∧ Still { ready with pp.intT := atLimit } :=
  ⟨still_of_isStill (by decide +kernel), rfl, rfl, rfl, rfl, rfl, still_of_isStill (by decide +kernel)⟩
theorem witness_PendantLoss :
    (pendantIn .middle).pp.last = some (frameOfEnable .middle) ∧ (pendantIn .middle).pp.st = .present ∧
      (pendantIn .middle).pp.freshT.due = true ∧ (pendantIn .middle).pp.mismT.due = true ∧
      rawOf (pendantIn .middle) .pendantEnableMismatch = false := ⟨rfl, rfl, rfl, rfl, by decide +kernel⟩

/-- A line test in the phase given, its timer at its limit. -/
def testingIn (p : LtPhase) : State := { ready with pp.st := .testing, pp.power := false, pp.ltPhase := p, pp.ltT := atLimit }
theorem witness_LineTest_start : Still ready ∧ LinkFree ready ∧ ready.pp.st ≠ .testing ∧ anyOwner ready .pendant = false :=
  ⟨still_ready, free_ready, by decide⟩
theorem witness_LineTest_phases :
    Still (testingIn .wait) ∧ Still (testingIn .listen) ∧ Still (testingIn .echo) ∧ (testingIn .wait).pp.ltT.due = true ∧
      (testingIn .echo).pp.st = .testing ∧ 378 * (testingIn .echo).pp.lineVf * 3 / 4000 ≤ 511 :=
  ⟨still_of_isStill (by decide +kernel), still_of_isStill (by decide +kernel), still_of_isStill (by decide +kernel),
    by decide⟩
theorem witness_WheelDelta : 255 < 256 ∧ 127 < 256 ∧ -128 ≤ (-128 : Int) ∧ ((255 : Int) + -128) % 256 = (127 : Nat) := by decide

theorem witness_Inputs :
    let s : State := { ready with inp := ready.inp.set 4 ⟨true, false, true, 5, 5⟩ }
    Still ready ∧ ready.inp[(9 : Fin 32)].raw ≠ true ∧ 0 < ready.inp[(9 : Fin 32)].ft ∧
      s.inp[(4 : Fin 32)].ft ≤ s.inp[(4 : Fin 32)].t ∧ s.inp[(4 : Fin 32)].raw ≠ s.inp[(4 : Fin 32)].filt :=
  ⟨still_ready, by decide +kernel⟩
theorem witness_Conversions :
    4095 ≤ 4095 ∧ (AnalogCh.reset 600).zero < 4095 ∧ (Cmp.reset 150).cnt = 0 ∧ 1 ≤ (Cmp.reset 150).conf ∧
      (∀ v ∈ [150, 200, 600, 150], decide ((Cmp.reset 150).thr ≤ v) ≠ (Cmp.reset 150).above) ∧
      [150, 200, 600, 150].length = (Cmp.reset 150).conf := by decide

theorem reset_LinkInv : LinkInv State.reset := ⟨by decide, fun _ => rfl⟩
theorem reset_FlowInv : FlowInv State.reset := ⟨by decide, by decide, by decide⟩
theorem reset_NeverInv : NeverInv State.reset := by intro c; cases c <;> decide
theorem witness_TscInvariant :
    let s : State := { turningState with cu.tsc := .on, cu.pump := true, cu.duty := 300, pending := [.spindleSetStop 1] }
    TscInv s ∧ ∃ t : State, step s = .next t ∧ t.cu.tsc = .suspended :=
  ⟨⟨by decide, by decide⟩,
    after (.spindleSetStop 1) { turningState with cu.tsc := .on, cu.pump := true, cu.duty := 300 }, rfl, by decide +kernel⟩
theorem witness_QueueInvariants :
    let s : State := { waitingLink 4 with pending := [.replySent] }
    LinkInv s ∧ QueuesInv s ∧ FlowInv s ∧ NeverInv s ∧ ∃ t : State, step s = .next t ∧ t.hlp.fifo.length = 3 :=
  ⟨⟨by decide, by decide⟩, ⟨by decide, by decide⟩, ⟨by decide, by decide, by decide⟩,
    by intro c; cases c <;> decide, after .replySent (waitingLink 4), rfl, by decide +kernel⟩
theorem witness_TrippedOff :
    let s : State := { State.reset with pending := [.pathPeriod] }
    NeverInv s ∧ TrippedOff s ∧ s.cn.machine = .tripped ∧ ∃ t : State, step s = .next t ∧ t.cn.machine = .tripped :=
  ⟨by intro c; cases c <;> decide,
    fun _ => ⟨rfl, by intro a; cases a <;> rfl, .inl rfl, rfl, rfl, rfl, .inl rfl, rfl, rfl,
      by intro c; cases c <;> exact .inl rfl⟩, rfl, after .pathPeriod State.reset, rfl, by decide +kernel⟩

theorem witness_TrippedAxes :
    let s : State := { State.reset with pending := [.pathPeriod] }
    HomingInv s ∧ TrippedAxes s ∧ ReleasedFree s ∧ ∃ t : State, step s = .next t ∧ t.cn.machine = .tripped :=
  ⟨by intro a; cases a <;> decide, fun _ => by intro a; cases a <;> decide, by intro c; cases c <;> decide,
    after .pathPeriod State.reset, rfl, by decide +kernel⟩

/-! ## Values that the spec works out -/

/-- R209: the CRC of the digits 1 to 9 by this polynomial, initial value and bit order. -/
theorem test_crc_of_check_digits : crc16 [0x31, 0x32, 0x33, 0x34, 0x35, 0x36, 0x37, 0x38, 0x39] = 0x29B1 := by decide +kernel
/-- The frame of State.reset is the HELLO that R207 queues. -/
theorem test_hello_bytes : helloBytesReset = reportFrame ⟨.hello .power 0, 0, 0⟩ := by decide +kernel
/-- Power-on of any state with open straps and pins off is the reset state (R207). -/
theorem test_power_on : after (.hardwareReset .power false false 0) State.reset = State.reset := by decide +kernel
/-- Section 2.2's values of the rate target. -/
theorem test_rate_targets :
    25 * 65536 / 100 = 16384 ∧ rateTarget { moving .running with pi.feed := 33 } ⟨.feed, 1, 1, [], 0⟩ = 21626 ∧
      rateTarget { moving .running with sgu.sAct := 587 } ⟨.fpr, 1, 600, [], 0⟩ = 64116 ∧
      rateTarget { moving .running with sgu.sAct := 1000, pi.feed := 150 } ⟨.fpr, 1, 600, [], 0⟩ = 131072 := by decide +kernel
/-- Section 4.3.1: the target at 1 234 567 is −2 in LINEAR and +12 in STEP mode. -/
theorem test_worked_correction :
    (compStep (workedBank .linear) true 1234567).target = -2 ∧ (compStep (workedBank .linear) true 1234567).c = 3 ∧
      (compStep (workedBank .step) true 1234567).target = 12 := by decide +kernel
/-- R32, R42: from standstill the first period's rate is the path ramp of 131, and so is the phase. -/
theorem test_first_period :
    (periodWork (onPath .running 0 0 true [])).pi.r = 131 ∧
      (periodWork (onPath .running 0 0 true [])).pi.move = some (pathMove 131) := by decide +kernel
/-- R43: the surplus of a carry is the incoming MOVE's phase. -/
theorem test_carry :
    ((periodWork (onPath .running nearEnd 10000 false behind)).pi.move.map fun m => m.p) = some (10131 - 100) ∧
      (periodWork (onPath .running nearEnd 10000 false behind)).sq.lastSeq = 8 := by decide +kernel
/-- R112: the at-speed bands of 900 and 120 rpm. -/
theorem test_speed_bands : speedBand 900 5 = 45 ∧ speedBand 120 5 = 10 := by decide
/-- R179: 378 ns at 660 permille are 187 units. -/
theorem test_echo_distance : echoDistance 378 660 = 187 := by decide
/-- R44: halves round away from zero. -/
theorem test_rounding : divRound 1 2 = 1 ∧ divRound (-1) 2 = -1 ∧ divRound (-691340) 50000 = -14 := by decide
/-- R173: deltas of the handwheel counter. -/
theorem test_wheel_wraps : wheelDelta 250 4 = 10 ∧ wheelDelta 4 250 = -10 ∧ wheelDelta 0 128 = -128 := by decide
/-- Table 11-1: the rates of the straps. -/
theorem test_straps : strapRate false true = 1 ∧ strapRate true false = 2 ∧ strapRate true true = 0 := by decide

/-! ## One step of some commands -/

/-- R201: the chain is still open after power-on, so RESET_TRIP is refused. -/
theorem test_reset_trip_refused : codeAfter (.resetTrip 1) State.reset = some .wrongState := by decide +kernel
/-- R214: an id that no chapter defines. -/
theorem test_unknown_param : codeAfter (.setParam 1 0x0999 0 0) ready = some .outOfRange := by decide +kernel
/-- R5: nine records are refused whole, and 8 into 7 free slots give QUEUE_FULL. -/
theorem test_append_counts :
    codeAfter (.append 1 9 []) ready = some .outOfRange ∧
      codeAfter (.append 1 8 (List.replicate 8 (.mark 1 0))) (filled 57 .stopped) = some .queueFull := by decide +kernel
/-- R4: the index of the record that fails stands in the reply. -/
theorem test_append_index :
    answer (.append 1 2 [.mark 1 0, .dwell 2 0]) ready = some ⟨.outOfRange, [.u8 64, .u8 0, .u8 1, .u8 1]⟩ := by decide +kernel
/-- R68: an axis whose limit is active is not homed. -/
theorem test_home_at_a_limit : codeAfter (.home 1 3) ready = some .wrongState := by decide +kernel
/-- R81: a missing point, and a check that is wrong. -/
theorem test_commit_refusals :
    answer (.compCommit 1 0 128 0 1 0 129) loaded = some ⟨.badCheck, [.u16 128]⟩ ∧
      codeAfter (.compCommit 1 1 2 0 1 0 0) loaded = some .wrongState := by decide +kernel
/-- R113: no gear is engaged. -/
theorem test_run_without_gear : codeAfter (.spindleSetRun 1 100 0) ready = some .wrongState := by decide +kernel
/-- R108: 7000 rpm are clamped to 6000 and then to the 375 rpm of range 2. -/
theorem test_run_clamps :
    (after (.spindleSetRun 1 7000 1) engaged).sgu.target = 375 ∧ (after (.spindleSetRun 1 7000 1) engaged).sgu.st = .accel := by
  decide +kernel
/-- R119: a shift that starts while the spindle turns. -/
theorem test_shift_starts :
    (after (.gearSelect 1 3) turningState).sgu.gear = .preparing ∧ (after (.gearSelect 1 3) turningState).sgu.st = .decel := by
  decide +kernel
/-- R142: the level is low, so flood faults. -/
theorem test_flood_at_low_level : (after (.coolantSet 1 1 0 0 none) ready).cu.flood = .fault := by decide +kernel
/-- R178: activity in LISTEN fails the line test. -/
theorem test_line_activity : (after .lineTestActivity (testingIn .listen)).pp.ltLast = some .failed := by decide +kernel
/-- R59: enc_dir 1 turns the sense of an edge. -/
theorem test_encoder_sense :
    (after (.encoderEdge .x true) ready).ax.x.enc = 1 ∧
      (after (.encoderEdge .x true) { ready with ax.x.p.encDir := 1 }).ax.x.enc = -1 := by decide +kernel
/-- R1 and R23: a MARK of a RUNNING queue completes in the event of its APPEND. -/
theorem test_mark_runs_through :
    (after (.append 1 1 [.mark 77 0]) (queueIn .running ready)).sq.lastSeq = 77 ∧
      (after (.append 1 1 [.mark 77 0]) (queueIn .running ready)).sq.recs = [] := by decide +kernel
/-- R163: 50 ms without a frame while the enable is MIDDLE. -/
theorem test_pendant_lost :
    (after .pendantTimeout (pendantIn .middle)).pp.st = .lost ∧
      (condEntry (after .pendantTimeout (pendantIn .middle)) .pendantLost).latched = true := by decide +kernel
/-- R167: HOLD and START in one frame hold and resume a queue that stands still. -/
theorem test_hold_and_start :
    (after (.pendantFrame (statusOf 0 4 24 1)) (queueIn .running jogging)).sq.st = .running ∧
      (after (.pendantFrame (statusOf 0 4 24 1)) (queueIn .running jogging)).rq.length = jogging.rq.length + 3 := by
  decide +kernel
/-- R160 step 7: START dispatches a COOLANT record before the frame's FLOOD press, which then finds flood ON demanded. -/
theorem test_start_before_flood :
    let s : State := { jogging with sq.recs := [⟨8, .coolant .on .unchanged .unchanged none false⟩] }
    (after (.pendantFrame (statusOf 0 4 48 1)) s).cu.floodDem = false ∧
      (after (.pendantFrame (statusOf 0 4 16 1)) s).cu.floodDem = true ∧
      (after (.pendantFrame (statusOf 0 4 48 1)) s).sq.lastSeq = 8 := by decide +kernel
/-- R160 step 7: the HOLD of a FLOOD press that faults stands, HELD, before the frame's JOG press, which takes W. -/
theorem test_flood_hold_before_jog :
    let s : State := { queueIn .running jogging with ax.w.owner := .queue }
    (after (.pendantFrame (statusOf 0 4 33 1)) s).sq.st = .held ∧
      ((after (.pendantFrame (statusOf 0 4 33 1)) s).ax.get .w).owner = .pendant := by decide +kernel
/-- R111: 3277 counts of 4096 a turn in 16 periods are 3000 rpm. -/
theorem test_measured_speed : speedOf 4096 3277 = 3000 := by decide +kernel
/-- R20: a no-wait SPINDLE record completes though the gear is not ENGAGED. -/
theorem test_spindle_record_without_gear :
    let s : State := { queueIn .running ready with sq.recs := [⟨12, .spindle 100 .cw false⟩] }
    (dispatchHead s).sq.lastSeq = 12 ∧ (condEntry (dispatchHead s) .gearNotEngaged).latched = true := by decide +kernel
/-- R160: a frame makes an ABSENT pendant PRESENT, and its answer is sent. -/
theorem test_pendant_frame :
    (after (.pendantFrame statusBytes) ready).pp.st = .present ∧ (after (.pendantFrame statusBytes) ready).pp.tx.isSome = true :=
  by decide +kernel

/-- 3.4.1 and R184: the home switch ends SEARCH in the event of its filtered change. -/
theorem test_home_switch_ends_search :
    ((after (.inputFilterTimeReached 15) (switching true .search .active)).ax.get .w).phase = .searchStop := by decide +kernel
/-- 8.7.1: 70 pu from the limit the jog still runs at 5000, and 65 pu from it it brakes to 4800. -/
theorem test_jog_brakes :
    ((periodWork (jogTo .plus (-70) 0 5000 .none false)).ax.get .w).setpoint = -65 ∧
      ((periodWork (jogTo .plus (-70) 0 5000 .none false)).pp.jogs.get .w).vel = 5000 ∧
      ((periodWork (jogTo .plus (-65) 0 5000 .none false)).pp.jogs.get .w).vel = 4800 := by decide +kernel
/-- R171: beyond the limit the jog does not move toward it, and R170's remainder stays. -/
theorem test_jog_beyond_the_limit :
    let u := periodWork (jogTo .plus 5 300 100 .none false)
    (u.ax.get .w).setpoint = 5 ∧ (u.pp.jogs.get .w).rem = 300 ∧ (u.pp.jogs.get .w).vel = 0 := by decide +kernel
/-- R171: a press forgets the braking of the jog before it, so far from the limit the jog gains speed. -/
theorem test_press_forgets_braking :
    let s := startJog .w .plus (jogTo .plus (-1000) 0 600 .jog true)
    ((periodWork s).pp.jogs.get .w).vel = 800 := by decide +kernel

end Sys2Proof.Tests
end

section
/-! SUPPORT. The segment queue: what the flow evaluation and the drained test leave alone (R25, R26), what a completed
record leaves behind (R16), a request that a free link takes (R211), and the calm states that FLUSH leads to (R15). -/

namespace Sys2Proof.Machine

/-! ## The report queue with room left (R204) -/

/-- Nothing queued before is lost, and at most one entry joins. -/
def Reports (s t : State) : Prop := s.rq <+: t.rq ∧ t.rq.length ≤ s.rq.length + 1

theorem reports_refl (s : State) : Reports s s := ⟨List.prefix_rfl, Nat.le_succ _⟩

theorem reports_queueReport (k : Report) {s : State} (h : s.rq.length < 32) : Reports s (queueReport k s) := by
  unfold Reports
  rw [queueReport_rq_lt k h]
  exact ⟨List.prefix_append _ _, by simp⟩

/-! ## The flow evaluation and the drained test (R25, R26) -/

/-- The flow evaluation sets the flow state and queues its report, or does nothing. -/
theorem flowEval_cases (s : State) :
    flowEval s = s ∨ ∃ (k : Report) (f : Flow), flowEval s = queueReport k { s with sq.flow := f } := by
  unfold flowEval
  split <;> split
  · exact .inr ⟨_, _, rfl⟩
  · exact .inl rfl
  · exact .inr ⟨_, _, rfl⟩
  · exact .inl rfl

/-- The drained test disarms its flag and queues its report, or does nothing. -/
theorem drainTest_cases (s : State) :
    drainTest s = s ∨ ∃ k : Report, drainTest s = queueReport k { s with sq.armed := false } := by
  unfold drainTest
  split
  · exact .inr ⟨_, rfl⟩
  · exact .inl rfl

@[simp] theorem flowEval_recs (s : State) : (flowEval s).sq.recs = s.sq.recs := by
  obtain h | ⟨k, f, h⟩ := flowEval_cases s <;> simp [h]
@[simp] theorem flowEval_current (s : State) : (flowEval s).sq.current = s.sq.current := by
  obtain h | ⟨k, f, h⟩ := flowEval_cases s <;> simp [h]
@[simp] theorem flowEval_lastSeq (s : State) : (flowEval s).sq.lastSeq = s.sq.lastSeq := by
  obtain h | ⟨k, f, h⟩ := flowEval_cases s <;> simp [h]
@[simp] theorem drainTest_recs (s : State) : (drainTest s).sq.recs = s.sq.recs := by
  obtain h | ⟨k, h⟩ := drainTest_cases s <;> simp [h]
@[simp] theorem drainTest_current (s : State) : (drainTest s).sq.current = s.sq.current := by
  obtain h | ⟨k, h⟩ := drainTest_cases s <;> simp [h]
@[simp] theorem drainTest_lastSeq (s : State) : (drainTest s).sq.lastSeq = s.sq.lastSeq := by
  obtain h | ⟨k, h⟩ := drainTest_cases s <;> simp [h]

theorem reports_flowEval {s : State} (h : s.rq.length < 32) : Reports s (flowEval s) := by
  obtain e | ⟨k, f, e⟩ := flowEval_cases s
  · rw [e]; exact reports_refl s
  · rw [e]; exact reports_queueReport k (s := { s with sq.flow := f }) h

theorem reports_drainTest {s : State} (h : s.rq.length < 32) : Reports s (drainTest s) := by
  obtain e | ⟨k, e⟩ := drainTest_cases s
  · rw [e]; exact reports_refl s
  · rw [e]; exact reports_queueReport k (s := { s with sq.armed := false }) h

/-- Under the thresholds of R28 an empty queue turns STOPPED into GO, and is never stopped. -/
theorem flowEval_empty {s : State} (hf : FlowInv s) (he : s.sq.recs = []) :
    flowEval s = if s.sq.flow = .stopped then queueReport (.flowGo 0) { s with sq.flow := .go } else s := by
  obtain ⟨hhigh, -, -⟩ := hf
  unfold flowEval
  rw [he]
  cases s.sq.flow with
  | go => simp; omega
  | stopped => simp

/-! ## Completion of the head record (R16) -/

theorem completeHead_of_cons {s : State} {r : QRec} {rs : List QRec} (h : s.sq.recs = r :: rs) :
    completeHead s = drainTest (flowEval { s with
      sq.recs := rs, sq.current := false, sq.dwellLeft := 0, sq.waiting := false, sq.handed := false,
      sq.lastSeq := r.seq, pi.move := none }) := by
  unfold completeHead; rw [h]

theorem completed_completeHead {s : State} {r : QRec} {rs : List QRec} (h : s.sq.recs = r :: rs) :
    Completed r.seq rs (completeHead s) := by
  rw [completeHead_of_cons h]; simp [Completed]

/-- A completion loses no report that is queued before it: it queues at most a flow report and DRAINED. -/
theorem rq_prefix_completeHead {s : State} (h : s.rq.length ≤ 30) : s.rq <+: (completeHead s).rq := by
  cases hr : s.sq.recs with
  | nil => unfold completeHead; rw [hr]
  | cons r rs =>
    rw [completeHead_of_cons hr]
    set u : State := { s with
      sq.recs := rs, sq.current := false, sq.dwellLeft := 0, sq.waiting := false, sq.handed := false,
      sq.lastSeq := r.seq, pi.move := none }
    have hlen : u.rq.length ≤ 30 := h
    obtain ⟨hflow, hroom⟩ := reports_flowEval (s := u) (by omega)
    obtain ⟨hdrain, -⟩ := reports_drainTest (s := flowEval u) (by omega)
    exact hflow.trans hdrain

/-- R23: the dispatch of a MARK without end flag reports it and completes it. -/
theorem dispatchHead_mark {s : State} {q : Nat} {rs : List QRec} (h : s.sq.recs = ⟨q, .mark false⟩ :: rs) :
    dispatchHead s = completeHead (queueReport (.markReached q) (headCurrent s)) := by
  unfold dispatchHead; rw [h]; rfl

/-- Settles O25: the MARK's report joins the queue at the tail, and the at most two reports of the completion follow
it. -/
theorem markCompletesAtDispatch : Obligations.MarkCompletesAtDispatch := by
  intro s q rs hrecs hroom
  rw [dispatchHead_mark hrecs]
  set u := queueReport (.markReached q) (headCurrent s) with hu
  have hrq : u.rq = s.rq ++ [⟨.markReached q, s.hlp.ms, 0⟩] :=
    queueReport_rq_lt _ (s := headCurrent s) (Nat.lt_of_le_of_lt hroom (by decide))
  have hlen : u.rq.length ≤ 30 := by simp [hrq]; omega
  have hhead : u.sq.recs = ⟨q, .mark false⟩ :: rs := by rw [hu, queueReport_sq]; exact hrecs
  obtain ⟨hrest, hcur, hseq⟩ := completed_completeHead hhead
  refine ⟨hrest, hcur, hseq, ?_⟩
  obtain ⟨later, hlater⟩ := rq_prefix_completeHead hlen
  simp [← hlater, hrq]

/-! ## A request that a free link takes (R211) -/

/-- The receiver hunts and no request waits: the state from which a free link's request is served. -/
def linkCleared (s : State) : State := { s with hlp.rx := .hunting, hlp.fifo := [] }

/-- A free link serves a request at once, and its reply stands in the slot. -/
theorem accept_of_linkFree {s : State} (h : LinkFree s) (tag : Nat) (r : Request) :
    accept tag r s = { (serve r (linkCleared s)).2 with
      hlp.slot := some ⟨requestKind r, tag, (serve r (linkCleared s)).1⟩ } := by
  obtain ⟨hslot, hfifo⟩ := h
  unfold accept takeNext linkCleared
  simp [hslot, hfifo]

/-- A request that a free link takes ends its event with the reply sent, where its service leaves a still state. -/
theorem done_accept_of_linkFree {s t : State} {a : Answer} (h : LinkFree s) (tag : Nat) {r : Request}
    (hserve : serve r (linkCleared s) = (a, linkCleared t)) (hstill : Still (replied (requestKind r) tag a t)) :
    done (accept tag r s) = .next (transmit (replied (requestKind r) tag a t)) := by
  obtain ⟨hcalm, hdue⟩ := hstill
  have hacc : accept tag r s = replied (requestKind r) tag a t := by
    rw [accept_of_linkFree h, hserve]; rfl
  unfold done
  rw [hacc, finish_calm hcalm, pendantSend_of_not_due hdue]

theorem queueReport_linkCleared (k : Report) (s : State) :
    queueReport k (linkCleared s) = linkCleared (queueReport k s) := by
  unfold queueReport
  rw [apply_ite linkCleared]; rfl

theorem flowEval_linkCleared (s : State) : flowEval (linkCleared s) = linkCleared (flowEval s) := by
  unfold flowEval
  rw [show (linkCleared s).sq = s.sq from rfl]
  cases s.sq.flow with
  | go => rw [apply_ite linkCleared, ← queueReport_linkCleared]; rfl
  | stopped => rw [apply_ite linkCleared, ← queueReport_linkCleared]; rfl

/-! ## Calm states (entry 1) -/

/-- No closing rule reads the report queue. -/
theorem Resting.queueReport {s : State} (h : Resting s) (k : Report) : Resting (queueReport k s) := by
  unfold Machine.queueReport
  split <;> exact { h with }

/-- No closing rule reads the link. -/
theorem Resting.replied {s : State} (h : Resting s) (kind tag : Nat) (a : Answer) :
    Resting (replied kind tag a s) := { h with }

/-- No closing rule reads the flow state. -/
theorem Resting.flowEval {s : State} (h : Resting s) : Resting (flowEval s) := by
  obtain e | ⟨k, f, e⟩ := flowEval_cases s
  · rw [e]; exact h
  · rw [e]; exact Resting.queueReport (s := { s with sq.flow := f }) { h with } k

/-- In IDLE the closing rules ask nothing of the records. -/
theorem Resting.clearRecords {s : State} (h : Resting s) (hidle : s.sq.st = .idle) : Resting (clearRecords s) :=
  { h with
    record := rfl
    queue := by unfold queueRests; rw [show (Machine.clearRecords s).sq.st = .idle from hidle] }

/-! ## FLUSH (R15) -/

/-- FLUSH in IDLE leaves a calm state calm, and owes the pendant nothing new. -/
theorem still_replied_flush {s : State} (h : Still s) (hidle : s.sq.st = .idle) (tag : Nat) :
    Still (replied 0x15 tag ⟨.ok, []⟩ (flowEval (clearRecords s))) := by
  obtain ⟨hcalm, hdue⟩ := h
  refine ⟨(calm_iff _).2 ((((calm_iff s).1 hcalm).clearRecords hidle).flowEval.replied _ _ _), ?_⟩
  obtain e | ⟨k, f, e⟩ := flowEval_cases (clearRecords s)
  · rw [e]; exact hdue
  · rw [e]; exact (congrArg Pendant.answerDue (queueReport_pp k _)).trans hdue

theorem serve_flush (s : State) :
    serve .flush s = if s.sq.st = .idle then (⟨.ok, []⟩, flowEval (clearRecords s)) else (⟨.wrongState, []⟩, s) := rfl

/-- Settles O22: with the records gone the flow evaluation is the one of an empty queue, and the state it leaves is
calm again, so nothing but the reply follows. -/
theorem flushEmptiesAnIdleQueue : Obligations.FlushEmptiesAnIdleQueue := by
  intro s hflow u w
  have hw : flowEval (clearRecords s) = w := flowEval_empty hflow rfl
  rw [← hw]
  refine ⟨serve_flush s, fun tag hstill hfree hidle => ?_⟩
  have hserve : serve .flush (linkCleared s) = (⟨.ok, []⟩, linkCleared (flowEval (clearRecords s))) := by
    rw [serve_flush, if_pos (show (linkCleared s).sq.st = .idle from hidle), ← flowEval_linkCleared]; rfl
  exact done_accept_of_linkFree hfree tag hserve (still_replied_flush hstill hidle tag)

end Sys2Proof.Machine
end

section
/-! SUPPORT. The flood circuit: what a HOLD-class raise leaves alone and what it stores (R195, R197), the entry into
flood FAULT (R145), and a fresh demand ON (R142). -/

namespace Sys2Proof.Machine

/-! ## The HOLD-class raise (R195, R197) -/

@[simp] theorem setQState_cu (q : QState) (s : State) : (setQState q s).cu = s.cu := by
  unfold setQState
  split
  · rfl
  · dsimp only; split <;> simp

@[simp] theorem sqHold_cu (s : State) : (sqHold s).cu = s.cu := by unfold sqHold; split <;> simp

@[simp] theorem endAllJogs_cu (e : EndStep) (s : State) : (endAllJogs e s).cu = s.cu := rfl

@[simp] theorem raiseHold_cu (c : Cond) (q : Nat) (v : Int) (s : State) : (raiseHold c q v s).cu = s.cu := by
  unfold raiseHold; dsimp only; split <;> simp

/-- A change of queue state touches no entry of the condition table but QUEUE_STARVED (R6, R41). -/
theorem condEntry_setQState {d : Cond} (h : d ≠ .queueStarved) (q : QState) (s : State) :
    condEntry (setQState q s) d = condEntry s d := by
  have hreport : ∀ k : Report, condEntry (queueReport k { s with sq.st := q }) d = condEntry s d :=
    fun k => condEntry_queueReport k d _
  unfold setQState
  split
  · rfl
  · dsimp only
    split
    · rw [condEntry_fall, if_neg h.symm, hreport]
    · exact hreport _

theorem condEntry_sqHold {d : Cond} (h : d ≠ .queueStarved) (s : State) :
    condEntry (sqHold s) d = condEntry s d := by
  unfold sqHold
  split
  · exact condEntry_setQState h _ s
  · rfl

@[simp] theorem condEntry_endAllJogs (e : EndStep) (s : State) (d : Cond) :
    condEntry (endAllJogs e s) d = condEntry s d := rfl

/-- The reaction of a HOLD-class raise leaves the entry as the latch of R195 has stored it. -/
theorem condEntry_raiseHold {c : Cond} (h : c ≠ .queueStarved) (q : Nat) (v : Int) (s : State) :
    condEntry (raiseHold c q v s) c =
      { condEntry s c with latched := true, last := some ⟨s.hlp.ms, q, fit32 v⟩ } := by
  have hlatch := condEntry_latch c c q v s
  rw [if_pos rfl] at hlatch
  unfold raiseHold
  dsimp only
  split
  · exact hlatch
  · rw [condEntry_endAllJogs, condEntry_sqHold h, hlatch]

/-! ## Flood FAULT (R145) -/

/-- The pump runs in PROVING and ON, and in no other flood state (R142, R143). -/
theorem floodPump_iff (s : State) : floodPump s = true ↔ s.cu.flood = .proving ∨ s.cu.flood = .on := by
  simp [floodPump]

@[simp] theorem floodFault_flood (v : Int) (s : State) : (floodFault v s).cu.flood = .fault := by
  unfold floodFault; rw [raiseHold_cu]

/-- FLOOD_NOT_PROVEN carries the time, the seq of the record that waits on flood, and the cause. -/
theorem condEntry_floodFault (v : Int) (s : State) :
    condEntry (floodFault v s) .floodNotProven =
      { condEntry s .floodNotProven with latched := true, last := some ⟨s.hlp.ms, floodSeq s, fit32 v⟩ } :=
  condEntry_raiseHold (by decide) _ _ _

/-! ## A fresh demand ON (R142) -/

theorem floodFresh_of_level_ok {s : State} (hoff : s.cu.flood = .off) (hlevel : levelOk s = true) :
    floodFresh s = { s with cu.flood := .proving, cu.proveT := .start s.cu.p.floodProve } := by
  unfold floodFresh; rw [hoff]; exact if_pos hlevel

theorem floodFresh_of_level_low {s : State} (hoff : s.cu.flood = .off) (hlevel : levelOk s = false) :
    floodFresh s = floodFault 3 s := by
  unfold floodFresh; rw [hoff]; exact if_neg (by simp [hlevel])

/-- Settles O46, by the level: OK starts the proof, low is the entry into FAULT with cause 3, whose raise keeps the
Coolant Unit's fields and the stored value. -/
theorem freshFloodIsTakenByTheLevel : Obligations.FreshFloodIsTakenByTheLevel := by
  intro s hoff
  refine ⟨?pumpOff, fun hok => ?levelOk, fun hlow => ?levelLow⟩
  case pumpOff =>
    rw [← Bool.not_eq_true, floodPump_iff, hoff]; decide
  case levelOk =>
    rw [floodFresh_of_level_ok hoff hok]
    exact ⟨rfl, (floodPump_iff _).2 (.inl rfl), rfl⟩
  case levelLow =>
    rw [floodFresh_of_level_low hoff hlow, condEntry_floodFault, fit32_of_mem (by decide) (by decide)]
    refine ⟨floodFault_flood 3 s, ?_, rfl, rfl, rfl⟩
    rw [← Bool.not_eq_true, floodPump_iff, floodFault_flood]; decide

end Sys2Proof.Machine
end

section
/-! SUPPORT. Field by field, what the changes of the queue, its evaluations and the HOLD-class raise leave alone, for
`simp`. -/

namespace Sys2Proof.Machine

/-! ## A change of queue state (R6) -/

@[simp] theorem setQState_sq (q : QState) (s : State) : (setQState q s).sq = { s.sq with st := q } := by
  unfold setQState; split
  · next h => rw [← h]
  · dsimp only; split <;> simp
@[simp] theorem setQState_pending (q : QState) (s : State) : (setQState q s).pending = s.pending := by
  unfold setQState; split
  · rfl
  · dsimp only; split <;> simp
@[simp] theorem setQState_free (q : QState) (s : State) : (setQState q s).free = s.free := by
  unfold setQState; split
  · rfl
  · dsimp only; split <;> simp
@[simp] theorem setQState_pi (q : QState) (s : State) : (setQState q s).pi = s.pi := by
  unfold setQState; split
  · rfl
  · dsimp only; split <;> simp
@[simp] theorem setQState_ax (q : QState) (s : State) : (setQState q s).ax = s.ax := by
  unfold setQState; split
  · rfl
  · dsimp only; split <;> simp
@[simp] theorem setQState_cs (q : QState) (s : State) : (setQState q s).cs = s.cs := by
  unfold setQState; split
  · rfl
  · dsimp only; split <;> simp
@[simp] theorem setQState_cc (q : QState) (s : State) : (setQState q s).cc = s.cc := by
  unfold setQState; split
  · rfl
  · dsimp only; split <;> simp
@[simp] theorem setQState_hs (q : QState) (s : State) : (setQState q s).hs = s.hs := by
  unfold setQState; split
  · rfl
  · dsimp only; split <;> simp
@[simp] theorem setQState_sgu (q : QState) (s : State) : (setQState q s).sgu = s.sgu := by
  unfold setQState; split
  · rfl
  · dsimp only; split <;> simp
@[simp] theorem setQState_pp (q : QState) (s : State) : (setQState q s).pp = s.pp := by
  unfold setQState; split
  · rfl
  · dsimp only; split <;> simp
@[simp] theorem setQState_inp (q : QState) (s : State) : (setQState q s).inp = s.inp := by
  unfold setQState; split
  · rfl
  · dsimp only; split <;> simp
@[simp] theorem setQState_am (q : QState) (s : State) : (setQState q s).am = s.am := by
  unfold setQState; split
  · rfl
  · dsimp only; split <;> simp
@[simp] theorem setQState_hlp (q : QState) (s : State) : (setQState q s).hlp = s.hlp := by
  unfold setQState; split
  · rfl
  · dsimp only; split <;> simp
@[simp] theorem setQState_machine (q : QState) (s : State) : (setQState q s).cn.machine = s.cn.machine := by
  unfold setQState; split
  · rfl
  · dsimp only; split <;> simp

/-! ## The flow evaluation and the drained test (R25, R26) -/

@[simp] theorem flowEval_pending (s : State) : (flowEval s).pending = s.pending := by
  obtain h | ⟨k, f, h⟩ := flowEval_cases s <;> simp [h]
@[simp] theorem drainTest_pending (s : State) : (drainTest s).pending = s.pending := by
  obtain h | ⟨k, h⟩ := drainTest_cases s <;> simp [h]
@[simp] theorem flowEval_free (s : State) : (flowEval s).free = s.free := by
  obtain h | ⟨k, f, h⟩ := flowEval_cases s <;> simp [h]
@[simp] theorem drainTest_free (s : State) : (drainTest s).free = s.free := by
  obtain h | ⟨k, h⟩ := drainTest_cases s <;> simp [h]
@[simp] theorem flowEval_pi (s : State) : (flowEval s).pi = s.pi := by
  obtain h | ⟨k, f, h⟩ := flowEval_cases s <;> simp [h]
@[simp] theorem drainTest_pi (s : State) : (drainTest s).pi = s.pi := by
  obtain h | ⟨k, h⟩ := drainTest_cases s <;> simp [h]
@[simp] theorem flowEval_ax (s : State) : (flowEval s).ax = s.ax := by
  obtain h | ⟨k, f, h⟩ := flowEval_cases s <;> simp [h]
@[simp] theorem drainTest_ax (s : State) : (drainTest s).ax = s.ax := by
  obtain h | ⟨k, h⟩ := drainTest_cases s <;> simp [h]
@[simp] theorem flowEval_cs (s : State) : (flowEval s).cs = s.cs := by
  obtain h | ⟨k, f, h⟩ := flowEval_cases s <;> simp [h]
@[simp] theorem drainTest_cs (s : State) : (drainTest s).cs = s.cs := by
  obtain h | ⟨k, h⟩ := drainTest_cases s <;> simp [h]
@[simp] theorem flowEval_cc (s : State) : (flowEval s).cc = s.cc := by
  obtain h | ⟨k, f, h⟩ := flowEval_cases s <;> simp [h]
@[simp] theorem drainTest_cc (s : State) : (drainTest s).cc = s.cc := by
  obtain h | ⟨k, h⟩ := drainTest_cases s <;> simp [h]
@[simp] theorem flowEval_hs (s : State) : (flowEval s).hs = s.hs := by
  obtain h | ⟨k, f, h⟩ := flowEval_cases s <;> simp [h]
@[simp] theorem drainTest_hs (s : State) : (drainTest s).hs = s.hs := by
  obtain h | ⟨k, h⟩ := drainTest_cases s <;> simp [h]
@[simp] theorem flowEval_sgu (s : State) : (flowEval s).sgu = s.sgu := by
  obtain h | ⟨k, f, h⟩ := flowEval_cases s <;> simp [h]
@[simp] theorem drainTest_sgu (s : State) : (drainTest s).sgu = s.sgu := by
  obtain h | ⟨k, h⟩ := drainTest_cases s <;> simp [h]
@[simp] theorem flowEval_cu (s : State) : (flowEval s).cu = s.cu := by
  obtain h | ⟨k, f, h⟩ := flowEval_cases s <;> simp [h]
@[simp] theorem drainTest_cu (s : State) : (drainTest s).cu = s.cu := by
  obtain h | ⟨k, h⟩ := drainTest_cases s <;> simp [h]
@[simp] theorem flowEval_pp (s : State) : (flowEval s).pp = s.pp := by
  obtain h | ⟨k, f, h⟩ := flowEval_cases s <;> simp [h]
@[simp] theorem drainTest_pp (s : State) : (drainTest s).pp = s.pp := by
  obtain h | ⟨k, h⟩ := drainTest_cases s <;> simp [h]
@[simp] theorem flowEval_inp (s : State) : (flowEval s).inp = s.inp := by
  obtain h | ⟨k, f, h⟩ := flowEval_cases s <;> simp [h]
@[simp] theorem drainTest_inp (s : State) : (drainTest s).inp = s.inp := by
  obtain h | ⟨k, h⟩ := drainTest_cases s <;> simp [h]
@[simp] theorem flowEval_am (s : State) : (flowEval s).am = s.am := by
  obtain h | ⟨k, f, h⟩ := flowEval_cases s <;> simp [h]
@[simp] theorem drainTest_am (s : State) : (drainTest s).am = s.am := by
  obtain h | ⟨k, h⟩ := drainTest_cases s <;> simp [h]
@[simp] theorem flowEval_hlp (s : State) : (flowEval s).hlp = s.hlp := by
  obtain h | ⟨k, f, h⟩ := flowEval_cases s <;> simp [h]
@[simp] theorem drainTest_hlp (s : State) : (drainTest s).hlp = s.hlp := by
  obtain h | ⟨k, h⟩ := drainTest_cases s <;> simp [h]
@[simp] theorem flowEval_cn (s : State) : (flowEval s).cn = s.cn := by
  obtain h | ⟨k, f, h⟩ := flowEval_cases s <;> simp [h]
@[simp] theorem drainTest_cn (s : State) : (drainTest s).cn = s.cn := by
  obtain h | ⟨k, h⟩ := drainTest_cases s <;> simp [h]
@[simp] theorem flowEval_sq_st (s : State) : (flowEval s).sq.st = s.sq.st := by
  obtain h | ⟨k, f, h⟩ := flowEval_cases s <;> simp [h]
@[simp] theorem drainTest_sq_st (s : State) : (drainTest s).sq.st = s.sq.st := by
  obtain h | ⟨k, h⟩ := drainTest_cases s <;> simp [h]
@[simp] theorem flowEval_sq_dwellLeft (s : State) : (flowEval s).sq.dwellLeft = s.sq.dwellLeft := by
  obtain h | ⟨k, f, h⟩ := flowEval_cases s <;> simp [h]
@[simp] theorem drainTest_sq_dwellLeft (s : State) : (drainTest s).sq.dwellLeft = s.sq.dwellLeft := by
  obtain h | ⟨k, h⟩ := drainTest_cases s <;> simp [h]
@[simp] theorem flowEval_sq_waiting (s : State) : (flowEval s).sq.waiting = s.sq.waiting := by
  obtain h | ⟨k, f, h⟩ := flowEval_cases s <;> simp [h]
@[simp] theorem drainTest_sq_waiting (s : State) : (drainTest s).sq.waiting = s.sq.waiting := by
  obtain h | ⟨k, h⟩ := drainTest_cases s <;> simp [h]
@[simp] theorem flowEval_sq_handed (s : State) : (flowEval s).sq.handed = s.sq.handed := by
  obtain h | ⟨k, f, h⟩ := flowEval_cases s <;> simp [h]
@[simp] theorem drainTest_sq_handed (s : State) : (drainTest s).sq.handed = s.sq.handed := by
  obtain h | ⟨k, h⟩ := drainTest_cases s <;> simp [h]
@[simp] theorem flowEval_sq_flowHigh (s : State) : (flowEval s).sq.flowHigh = s.sq.flowHigh := by
  obtain h | ⟨k, f, h⟩ := flowEval_cases s <;> simp [h]
@[simp] theorem drainTest_sq_flowHigh (s : State) : (drainTest s).sq.flowHigh = s.sq.flowHigh := by
  obtain h | ⟨k, h⟩ := drainTest_cases s <;> simp [h]
@[simp] theorem flowEval_sq_flowLow (s : State) : (flowEval s).sq.flowLow = s.sq.flowLow := by
  obtain h | ⟨k, f, h⟩ := flowEval_cases s <;> simp [h]
@[simp] theorem drainTest_sq_flowLow (s : State) : (drainTest s).sq.flowLow = s.sq.flowLow := by
  obtain h | ⟨k, h⟩ := drainTest_cases s <;> simp [h]

/-! ## The HOLD-class raise (R197) -/

@[simp] theorem sqHold_pending (s : State) : (sqHold s).pending = s.pending := by unfold sqHold; split <;> simp
@[simp] theorem endAllJogs_pending (e : EndStep) (s : State) : (endAllJogs e s).pending = s.pending := rfl
@[simp] theorem raiseHold_pending (c : Cond) (q : Nat) (v : Int) (s : State) : (raiseHold c q v s).pending = s.pending := by
  unfold raiseHold; dsimp only; split <;> simp
@[simp] theorem riseHold_pending (c : Cond) (q : Nat) (v : Int) (s : State) : (riseHold c q v s).pending = s.pending := by
  unfold riseHold; split <;> simp
@[simp] theorem sqHold_free (s : State) : (sqHold s).free = s.free := by unfold sqHold; split <;> simp
@[simp] theorem endAllJogs_free (e : EndStep) (s : State) : (endAllJogs e s).free = s.free := rfl
@[simp] theorem raiseHold_free (c : Cond) (q : Nat) (v : Int) (s : State) : (raiseHold c q v s).free = s.free := by
  unfold raiseHold; dsimp only; split <;> simp
@[simp] theorem riseHold_free (c : Cond) (q : Nat) (v : Int) (s : State) : (riseHold c q v s).free = s.free := by
  unfold riseHold; split <;> simp
@[simp] theorem sqHold_pi (s : State) : (sqHold s).pi = s.pi := by unfold sqHold; split <;> simp
@[simp] theorem endAllJogs_pi (e : EndStep) (s : State) : (endAllJogs e s).pi = s.pi := rfl
@[simp] theorem raiseHold_pi (c : Cond) (q : Nat) (v : Int) (s : State) : (raiseHold c q v s).pi = s.pi := by
  unfold raiseHold; dsimp only; split <;> simp
@[simp] theorem riseHold_pi (c : Cond) (q : Nat) (v : Int) (s : State) : (riseHold c q v s).pi = s.pi := by
  unfold riseHold; split <;> simp
@[simp] theorem sqHold_ax (s : State) : (sqHold s).ax = s.ax := by unfold sqHold; split <;> simp
@[simp] theorem endAllJogs_ax (e : EndStep) (s : State) : (endAllJogs e s).ax = s.ax := rfl
@[simp] theorem raiseHold_ax (c : Cond) (q : Nat) (v : Int) (s : State) : (raiseHold c q v s).ax = s.ax := by
  unfold raiseHold; dsimp only; split <;> simp
@[simp] theorem riseHold_ax (c : Cond) (q : Nat) (v : Int) (s : State) : (riseHold c q v s).ax = s.ax := by
  unfold riseHold; split <;> simp
@[simp] theorem sqHold_cs (s : State) : (sqHold s).cs = s.cs := by unfold sqHold; split <;> simp
@[simp] theorem endAllJogs_cs (e : EndStep) (s : State) : (endAllJogs e s).cs = s.cs := rfl
@[simp] theorem raiseHold_cs (c : Cond) (q : Nat) (v : Int) (s : State) : (raiseHold c q v s).cs = s.cs := by
  unfold raiseHold; dsimp only; split <;> simp
@[simp] theorem riseHold_cs (c : Cond) (q : Nat) (v : Int) (s : State) : (riseHold c q v s).cs = s.cs := by
  unfold riseHold; split <;> simp
@[simp] theorem sqHold_cc (s : State) : (sqHold s).cc = s.cc := by unfold sqHold; split <;> simp
@[simp] theorem endAllJogs_cc (e : EndStep) (s : State) : (endAllJogs e s).cc = s.cc := rfl
@[simp] theorem raiseHold_cc (c : Cond) (q : Nat) (v : Int) (s : State) : (raiseHold c q v s).cc = s.cc := by
  unfold raiseHold; dsimp only; split <;> simp
@[simp] theorem riseHold_cc (c : Cond) (q : Nat) (v : Int) (s : State) : (riseHold c q v s).cc = s.cc := by
  unfold riseHold; split <;> simp
@[simp] theorem sqHold_hs (s : State) : (sqHold s).hs = s.hs := by unfold sqHold; split <;> simp
@[simp] theorem endAllJogs_hs (e : EndStep) (s : State) : (endAllJogs e s).hs = s.hs := rfl
@[simp] theorem raiseHold_hs (c : Cond) (q : Nat) (v : Int) (s : State) : (raiseHold c q v s).hs = s.hs := by
  unfold raiseHold; dsimp only; split <;> simp
@[simp] theorem riseHold_hs (c : Cond) (q : Nat) (v : Int) (s : State) : (riseHold c q v s).hs = s.hs := by
  unfold riseHold; split <;> simp
@[simp] theorem sqHold_sgu (s : State) : (sqHold s).sgu = s.sgu := by unfold sqHold; split <;> simp
@[simp] theorem endAllJogs_sgu (e : EndStep) (s : State) : (endAllJogs e s).sgu = s.sgu := rfl
@[simp] theorem raiseHold_sgu (c : Cond) (q : Nat) (v : Int) (s : State) : (raiseHold c q v s).sgu = s.sgu := by
  unfold raiseHold; dsimp only; split <;> simp
@[simp] theorem riseHold_sgu (c : Cond) (q : Nat) (v : Int) (s : State) : (riseHold c q v s).sgu = s.sgu := by
  unfold riseHold; split <;> simp
@[simp] theorem sqHold_inp (s : State) : (sqHold s).inp = s.inp := by unfold sqHold; split <;> simp
@[simp] theorem endAllJogs_inp (e : EndStep) (s : State) : (endAllJogs e s).inp = s.inp := rfl
@[simp] theorem raiseHold_inp (c : Cond) (q : Nat) (v : Int) (s : State) : (raiseHold c q v s).inp = s.inp := by
  unfold raiseHold; dsimp only; split <;> simp
@[simp] theorem riseHold_inp (c : Cond) (q : Nat) (v : Int) (s : State) : (riseHold c q v s).inp = s.inp := by
  unfold riseHold; split <;> simp
@[simp] theorem sqHold_am (s : State) : (sqHold s).am = s.am := by unfold sqHold; split <;> simp
@[simp] theorem endAllJogs_am (e : EndStep) (s : State) : (endAllJogs e s).am = s.am := rfl
@[simp] theorem raiseHold_am (c : Cond) (q : Nat) (v : Int) (s : State) : (raiseHold c q v s).am = s.am := by
  unfold raiseHold; dsimp only; split <;> simp
@[simp] theorem riseHold_am (c : Cond) (q : Nat) (v : Int) (s : State) : (riseHold c q v s).am = s.am := by
  unfold riseHold; split <;> simp
@[simp] theorem sqHold_hlp (s : State) : (sqHold s).hlp = s.hlp := by unfold sqHold; split <;> simp
@[simp] theorem endAllJogs_hlp (e : EndStep) (s : State) : (endAllJogs e s).hlp = s.hlp := rfl
@[simp] theorem raiseHold_hlp (c : Cond) (q : Nat) (v : Int) (s : State) : (raiseHold c q v s).hlp = s.hlp := by
  unfold raiseHold; dsimp only; split <;> simp
@[simp] theorem riseHold_hlp (c : Cond) (q : Nat) (v : Int) (s : State) : (riseHold c q v s).hlp = s.hlp := by
  unfold riseHold; split <;> simp
@[simp] theorem sqHold_machine (s : State) : (sqHold s).cn.machine = s.cn.machine := by unfold sqHold; split <;> simp
@[simp] theorem sqHold_pp (s : State) : (sqHold s).pp = s.pp := by unfold sqHold; split <;> simp
@[simp] theorem endAllJogs_sq (e : EndStep) (s : State) : (endAllJogs e s).sq = s.sq := rfl
@[simp] theorem endAllJogs_cn (e : EndStep) (s : State) : (endAllJogs e s).cn = s.cn := rfl
@[simp] theorem endAllJogs_rq (e : EndStep) (s : State) : (endAllJogs e s).rq = s.rq := rfl
@[simp] theorem raiseHold_machine (c : Cond) (q : Nat) (v : Int) (s : State) :
    (raiseHold c q v s).cn.machine = s.cn.machine := by unfold raiseHold; dsimp only; split <;> simp
@[simp] theorem riseHold_machine (c : Cond) (q : Nat) (v : Int) (s : State) :
    (riseHold c q v s).cn.machine = s.cn.machine := by unfold riseHold; split <;> simp
@[simp] theorem riseHold_cu (c : Cond) (q : Nat) (v : Int) (s : State) : (riseHold c q v s).cu = s.cu := by
  unfold riseHold; split <;> simp

end Sys2Proof.Machine
end

section
/-! SUPPORT. What every piece of work keeps that is neither a TRIP, a RESET_TRIP or a reset nor a write of the parameters,
the inputs or the queue of records (`Tame`): the machine stays in or out of TRIPPED, the queues grow no longer, and the
invariants of the clamps, the homings and the coolant go on. One lemma for each kind of update, then one for each
operation that the blocks share; `tame_f` says that f is tame. -/

namespace Sys2Proof.Machine

/-! ## Case analysis on the closing rules -/

/-- One of the closing rules has applied. -/
theorem rules_induct {P : State → Prop} {s t : State} (e : rules s = some t)
    (hengaged : engagedRule s = some t → P t) (hlevel : ∀ c b v, levelRule c b v s = some t → P t)
    (hoverload : overloadRule s = some t → P t) (hgrant : grantRule s = some t → P t)
    (hclamp : ∀ c, clampRule s c = some t → P t) (hspindle : spindleRule s = some t → P t)
    (hshift : shiftRule s = some t → P t) (hflood : floodRule s = some t → P t) (htsc : tscRule s = some t → P t)
    (hhome : ∀ a, homeRule s a = some t → P t) (hback : ∀ a, giveBackRule s a = some t → P t)
    (hqueue : queueRule s = some t → P t) (hpump : pumpRule s = some t → P t) (hsupply : supplyRule s = some t → P t)
    (hmachine : machineRule s = some t → P t) : P t := by
  unfold rules at e
  rcases or_some e with e | e
  · exact hengaged e
  rcases or_some e with e | e
  · exact hlevel _ _ _ e
  rcases or_some e with e | e
  · exact hlevel _ _ _ e
  rcases or_some e with e | e
  · exact hoverload e
  rcases or_some e with e | e
  · exact hgrant e
  rcases or_some e with e | e
  · exact hclamp _ e
  rcases or_some e with e | e
  · exact hclamp _ e
  rcases or_some e with e | e
  · exact hclamp _ e
  rcases or_some e with e | e
  · exact hclamp _ e
  rcases or_some e with e | e
  · exact hspindle e
  rcases or_some e with e | e
  · exact hshift e
  rcases or_some e with e | e
  · exact hflood e
  rcases or_some e with e | e
  · exact htsc e
  rcases or_some e with e | e
  · exact hhome _ e
  rcases or_some e with e | e
  · exact hhome _ e
  rcases or_some e with e | e
  · exact hhome _ e
  rcases or_some e with e | e
  · exact hhome _ e
  rcases or_some e with e | e
  · exact hhome _ e
  rcases or_some e with e | e
  · exact hback _ e
  rcases or_some e with e | e
  · exact hback _ e
  rcases or_some e with e | e
  · exact hback _ e
  rcases or_some e with e | e
  · exact hback _ e
  rcases or_some e with e | e
  · exact hback _ e
  rcases or_some e with e | e
  · exact hqueue e
  rcases or_some e with e | e
  · exact hpump e
  rcases or_some e with e | e
  · exact hsupply e
  exact hmachine e

/-! ## The relation -/

/-- The TSC duty is 0 wherever TSC does not flow (R146). -/
def DutyOff (c : Coolant) : Prop := c.tsc ≠ .ramping → c.tsc ≠ .on → c.duty = 0

/-- The state `t` has come from `s` by tame work. -/
structure Tame (s t : State) : Prop where
  inp : t.inp = s.inp
  machine : t.cn.machine = .tripped ↔ s.cn.machine = .tripped
  reports : s.rq.length ≤ 32 → t.rq.length ≤ 32
  records : t.sq.recs.length ≤ s.sq.recs.length
  high : t.sq.flowHigh = s.sq.flowHigh
  low : t.sq.flowLow = s.sq.flowLow
  duty : DutyOff s.cu → DutyOff t.cu
  never : NeverInv s → NeverInv t
  free : ReleasedFree s → ReleasedFree t
  homing : HomingInv s → HomingInv t
  quiet : HomingInv s → TrippedAxes s → TrippedAxes t

theorem tame_refl (s : State) : Tame s s :=
  ⟨rfl, .rfl, id, Nat.le_refl _, rfl, rfl, id, id, id, id, fun _ h => h⟩

theorem Tame.trans {s t u : State} (h : Tame s t) (k : Tame t u) : Tame s u :=
  ⟨k.inp.trans h.inp, k.machine.trans h.machine, k.reports ∘ h.reports, k.records.trans h.records, k.high.trans h.high,
    k.low.trans h.low, k.duty ∘ h.duty, k.never ∘ h.never, k.free ∘ h.free,
    k.homing ∘ h.homing, fun h1 h2 => k.quiet (h.homing h1) (h.quiet h1 h2)⟩

theorem tame_foldl {α : Type} {f : State → α → State} (hf : ∀ s t a, Tame s t → Tame s (f t a)) (l : List α) :
    ∀ {s t : State}, Tame s t → Tame s (l.foldl f t) := by
  induction l with
  | nil => exact fun h => h
  | cons a l ih => exact fun h => ih (hf _ _ a h)

/-! ## Updates -/

/-- What tameness reads of a state. -/
def vital (s : State) :=
  (s.inp, s.cn.machine, s.rq, s.sq.recs, s.sq.flowHigh, s.sq.flowLow, s.cu, s.cc, s.ax)

/-- An update of fields that tameness does not read. -/
theorem Tame.of_vital {s t u : State} (h : Tame s t) (e : vital u = vital t) : Tame s u := by
  simp only [vital, Prod.mk.injEq] at e
  obtain ⟨hi, hm, hr, hq, hh, hl, hu, hc, ha⟩ := e
  refine h.trans ⟨hi, by rw [hm], by rw [hr]; exact id, by rw [hq], hh, hl, by rw [hu]; exact id, ?_, ?_, ?_, ?_⟩
  · unfold NeverInv; rw [hc]; exact id
  · have hs : ∀ c, clampedSensor u c = clampedSensor t c := by
      intro c; cases c <;> (unfold clampedSensor inputOn; rw [hi])
    unfold ReleasedFree; rw [hc]; simp only [hs]; exact id
  · unfold HomingInv; rw [ha]; exact id
  · unfold TrippedAxes; rw [ha, hm]; exact fun _ h => h

/-- Records leave the queue. -/
theorem Tame.of_recs {s t u : State} (h : Tame s t) (hl : u.sq.recs.length ≤ t.sq.recs.length)
    (e : vital { u with sq.recs := t.sq.recs } = vital t) : Tame s u := by
  have k := h.of_vital e
  exact ⟨k.inp, k.machine, k.reports, hl.trans k.records, k.high, k.low, k.duty, k.never, k.free, k.homing, k.quiet⟩

/-- The Coolant Unit works; TSC that does not flow has duty 0. -/
theorem Tame.of_cu {s t u : State} (h : Tame s t) (hd : DutyOff t.cu → DutyOff u.cu)
    (e : vital { u with cu := t.cu } = vital t) : Tame s u := by
  have k := h.of_vital e
  exact ⟨k.inp, k.machine, k.reports, k.records, k.high, k.low, hd ∘ h.duty, k.never, k.free, k.homing, k.quiet⟩

/-- READY and STOPPING change into each other. -/
theorem Tame.of_machine {s t u : State} (h : Tame s t) (ht : t.cn.machine ≠ .tripped) (hu : u.cn.machine ≠ .tripped)
    (e : vital { u with cn.machine := t.cn.machine } = vital t) : Tame s u := by
  have k := h.of_vital e
  refine ⟨k.inp, by simp [hu, ← h.machine, ht], k.reports, k.records, k.high, k.low, k.duty, k.never, k.free, k.homing, ?_⟩
  exact fun _ _ h => absurd h hu

/-- What tame work keeps of one clamp, given whether its clamped sensor is on. -/
def ClampTame (sensor : Bool) (k n : Clamp) : Prop :=
  ((k.policy = .never → k.st = .released) → n.policy = .never → n.st = .released) ∧
    ((k.policy ≠ .never → k.st = .released ∨ (k.st = .clampWait ∧ k.fromFault = false) → sensor = false) →
      n.policy ≠ .never → n.st = .released ∨ (n.st = .clampWait ∧ n.fromFault = false) → sensor = false)

/-- A clamp is changed. -/
theorem Tame.of_clamp {s t : State} (h : Tame s t) (c : ClampAxis) {f : Clamp → Clamp}
    (hk : ClampTame (clampedSensor t c) (t.cc.get c) (f (t.cc.get c))) : Tame s (updClamp c f t) := by
  refine h.trans ⟨rfl, .rfl, id, Nat.le_refl _, rfl, rfl, id, fun hn d => ?_, fun hn d => ?_, id, fun _ h => h⟩
  · rw [updClamp_cc, PerClamp.get_upd]
    split
    · next e => subst e; exact hk.1 (hn c)
    · exact hn d
  · rw [updClamp_cc, PerClamp.get_upd]
    split
    · next e => subst e; exact hk.2 (hn c)
    · exact hn d

/-- The channel is homing exactly while HOMING owns it. -/
def HomingOwn (k : AxisCh) : Prop := k.owner = .homing ↔ k.phase ≠ .none

/-- The channel is as TRIPPED leaves it. -/
def AxisQuiet (k : AxisCh) : Prop := k.phase = .none ∧ k.owner ≠ .homing ∧ k.owner ≠ .pendant

/-- What tame work keeps of one axis channel, in a machine that is TRIPPED or not. -/
def AxisTame (tripped : Prop) (k n : AxisCh) : Prop :=
  HomingOwn k → HomingOwn n ∧ ((tripped → AxisQuiet k) → tripped → AxisQuiet n)

theorem axisTame_of_eq {tripped : Prop} {k n : AxisCh} (ho : n.owner = k.owner) (hp : n.phase = k.phase) :
    AxisTame tripped k n := by
  unfold AxisTame HomingOwn AxisQuiet; rw [ho, hp]; exact fun h => ⟨h, id⟩

/-- The axis channels are changed. -/
theorem Tame.of_map {s t : State} (h : Tame s t) {f : Axis → AxisCh → AxisCh}
    (hk : ∀ a, AxisTame (t.cn.machine = .tripped) (t.ax.get a) (f a (t.ax.get a))) : Tame s (mapAx f t) := by
  refine h.trans ⟨rfl, .rfl, id, Nat.le_refl _, rfl, rfl, id, id, id, fun h1 a => ?_, fun h1 h2 ht a => ?_⟩
  · rw [mapAx_ax, PerAxis.get_map]; exact (hk a (h1 a)).1
  · rw [mapAx_ax, PerAxis.get_map]; exact (hk a (h1 a)).2 (fun ht => h2 ht a) ht

/-- An axis channel is changed. -/
theorem Tame.of_axis {s t : State} (h : Tame s t) (a : Axis) {f : AxisCh → AxisCh}
    (hk : AxisTame (t.cn.machine = .tripped) (t.ax.get a) (f (t.ax.get a))) : Tame s (updAx a f t) := by
  refine h.trans ⟨rfl, .rfl, id, Nat.le_refl _, rfl, rfl, id, id, id, fun h1 d => ?_, fun h1 h2 ht d => ?_⟩
  · rw [updAx_ax, PerAxis.get_upd]; split
    · next e => subst e; exact (hk (h1 a)).1
    · exact h1 d
  · rw [updAx_ax, PerAxis.get_upd]; split
    · next e => subst e; exact (hk (h1 a)).2 (fun ht => h2 ht a) ht
    · exact h2 ht d

/-! ## Reports, raises and holds -/

theorem tame_queueReport {s t : State} {k : Report} (h : Tame s t) : Tame s (queueReport k t) := by
  have hl := (queueReport_spec k t).1
  have ht : Tame t (queueReport k t) := by
    refine ⟨by simp, by simp, fun h => ?_, by simp, by simp, by simp, by simp, ?_, ?_, ?_, ?_⟩
    · rw [hl]; split <;> omega
    all_goals unfold queueReport; split <;> first | exact id | exact fun _ h => h
  exact h.trans ht

theorem tame_latch {s t : State} {c : Cond} {q : Nat} {v : Int} (h : Tame s t) : Tame s (latch c q v t) :=
  tame_queueReport (h.of_vital rfl)

theorem tame_fall {s t : State} {c : Cond} (h : Tame s t) : Tame s (fall c t) := by
  unfold fall; split
  · exact tame_queueReport (h.of_vital rfl)
  · exact h

theorem tame_riseNote {s t : State} {c : Cond} {q : Nat} {v : Int} (h : Tame s t) : Tame s (riseNote c q v t) := by
  unfold riseNote; split
  · exact h
  · exact tame_latch (h.of_vital rfl)

theorem tame_levelNote {s t : State} {c : Cond} {b : Bool} {q : Nat} {v : Int} (h : Tame s t) :
    Tame s (levelNote c b q v t) := by
  unfold levelNote; split
  · exact tame_riseNote h
  · exact tame_fall h

theorem tame_setQState {s t : State} {q : QState} (h : Tame s t) : Tame s (setQState q t) := by
  unfold setQState
  have hq : ∀ k, Tame s (queueReport k { t with sq.st := q }) := fun k => tame_queueReport (h.of_vital rfl)
  split
  · exact h
  · dsimp only; split
    · exact tame_fall (hq _)
    · exact hq _

theorem tame_sqHold {s t : State} (h : Tame s t) : Tame s (sqHold t) := by
  unfold sqHold; split
  · exact tame_setQState h
  · exact h

theorem tame_endAllJogs {s t : State} {e : EndStep} (h : Tame s t) : Tame s (endAllJogs e t) := h.of_vital rfl

theorem tame_raiseHold {s t : State} {c : Cond} {q : Nat} {v : Int} (h : Tame s t) : Tame s (raiseHold c q v t) := by
  unfold raiseHold; dsimp only; split
  · exact tame_latch h
  · exact tame_endAllJogs (tame_sqHold (tame_latch h))

theorem tame_riseHold {s t : State} {c : Cond} {q : Nat} {v : Int} (h : Tame s t) : Tame s (riseHold c q v t) := by
  unfold riseHold; split
  · exact h
  · exact tame_raiseHold (h.of_vital rfl)

end Sys2Proof.Machine
end

section
/-! SUPPORT. The work of the blocks is tame: clamps and supply, spindle, coolant, the flush, the STOP reaction and the
gear shift. -/

namespace Sys2Proof.Machine

/-! ## Clamps and supply (chapter 5) -/

theorem tame_hydJoin {s t : State} {w : Requester} {o : HydOp} (h : Tame s t) : Tame s (hydJoin w o t) := h.of_vital rfl

theorem tame_hydWithdraw {s t : State} {w : Requester} (h : Tame s t) : Tame s (hydWithdraw w t) := h.of_vital rfl

theorem tame_hydReturn {s t : State} {w : Requester} (h : Tame s t) : Tame s (hydReturn w t) := by
  unfold hydReturn; (repeat' split)
  · exact h.of_vital rfl
  · exact h
  · exact h

/-- A change after which the clamp is not free: it is neither RELEASED nor in CLAMP_WAIT entered from RELEASED, and not
under NEVER. -/
theorem clampTame_of_bound {b : Bool} {k n : Clamp} (hp : n.policy ≠ .never) (hr : n.st ≠ .released)
    (hw : n.st = .clampWait → n.fromFault = true) : ClampTame b k n :=
  ⟨fun _ h => absurd h hp, fun _ _ h => by
    obtain h | ⟨h1, h2⟩ := h
    · exact absurd h hr
    · rw [hw h1] at h2; cases h2⟩

/-- A change that leaves state, FROM FAULT and policy alone. -/
theorem clampTame_of_eq {b : Bool} {k n : Clamp} (hs : n.st = k.st) (hf : n.fromFault = k.fromFault)
    (hp : n.policy = k.policy) : ClampTame b k n := by
  unfold ClampTame; rw [hs, hf, hp]; exact ⟨id, id⟩

/-- A change between the two free states. -/
theorem clampTame_of_free {b : Bool} {k n : Clamp} (hp : n.policy = k.policy) (hn : k.policy ≠ .never)
    (hk : k.st = .released ∨ (k.st = .clampWait ∧ k.fromFault = false)) : ClampTame b k n :=
  ⟨fun _ h => absurd (hp.symm.trans h) hn, fun h _ _ => h hn hk⟩

theorem tame_releaseNeed {s t : State} {c : ClampAxis} (h : Tame s t) : Tame s (releaseNeed c t) := by
  unfold releaseNeed
  split
  · exact h
  · next hg =>
    have hn : (t.cc.get c).policy ≠ .never := fun e => hg (.inr e)
    split
    · exact tame_hydJoin (h.of_clamp c (clampTame_of_bound hn (by simp) (by simp)))
    · exact h
    · exact h.of_clamp c (clampTame_of_eq rfl rfl rfl)
    · exact h.of_clamp c (clampTame_of_eq rfl rfl rfl)
    · next hw =>
      split
      · exact tame_hydJoin ((tame_hydWithdraw h).of_clamp c (clampTame_of_bound hn (by simp) (by simp)))
      · next hf =>
        exact (tame_hydWithdraw h).of_clamp c (clampTame_of_free rfl hn (.inr ⟨hw, by simpa using hf⟩))
    · exact h.of_clamp c (clampTame_of_eq rfl rfl rfl)
    · exact tame_hydJoin (h.of_clamp c (clampTame_of_bound hn (by simp) (by simp)))

theorem tame_clampNeed {s t : State} {c : ClampAxis} (h : Tame s t) : Tame s (clampNeed c t) := by
  unfold clampNeed
  split
  · exact h
  · next hg =>
    have hn : (t.cc.get c).policy ≠ .never := fun e => hg (.inr e)
    split
    · exact h
    · exact (tame_hydWithdraw h).of_clamp c (clampTame_of_bound hn (by simp) (by simp))
    · exact h.of_clamp c (clampTame_of_eq rfl rfl rfl)
    · next hr => exact tame_hydJoin (h.of_clamp c (clampTame_of_free rfl hn (.inl hr)))
    · exact h
    · exact h.of_clamp c (clampTame_of_eq rfl rfl rfl)
    · exact tame_hydJoin (h.of_clamp c (clampTame_of_bound hn (by simp) (by simp)))

/-- A clamp that is not free takes a state that is not free. -/
theorem clampTame_of_step {b : Bool} {k n : Clamp} (hp : n.policy = k.policy) (hk : k.st ≠ .released)
    (hr : n.st ≠ .released) (hw : n.st ≠ .clampWait) : ClampTame b k n :=
  ⟨fun h e => absurd (h (hp ▸ e)) hk, fun _ _ h => by
    obtain h | ⟨h, -⟩ := h
    · exact absurd h hr
    · exact absurd h hw⟩

theorem tame_startClampOp {s t : State} {c : ClampAxis} (h : Tame s t) : Tame s (startClampOp c t) := by
  unfold startClampOp; split
  · next hw => exact h.of_clamp c (clampTame_of_step rfl (by simp [hw]) (by simp) (by simp))
  · next hw => exact h.of_clamp c (clampTame_of_step rfl (by simp [hw]) (by simp) (by simp))
  · exact h

/-- A release that the sensors complete leaves a free clamp whose clamped sensor is off (R96). -/
theorem tame_releaseDone {s t : State} {c : ClampAxis} (hm : releaseMet t c = true) (h : Tame s t) :
    Tame s (releaseDone c t) := by
  have hs : clampedSensor t c = false := by
    unfold releaseMet at hm; simp only [Bool.and_eq_true, Bool.not_eq_true'] at hm; exact hm.2
  have hd := tame_hydReturn (w := .axis c) (h.of_clamp c
    (f := fun k => { k with st := .released, idle := 0, op := .stopped }) ⟨fun _ _ => rfl, fun _ _ _ => hs⟩)
  unfold releaseDone; dsimp only; split
  · exact tame_clampNeed (hd.of_clamp c (clampTame_of_eq rfl rfl rfl))
  · exact hd

theorem tame_clampDone {s t : State} {c : ClampAxis} (hm : clampMet t c = true) (h : Tame s t) :
    Tame s (clampDone c t) := by
  have hs : (t.cc.get c).st = .clamping := by
    unfold clampMet at hm; simp only [Bool.and_eq_true, beq_iff_eq] at hm; exact hm.1
  have hd := tame_hydReturn (w := .axis c) (h.of_clamp c
    (f := fun k => { k with st := .clamped, granted := false, op := .stopped })
    (clampTame_of_step rfl (by simp [hs]) (by simp) (by simp)))
  unfold clampDone; dsimp only; split
  · exact tame_releaseNeed (hd.of_clamp c (clampTame_of_eq rfl rfl rfl))
  · exact hd

theorem tame_pumpStop {s t : State} (h : Tame s t) : Tame s (pumpStop t) := tame_fall (h.of_vital rfl)

/-! ## Spindle (chapter 6) -/

theorem tame_setSpindle {s t : State} {st : SpindleState} (h : Tame s t) : Tame s (setSpindle st t) := by
  unfold setSpindle; dsimp only; split
  · exact tame_raiseHold (h.of_vital rfl)
  · exact h.of_vital rfl

theorem tame_spindleOff {s t : State} (h : Tame s t) : Tame s (spindleOff t) := tame_setSpindle (h.of_vital rfl)

theorem tame_spindleStart {s t : State} (h : Tame s t) : Tame s (spindleStart t) := tame_setSpindle (h.of_vital rfl)

theorem tame_retarget {s t : State} (h : Tame s t) : Tame s (retarget t) := by
  have h1 : Tame s { t with sgu.target := formTarget t } := h.of_vital rfl
  unfold retarget; dsimp only; (repeat' split)
  · exact tame_spindleStart h1
  · exact h1
  · exact tame_setSpindle h1
  · exact tame_setSpindle h1
  · exact h1
  · exact tame_setSpindle h1
  · exact tame_setSpindle h1
  · exact h1
  · exact tame_setSpindle h1
  all_goals exact h1

theorem tame_spindleStopSpeed {s t : State} (h : Tame s t) : Tame s (spindleStopSpeed t) := tame_retarget (h.of_vital rfl)

theorem tame_speedCommand {s t : State} {v : Nat} {d : Dir} {q : Nat} (h : Tame s t) :
    Tame s (speedCommand v d q t) := by
  have h1 : Tame s { t with sgu.reqSpeed := v, sgu.reqDir := d } := h.of_vital rfl
  unfold speedCommand; split
  · exact tame_spindleStopSpeed h
  · dsimp only; apply tame_retarget; (repeat' split)
    · exact tame_latch h1
    · exact h1
    · exact tame_latch h1
    · exact h1

theorem tame_leaveEngaged {s t : State} (h : Tame s t) : Tame s (leaveEngaged t) := by
  have h1 : Tame s { t with sgu.target := 0 } := h.of_vital rfl
  unfold leaveEngaged; dsimp only; split
  · exact tame_setSpindle h1
  · exact tame_setSpindle h1
  · exact tame_spindleOff h1
  · exact h1

theorem tame_gearAfterAbandon {s t : State} (h : Tame s t) : Tame s (gearAfterAbandon t) := by
  unfold gearAfterAbandon; split <;> exact h.of_vital rfl

theorem tame_shiftTeardown {s t : State} (h : Tame s t) : Tame s (shiftTeardown t) := by
  have h1 := tame_hydWithdraw (w := .gear) (tame_hydReturn (w := .gear) h)
  unfold shiftTeardown; dsimp only
  refine Tame.of_vital (tame_gearAfterAbandon ?_) rfl
  split
  · exact tame_spindleOff h1
  · exact h1

theorem tame_abandonShift {s t : State} (h : Tame s t) : Tame s (abandonShift t) := by
  unfold abandonShift abortReport; (repeat' split)
  · exact tame_queueReport (tame_shiftTeardown h)
  · exact h
  · exact h

/-! ## Coolant (chapter 7) -/

theorem tame_floodFault {s t : State} {v : Int} (h : Tame s t) : Tame s (floodFault v t) :=
  tame_raiseHold (h.of_cu id rfl)

theorem tame_floodFresh {s t : State} (h : Tame s t) : Tame s (floodFresh t) := by
  unfold floodFresh; (repeat' split)
  · exact h.of_cu id rfl
  · exact tame_floodFault h
  · exact h.of_cu id rfl
  · exact tame_floodFault h
  · exact h
  · exact h

theorem tame_tscFaultEntry {s t : State} (h : Tame s t) : Tame s (tscFaultEntry t) := h.of_cu (fun _ _ _ => rfl) rfl

theorem tame_tscFault {s t : State} {v : Int} (h : Tame s t) : Tame s (tscFault v t) :=
  tame_raiseHold (tame_tscFaultEntry h)

theorem tame_tscDryStart {s t : State} (h : Tame s t) : Tame s (tscDryStart t) := by
  unfold tscDryStart; split
  · exact tame_tscFault h
  · exact h.of_cu id rfl

theorem tame_tscDryEntry {s t : State} (h : Tame s t) : Tame s (tscDryEntry t) := by
  unfold tscDryEntry; split
  · exact h.of_cu id rfl
  · exact tame_tscDryStart h

theorem tame_tscRamp {s t : State} (h : Tame s t) : Tame s (tscRamp t) := by
  unfold tscRamp; dsimp only; split
  · exact tame_tscFault (h.of_cu (fun _ h => absurd rfl h) rfl)
  · exact tame_tscDryEntry (h.of_cu (fun _ h => absurd rfl h) rfl)

theorem tame_tscWait {s t : State} (h : Tame s t) : Tame s (tscWait t) := h.of_cu (fun _ _ _ => rfl) rfl

theorem tame_tscFromOff {s t : State} (h : Tame s t) : Tame s (tscFromOff t) := by
  unfold tscFromOff; (repeat' split)
  · exact tame_tscFaultEntry h
  · exact tame_tscRamp h
  · exact tame_tscWait h

theorem tame_tscFresh {s t : State} (h : Tame s t) : Tame s (tscFresh t) := by
  unfold tscFresh; split
  · exact tame_tscFromOff h
  · exact h
  · exact h
  · exact h
  · exact h
  · exact h.of_cu id rfl
  · split
    · exact h.of_cu id rfl
    · exact tame_tscFromOff h

theorem tame_tscOff {s t : State} (h : Tame s t) : Tame s (tscOff t) := by
  have hp : Tame s (tscPurge t) := h.of_cu (fun _ _ _ => rfl) rfl
  unfold tscOff; split
  · exact h.of_cu id rfl
  · exact h.of_cu id rfl
  · exact hp
  · exact hp
  · exact hp
  · exact hp
  · next hf =>
    have hd : DutyOff t.cu → t.cu.duty = 0 := fun h => h (by simp [hf]) (by simp [hf])
    split <;> exact h.of_cu (fun h _ _ => hd h) rfl

theorem tame_tscSuspend {s t : State} (h : Tame s t) : Tame s (tscSuspend t) := h.of_cu (fun _ _ _ => rfl) rfl

theorem tame_tscResume {s t : State} (h : Tame s t) : Tame s (tscResume t) := by
  unfold tscResume; (repeat' split)
  · exact tame_tscFaultEntry h
  · exact tame_tscRamp h
  · exact tame_tscWait h

theorem tame_setPressure {s t : State} {p : Nat} (h : Tame s t) : Tame s (setPressure p t) := by
  unfold setPressure; dsimp only; (repeat' split)
  · exact h
  · exact h.of_cu id rfl
  · exact tame_tscDryEntry (h.of_cu (fun _ h => absurd rfl h) rfl)
  · exact h.of_cu id rfl

/-- A sample in RAMPING or ON ends in RAMPING, ON or FAULT (R148, R149). -/
theorem tame_tscSample {s t : State} {p : Nat} (h : Tame s t) : Tame s (tscSample p t) := by
  unfold tscSample; split
  · next hr =>
    dsimp only; (repeat' split)
    · exact h.of_cu (fun _ _ h => absurd rfl h) rfl
    · exact h.of_cu (fun _ h => absurd hr h) rfl
    · exact h.of_cu (fun _ h => absurd hr h) rfl
  · next ho =>
    dsimp only; (repeat' split)
    · exact tame_tscFault (h.of_cu (fun _ _ h => absurd ho h) rfl)
    · exact h.of_cu (fun _ _ h => absurd ho h) rfl
    · exact h.of_cu (fun _ _ h => absurd ho h) rfl
  · exact h

theorem tame_purgeDone {s t : State} (h : Tame s t) : Tame s (purgeDone t) := by
  unfold purgeDone; dsimp only
  have hoff : t.cu.tsc = .purging → DutyOff t.cu → t.cu.duty = 0 := fun e h => h (by simp [e]) (by simp [e])
  have h2 : Tame s (if t.cu.tsc = .purging then
      { t with cu.purgeT := .stopped, cu.pendingOn := false, cu.tsc := .off }
      else { t with cu.purgeT := .stopped, cu.pendingOn := false }) := by
    split
    · next e => exact h.of_cu (fun h _ _ => hoff e h) rfl
    · exact h.of_cu id rfl
  split
  · exact tame_tscFromOff h2
  · exact h2

theorem tame_coolantWrite {s t : State} {f c m : Dem} {p : Option Nat} (h : Tame s t) :
    Tame s (coolantWrite f c m p t) := by
  have hp : ∀ u, Tame s u → Tame s (writeFlood f u) := fun u h => by
    unfold writeFlood; split
    · exact h
    · exact tame_floodFresh (h.of_cu id rfl)
    · exact h.of_cu id rfl
  have hc : ∀ u, Tame s u → Tame s (writeTsc c u) := fun u h => by
    unfold writeTsc; split
    · exact h
    · exact tame_tscFresh (h.of_cu id rfl)
    · exact tame_tscOff (h.of_cu id rfl)
  have hm : ∀ u, Tame s u → Tame s (writeMist m u) := fun u h => by
    unfold writeMist; split
    · exact h
    · exact h.of_cu id rfl
    · exact h.of_cu id rfl
  unfold coolantWrite; dsimp only; split
  · exact hm _ (hc _ (hp _ (tame_setPressure h)))
  · exact hm _ (hc _ (hp _ h))

/-! ## The flush and the STOP reaction (R12, R13, R198) -/

theorem tame_flowEval {s t : State} (h : Tame s t) : Tame s (flowEval t) := by
  unfold flowEval; (repeat' split)
  · exact tame_queueReport (h.of_vital rfl)
  · exact h
  · exact tame_queueReport (h.of_vital rfl)
  · exact h

theorem tame_drainTest {s t : State} (h : Tame s t) : Tame s (drainTest t) := by
  unfold drainTest; split
  · exact tame_queueReport (h.of_vital rfl)
  · exact h

/-- An axis that QUEUE owns is given to nobody. -/
theorem axisTame_drop {tripped : Prop} (k : AxisCh) :
    AxisTame tripped k (if k.owner = .queue then { k with owner := .none } else k) := by
  intro h1
  split
  · next ho =>
    have hp : k.phase = .none := by
      by_contra hp; have := h1.2 hp; rw [ho] at this; cases this
    exact ⟨by simp [HomingOwn, hp], fun _ _ => ⟨hp, by simp, by simp⟩⟩
  · exact ⟨h1, id⟩

theorem tame_dropQueueOwners {s t : State} (h : Tame s t) : Tame s (dropQueueOwners t) :=
  h.of_map fun _ => axisTame_drop _

theorem tame_clearRecords {s t : State} (h : Tame s t) : Tame s (clearRecords t) := h.of_recs (Nat.zero_le _) rfl

theorem tame_piDrop {s t : State} (h : Tame s t) : Tame s (piDrop t) := h.of_vital rfl

theorem tame_flushIdle {s t : State} (h : Tame s t) : Tame s (flushIdle t) :=
  tame_flowEval (tame_setQState (tame_dropQueueOwners (tame_piDrop (tame_clearRecords h))))

theorem tame_sqStop {s t : State} (h : Tame s t) : Tame s (sqStop t) := by
  have h1 := tame_setQState (q := .stopping) h
  have h2 : Tame s (if gearRecordCurrent (setQState .stopping t) = true then abandonShift (setQState .stopping t)
      else setQState .stopping t) := by
    split
    · exact tame_abandonShift h1
    · exact h1
  have h3 : ∀ u, Tame s u → Tame s (if u.pi.r = 0 then flushIdle u else u) := fun u h => by
    split
    · exact tame_flushIdle h
    · exact h
  unfold sqStop; split
  · exact h3 _ h2
  · exact h3 _ h2
  · exact h3 _ h2
  · exact tame_flushIdle h
  · exact h
  · exact h

theorem tame_homeFail {s t : State} {a : Axis} {r : HomeReason} (hp : (t.ax.get a).phase ≠ .none) (h : Tame s t) :
    Tame s (homeFail a r t) :=
  h.of_axis a fun h1 => ⟨by simp [HomingOwn, h1.2 hp], fun h2 ht => absurd (h2 ht).1 hp⟩

theorem tame_homeAbort {s t : State} {a : Axis} (h : Tame s t) : Tame s (homeAbort t a) := by
  unfold homeAbort; split
  · next hp => exact tame_homeFail (fun e => by rw [e] at hp; cases hp) h
  · exact h

theorem tame_stopDeliveries {s t : State} (h : Tame s t) : Tame s (stopDeliveries t) :=
  tame_endAllJogs (tame_foldl (fun _ _ _ => tame_homeAbort) _
    (tame_coolantWrite (tame_abandonShift (tame_spindleStopSpeed (tame_sqStop h)))))

theorem tame_reactStop {s t : State} (h : Tame s t) : Tame s (reactStop t) := by
  unfold reactStop; split
  · exact h
  · next hm => exact tame_stopDeliveries (h.of_machine (by simp [hm]) (by simp) rfl)
  · exact tame_stopDeliveries h

theorem tame_raiseStop {s t : State} {c : Cond} {q : Nat} {v : Int} (h : Tame s t) : Tame s (raiseStop c q v t) :=
  tame_reactStop (tame_latch h)

theorem tame_riseStop {s t : State} {c : Cond} {q : Nat} {v : Int} (h : Tame s t) : Tame s (riseStop c q v t) := by
  unfold riseStop; split
  · exact h
  · exact tame_raiseStop (h.of_vital rfl)

/-! ## What the level, the filter and the overloads do -/

theorem tame_levelChanged {s t : State} (h : Tame s t) : Tame s (levelChanged t) := by
  have hf : ∀ u, Tame s u → Tame s (levelFell u) := fun u h => by
    have h1 : Tame s (if floodRuns u = true then
        (if u.cu.p.dryTime = 0 then floodFault 4 u else { u with cu.floodDryT := .start u.cu.p.dryTime })
        else u) := by
      (repeat' split)
      · exact tame_floodFault h
      · exact h.of_cu id rfl
      · exact h
    have h3 : ∀ u, Tame s u → Tame s (if u.cu.pump = true then tscDryStart u else u) := fun u h => by
      split
      · exact tame_tscDryStart h
      · exact h
    exact h3 _ h1
  have hl : ∀ u, Tame s u → Tame s (if levelOk u = true then levelRose u else levelFell u) := fun u h => by
    split
    · exact h.of_cu id rfl
    · exact hf u h
  exact hl _ (tame_levelNote h)

theorem tame_filterBlockChanged {s t : State} (h : Tame s t) : Tame s (filterBlockChanged t) := by
  have he : Tame s (match t.cu.tsc with
      | .waitSpindle | .ramping | .on | .suspended => tscFaultEntry t
      | _ => t) := by
    split <;> first | exact tame_tscFaultEntry h | exact h
  unfold filterBlockChanged; split
  · exact tame_riseHold he
  · exact tame_fall h

/-! ## Raises of the clamps and the supply -/

theorem tame_moveNeed {s t : State} {c : ClampAxis} {q : Nat} (h : Tame s t) : Tame s (moveNeed c q t) := by
  unfold moveNeed; split
  · exact tame_raiseStop h
  · exact tame_releaseNeed h

theorem tame_axisNeed {s t : State} {a : Axis} {q : Nat} (h : Tame s t) : Tame s (axisNeed a q t) := by
  unfold axisNeed; split
  · exact tame_moveNeed h
  · exact h

/-- An operation that runs out comes from RELEASING or CLAMPING, neither of which a NEVER axis is in (R90). -/
theorem tame_clampTimedOut {s t : State} {c : ClampAxis} {v : Int} (hr : (t.cc.get c).st ≠ .released) (h : Tame s t) :
    Tame s (clampTimedOut c v t) :=
  tame_raiseStop (tame_hydReturn (h.of_clamp c (clampTame_of_step rfl hr (by simp) (by simp))))

theorem tame_clampLost {s t : State} {c : ClampAxis} (h : Tame s t) : Tame s (clampLost c t) := by
  unfold clampLost; dsimp only; split
  · exact h
  · next hn =>
    (repeat' split)
    · exact tame_raiseStop (h.of_clamp c (clampTame_of_bound hn (by simp) (by simp)))
    · exact tame_raiseStop (tame_hydWithdraw (h.of_clamp c (clampTame_of_bound hn (by simp) (by simp))))
    · exact h

theorem tame_supplyLow {s t : State} {v : Int} (h : Tame s t) : Tame s (supplyLow v t) := tame_riseStop (h.of_vital rfl)

theorem tame_clampCheck {s t : State} {c : ClampAxis} (h : Tame s t) : Tame s (clampCheck c t) := by
  unfold clampCheck; split
  · exact h
  · refine h.of_clamp c ?_
    by_cases hc : (t.cc.get c).st = .clamped ∧ (t.cc.get c).policy ≠ .never ∧
        ¬(clampedSensor t c = true ∧ releasedSensor t c = false)
    · exact clampTame_of_step rfl (by simp [hc.1]) (by simp only [if_pos hc]; decide) (by simp only [if_pos hc]; decide)
    · exact clampTame_of_eq (if_neg hc) rfl rfl

/-! ## Gear shift (sections 6.5 and 6.6) -/

theorem tame_positionTo {s t : State} {z : Int} (h : Tame s t) : Tame s (positionTo z t) := by
  have h1 : Tame s (enterPositioning t) := by
    unfold enterPositioning; split
    · exact tame_setSpindle (h.of_vital rfl)
    · exact h
  exact h1.of_vital rfl

theorem tame_strokeWait {s t : State} (h : Tame s t) : Tame s (strokeWait t) := h.of_vital rfl

theorem tame_beginStroke {s t : State} {c : Cyl} (h : Tame s t) : Tame s (beginStroke c t) := by
  unfold beginStroke; dsimp only; (repeat' split)
  all_goals first | exact h | exact tame_positionTo (h.of_vital rfl) | exact tame_strokeWait (h.of_vital rfl)

theorem tame_enterSettling {s t : State} (h : Tame s t) : Tame s (enterSettling t) := h.of_vital rfl

theorem tame_chooseStroke {s t : State} (h : Tame s t) : Tame s (chooseStroke t) := by
  unfold chooseStroke; dsimp only; (repeat' split)
  · exact h
  · exact tame_beginStroke (h.of_vital rfl)
  · exact tame_beginStroke (h.of_vital rfl)
  · exact tame_enterSettling (h.of_vital rfl)

theorem tame_nextAttempt {s t : State} (h : Tame s t) : Tame s (nextAttempt t) := by
  unfold nextAttempt; split
  · exact h
  · exact tame_positionTo (h.of_vital rfl)

theorem tame_enterMeshing {s t : State} (h : Tame s t) : Tame s (enterMeshing t) := by
  unfold enterMeshing; dsimp only; (repeat' split)
  · exact h
  · exact h.of_vital rfl
  · exact tame_nextAttempt (h.of_vital rfl)

theorem tame_strokeGranted {s t : State} (h : Tame s t) : Tame s (strokeGranted t) := by
  unfold strokeGranted; dsimp only; split
  · exact h
  · split
    · exact tame_enterMeshing (h.of_vital rfl)
    · exact h.of_vital rfl

theorem tame_applyMiss {s t : State} (h : Tame s t) : Tame s (applyMiss t) := by
  unfold applyMiss; dsimp only; (repeat' split)
  · exact h
  all_goals exact h.of_vital rfl

theorem tame_applyLearn {s t : State} (h : Tame s t) : Tame s (applyLearn t) := by
  unfold applyLearn; (repeat' split)
  · exact h
  · exact h.of_vital rfl
  · exact h

theorem tame_strokeSuccess {s t : State} (h : Tame s t) : Tame s (strokeSuccess t) := by
  have h1 : Tame s (hydReturn .gear (applyLearn (applyMiss (positionHold { t with sgu.strokeT := .stopped })))) :=
    tame_hydReturn (tame_applyLearn (tame_applyMiss (h.of_vital rfl)))
  unfold strokeSuccess; dsimp only; (repeat' split)
  · exact h
  · exact tame_beginStroke h1
  · exact tame_enterSettling (h1.of_vital rfl)

theorem tame_shiftFailSteps {s t : State} (h : Tame s t) : Tame s (shiftFailSteps t) := by
  have h1 : Tame s (applyMiss (hydWithdraw .gear (hydReturn .gear t))) :=
    tame_applyMiss (tame_hydWithdraw (tame_hydReturn h))
  unfold shiftFailSteps; dsimp only
  refine Tame.of_vital (t := if (applyMiss (hydWithdraw .gear (hydReturn .gear t))).sgu.st = .positioning then _ else _)
    ?_ rfl
  split
  · exact tame_spindleOff h1
  · exact h1

theorem tame_shiftFail {s t : State} {r : ShiftReason} (h : Tame s t) : Tame s (shiftFail r t) := by
  unfold shiftFail; split
  · exact h
  · exact tame_queueReport (tame_raiseStop ((tame_shiftFailSteps h).of_vital rfl))

theorem tame_shiftSuccess {s t : State} (h : Tame s t) : Tame s (shiftSuccess t) := by
  unfold shiftSuccess; split
  · exact h
  · next g _ =>
    have h1 : Tame s { t with sgu.gear := .engaged g.target, sgu.lastRange := g.target } := h.of_vital rfl
    refine Tame.of_vital (tame_queueReport ?_) rfl
    have h2 : ∀ u, Tame s u → Tame s (if u.sgu.st = .positioning then spindleOff u else u) := fun u h => by
      split
      · exact tame_spindleOff h
      · exact h
    split
    · exact Tame.of_vital (h2 _ h1) rfl
    · exact h2 _ h1

theorem tame_lateDisengage {s t : State} {c : Cyl} (h : Tame s t) : Tame s (lateDisengage c t) := by
  unfold lateDisengage; (repeat' split)
  · exact h
  · exact tame_strokeWait (h.of_vital rfl)
  · exact tame_shiftFail h

theorem tame_startShift {s t : State} {r : Range} {q : Nat} (h : Tame s t) : Tame s (startShift r q t) := by
  unfold startShift; dsimp only; split
  · exact tame_leaveEngaged (h.of_vital rfl)
  · exact h.of_vital rfl

theorem tame_driveLost {s t : State} (h : Tame s t) : Tame s (driveLost t) := by
  have hf : ∀ o u, Tame s u → Tame s (fprDriveLost o u) := fun o u h => by
    unfold fprDriveLost; split
    · exact tame_raiseHold h
    · exact h
  unfold driveLost; dsimp only; split
  · refine hf _ _ ?_
    have h1 : Tame s (riseStop .spindleDriveFault 0 t.sgu.st.num { t with sgu.faultFrom := t.sgu.st }) :=
      tame_riseStop (h.of_vital rfl)
    split <;> exact h1.of_vital rfl
  · exact h

theorem tame_spindleReadyChanged {s t : State} (h : Tame s t) : Tame s (spindleReadyChanged t) := by
  unfold spindleReadyChanged; split
  · exact tame_fall h
  · exact tame_driveLost h

theorem tame_gearFirstRead {s t : State} (h : Tame s t) : Tame s (gearFirstRead t) := by
  unfold gearFirstRead; dsimp only; (repeat' split) <;> first | exact h | exact h.of_vital rfl

end Sys2Proof.Machine
end

section
/-! SUPPORT. The queue, the path, the axis channels, the closing rules, the pendant port and the sensors are tame, but for
the position loops' TRIP, the TRIP inputs and the writes of the inputs. -/

namespace Sys2Proof.Machine

/-! ## The queue (chapter 1) -/

theorem tame_completeHead {s t : State} (h : Tame s t) : Tame s (completeHead t) := by
  unfold completeHead; split
  · exact h
  · next e => exact tame_drainTest (tame_flowEval (h.of_recs (by rw [e]; exact Nat.le_succ _) rfl))

theorem tame_completeEndMark {s t : State} (h : Tame s t) : Tame s (completeEndMark t) := by
  unfold completeEndMark; split
  · exact h
  · next r rs e =>
    have h1 : Tame s (queueReport (.markReached r.seq) t) := tame_queueReport h
    have hl : rs.length ≤ (queueReport (.markReached r.seq) t).sq.recs.length := by simp [e]
    exact tame_drainTest (tame_dropQueueOwners (tame_setQState (tame_piDrop (tame_flowEval (h1.of_recs hl rfl)))))

theorem tame_startMove {s t : State} {m : MoveRec} (h : Tame s t) : Tame s (startMove m t) := h.of_vital rfl

theorem tame_moveStep4 {s t : State} {q : Nat} {m : MoveRec} (h : Tame s t) : Tame s (moveStep4 q m t) := by
  unfold moveStep4; split
  · exact tame_raiseHold (h.of_vital rfl)
  · exact tame_startMove h

theorem tame_moveNeeds {s t : State} {q : Nat} {m : MoveRec} (h : Tame s t) : Tame s (moveNeeds q m t) := by
  refine tame_foldl (fun s t l h => ?_) _ (h.of_vital rfl)
  split
  · exact h
  · exact tame_axisNeed h

theorem tame_moveChecks {s t : State} {q : Nat} {m : MoveRec} (h : Tame s t) : Tame s (moveChecks q m t) := by
  unfold moveChecks; dsimp only; (repeat' split)
  · exact tame_raiseStop h
  · exact tame_raiseStop h
  · exact tame_moveStep4 h
  · exact tame_moveStep4 (tame_moveNeeds h)
  · exact tame_moveNeeds h

theorem tame_spindleRecord {s t : State} {r : QRec} {v : Nat} {d : Dir} {w : Bool} (h : Tame s t) :
    Tame s (spindleRecord r v d w t) := by
  unfold spindleRecord; dsimp only; split
  · split
    · exact tame_speedCommand h
    · exact tame_completeHead (tame_speedCommand h)
  · apply tame_reactStop; split
    · exact tame_latch h
    · exact tame_completeHead (tame_latch h)

theorem tame_gearHand {s t : State} {q : Nat} {r : Range} (h : Tame s t) : Tame s (gearHand q r t) := by
  unfold gearHand; split
  · exact tame_completeHead h
  · exact tame_startShift (h.of_vital rfl)

theorem tame_clampAction {s t : State} {c : ClampAxis} {k : Bool} (h : Tame s t) : Tame s (clampAction c k t) := by
  unfold clampAction; split
  · exact tame_clampNeed h
  · exact tame_releaseNeed h

theorem tame_dispatchHead {s t : State} (h : Tame s t) : Tame s (dispatchHead t) := by
  unfold dispatchHead; split
  · exact h
  · next r rs e =>
    have h1 : Tame s { t with sq.current := true, sq.waiting := false, sq.handed := false, sq.dwellLeft := 0 } :=
      h.of_vital rfl
    dsimp only; split
    · exact tame_moveChecks h1
    · exact h.of_vital rfl
    · exact tame_spindleRecord h1
    · split
      · exact h1
      · exact tame_gearHand h1
    · split
      · exact tame_coolantWrite h1
      · exact tame_completeHead (tame_coolantWrite h1)
    · split
      · exact tame_completeHead h1
      · exact tame_clampAction h1
    · split
      · exact h1
      · exact tame_completeHead (tame_queueReport h1)

/-- What the step of a record in progress can be (R20 to R24). -/
theorem recordStep_cases {s t : State} (h : recordStep s = some t) :
    t = completeHead s ∨ t = completeEndMark s ∨ ∃ q r, t = gearHand q r s := by
  revert h; unfold recordStep; (repeat' split) <;> intro h <;> cases h
  all_goals first | exact .inl rfl | exact .inr (.inl rfl) | exact .inr (.inr ⟨_, _, rfl⟩)

theorem tame_recordStep {s t u : State} (hu : recordStep t = some u) (h : Tame s t) : Tame s u := by
  obtain rfl | rfl | ⟨q, r, rfl⟩ := recordStep_cases hu
  · exact tame_completeHead h
  · exact tame_completeEndMark h
  · exact tame_gearHand h

theorem tame_becomeHeld {s t : State} (h : Tame s t) : Tame s (becomeHeld t) := (tame_setQState h).of_vital rfl

theorem tame_resumeRun {s t : State} (h : Tame s t) : Tame s (resumeRun t) := by
  have h1 : Tame s { setQState .running t with
      pi.hold := none, pi.ret := none, pi.r := 0, sq.waiting := false } := (tame_setQState h).of_vital rfl
  unfold resumeRun; dsimp only; split
  · exact tame_moveChecks h1
  · exact h1

theorem tame_takeResume {s t : State} (h : Tame s t) : Tame s (takeResume t) := by
  unfold takeResume; split
  · exact tame_resumeRun h
  · exact tame_setQState (h.of_vital rfl)

theorem tame_takeStart {s t : State} (h : Tame s t) : Tame s (takeStart t) := by
  refine tame_setQState (h.of_map fun a h1 => ?_)
  split
  · next ho =>
    have hp : (t.ax.get a).phase = .none := by
      by_contra hp; have := h1.2 hp; rw [ho] at this; cases this
    exact ⟨by simp [HomingOwn, hp], fun _ _ => ⟨hp, by simp, by simp⟩⟩
  · exact ⟨h1, id⟩

theorem tame_resumeRequest {s t : State} (h : Tame s t) : Tame s (resumeRequest t).2 := by
  unfold resumeRequest; (repeat' split)
  · exact h
  · exact h
  · exact h
  · exact h
  · exact tame_takeResume h

theorem tame_startRequest {s t : State} (h : Tame s t) : Tame s (startRequest t).2 := by
  unfold startRequest; split
  · (repeat' split)
    · exact h
    · exact h
    · exact h
    · exact h
    · exact tame_takeStart h
  · exact tame_resumeRequest h
  all_goals exact h

/-! ## The path (chapter 2) -/

theorem tame_giveSetpoint {s t : State} {a : Axis} {z : Int} (h : Tame s t) : Tame s (giveSetpoint a z t) := by
  unfold giveSetpoint; split
  · exact h.of_axis a (axisTame_of_eq rfl rfl)
  · exact h

theorem tame_giveMove {s t : State} {n p : Nat} {l : List Leg} (h : Tame s t) : Tame s (giveMove n p l t) :=
  tame_foldl (fun _ _ _ => tame_giveSetpoint) _ h

theorem tame_dispatchPassed {s : State} (n : Nat) : ∀ {t : State}, Tame s t → Tame s (dispatchPassed n t) := by
  induction n with
  | zero => exact fun h => h
  | succ n ih =>
    intro t h
    unfold dispatchPassed; (repeat' split)
    · exact ih (tame_dispatchHead h)
    · exact h
    · exact h

theorem tame_refuseCarry {s t : State} (h : Tame s t) : Tame s (refuseCarry t) := h.of_vital rfl

theorem tame_advanceMove {s : State} (fuel : Nat) :
    ∀ {t : State} {m : ActiveMove} {p r : Nat}, Tame s t → Tame s (advanceMove fuel m p r t) := by
  induction fuel with
  | zero => exact fun h => h.of_vital rfl
  | succ n ih =>
    intro t m p r h
    unfold advanceMove; split
    · exact tame_giveMove (h.of_vital rfl)
    · dsimp only
      have h0 := tame_giveMove (n := m.n) (p := m.n * 65536) (l := m.legs) h
      have h1 := tame_dispatchPassed 64 (tame_completeHead (h0.of_vital
        (u := { giveMove m.n (m.n * 65536) m.legs t with pi.r := r }) rfl))
      have h2 := tame_completeHead (tame_fall (c := .queueStarved) (h0.of_vital
        (u := { giveMove m.n (m.n * 65536) m.legs t with pi.r := 0 }) rfl))
      (repeat' split)
      all_goals first
        | exact h2
        | exact tame_raiseStop (tame_refuseCarry h1)
        | exact tame_raiseHold (tame_refuseCarry h1)
        | exact ih (h1.of_vital rfl)
        | exact h1.of_vital rfl

theorem tame_advanceReturn {s t : State} {m : ActiveMove} {p r : Nat} (h : Tame s t) :
    Tame s (advanceReturn m p r t) := by
  unfold advanceReturn; dsimp only; (repeat' split)
  · exact tame_giveMove (h.of_vital rfl)
  · exact tame_resumeRun (tame_giveMove (h.of_vital rfl))
  · exact tame_giveMove (h.of_vital rfl)

theorem tame_starvedTest {s t : State} {b c : Bool} {r z : Nat} (h : Tame s t) : Tame s (starvedTest b c r z t) := by
  unfold starvedTest; (repeat' split)
  · exact tame_riseNote h
  · exact tame_fall h
  · exact h

theorem tame_pathWork {s t : State} (h : Tame s t) : Tame s (pathWork t) := by
  have hm : ∀ m b n c, Tame s (moveWork m b n c t) := fun m b n c => by
    unfold moveWork; dsimp only; split
    · exact tame_advanceReturn (tame_starvedTest (h.of_vital rfl))
    · exact tame_advanceMove 4 (tame_starvedTest (h.of_vital rfl))
  unfold pathWork; (repeat' split)
  · exact hm ..
  · exact hm ..
  · unfold dwellCount; (repeat' split)
    · exact h.of_vital rfl
    · exact h
    · exact h
  · exact h

/-! ## Homing and jogs (chapters 3 and 8) -/

/-- An axis that homes goes on homing. -/
theorem axisTame_homing {tripped : Prop} {k n : AxisCh} (hk : k.phase ≠ .none) (ho : n.owner = k.owner)
    (hn : n.phase ≠ .none) : AxisTame tripped k n :=
  fun h1 => ⟨by simp [HomingOwn, ho, h1.2 hk, hn], fun h2 ht => absurd (h2 ht).1 hk⟩

/-- A homing ends. -/
theorem axisTame_closed {tripped : Prop} {k n : AxisCh} (ho : n.owner = .none) (hp : n.phase = .none) :
    AxisTame tripped k n :=
  fun _ => ⟨by simp [HomingOwn, ho, hp], fun _ _ => ⟨hp, by simp [ho], by simp [ho]⟩⟩

theorem tame_homeClose {s t : State} {a : Axis} (h : Tame s t) : Tame s (homeClose a t) :=
  h.of_axis a (axisTame_closed rfl rfl)

theorem tame_homeReport {s t : State} {a : Axis} (h : Tame s t) : Tame s (homeReport t a) := by
  unfold homeReport; split
  · exact tame_queueReport (tame_latch (h.of_axis a (axisTame_of_eq rfl rfl)))
  · exact h

theorem tame_homeOk {s t : State} {a : Axis} (h : Tame s t) : Tame s (homeOk a t) :=
  tame_queueReport (h.of_axis a (axisTame_closed rfl rfl))

theorem tame_searchSwitch {s t : State} {a : Axis} (h : Tame s t) : Tame s (searchSwitch a t) := by
  unfold searchSwitch; split
  · next hs => exact h.of_axis a (axisTame_homing (by simp [hs.1]) rfl (by simp))
  · exact h

theorem tame_latchSwitch {s t : State} {a : Axis} (h : Tame s t) : Tame s (latchSwitch a t) := by
  unfold latchSwitch; dsimp only; (repeat' split)
  all_goals first | exact h | exact h.of_axis a (axisTame_of_eq rfl rfl)

theorem tame_homeSwitchChanged {s t : State} {a : Axis} (h : Tame s t) : Tame s (homeSwitchChanged a t) :=
  tame_latchSwitch (tame_searchSwitch h)

theorem latchSwitch_phase (a d : Axis) (s : State) : ((latchSwitch a s).ax.get d).phase = (s.ax.get d).phase := by
  unfold latchSwitch; dsimp only; (repeat' split)
  all_goals simp only [updAx_ax, PerAxis.get_upd]; try split
  all_goals rfl

theorem tame_homeChecks {s t : State} {a : Axis} (h : Tame s t) : Tame s (homeChecks a t) := by
  unfold homeChecks; dsimp only; split
  · next hp =>
    (repeat' split)
    · exact tame_searchSwitch h
    · exact tame_homeFail (by simp [hp]) h
    · exact h
  · next hp =>
    have hl : ((latchSwitch a t).ax.get a).phase ≠ .none := by simp [latchSwitch_phase, hp]
    (repeat' split)
    · exact (tame_latchSwitch h).of_axis a (axisTame_homing hl rfl (by simp [homeShift]))
    · exact tame_homeFail hl (tame_latchSwitch h)
    · exact tame_latchSwitch h
  · exact h

theorem tame_homeMoved {s t : State} {a : Axis} (h : Tame s t) : Tame s (homeMoved a t) := by
  unfold homeMoved; dsimp only; split
  · next hp =>
    split
    · exact tame_homeFail (by simp [hp]) h
    · exact h
  · next hp =>
    split
    · exact tame_latchSwitch (h.of_axis a (axisTame_homing (by simp [hp]) rfl (by simp)))
    · exact h
  · next hp =>
    (repeat' split)
    · exact tame_homeFail (by simp [hp]) h
    · exact h
    · exact tame_homeFail (by simp [hp]) h
    · exact h
  · exact h

theorem homeProfile_owner (b : Bool) (k : AxisCh) : (homeProfile b k).owner = k.owner := by
  unfold homeProfile; dsimp only; split <;> rfl

theorem homeProfile_phase (b : Bool) (k : AxisCh) : (homeProfile b k).phase = k.phase := by
  unfold homeProfile; dsimp only; split <;> rfl

theorem tame_homeWork {s t : State} {a : Axis} (h : Tame s t) : Tame s (homeWork a t) := by
  unfold homeWork; split
  · exact tame_homeMoved ((tame_homeChecks h).of_axis a (axisTame_of_eq (homeProfile_owner ..) (homeProfile_phase ..)))
  · exact h

theorem tame_jogWork {s t : State} {a : Axis} (h : Tame s t) : Tame s (jogWork a t) := by
  unfold jogWork; dsimp only; (repeat' split)
  · exact (tame_giveSetpoint h).of_vital rfl
  · exact tame_giveSetpoint h
  · exact h
  · exact h

theorem tame_ownerWork {s t : State} {a : Axis} (h : Tame s t) : Tame s (ownerWork t a) := by
  unfold ownerWork; (repeat' split)
  · exact h.of_axis a (axisTame_of_eq rfl rfl)
  · exact tame_homeWork h
  · exact tame_jogWork h
  · exact h
  · exact h

theorem tame_saturation {s t : State} {d : Drive} {q : Nat} {z : Int} (h : Tame s t) :
    Tame s (saturation d q z t) := by
  unfold saturation; split
  · exact tame_riseNote h
  · exact h

theorem tame_hardLimitTest {s t : State} {a : Axis} (h : Tame s t) : Tame s (hardLimitTest t a) := by
  unfold hardLimitTest; split
  · exact tame_riseStop h
  · exact tame_fall h

theorem tame_settleHoming {s t : State} {a : Axis} (h : Tame s t) : Tame s (settleHoming t a) := by
  unfold settleHoming; dsimp only; split
  · exact tame_homeOk h
  · exact h

theorem tame_prevWork {s t : State} (h : Tame s t) : Tame s (prevWork t) := h.of_map fun _ => axisTame_of_eq rfl rfl

theorem tame_snapAll {s t : State} (h : Tame s t) : Tame s (snapAll t) := h.of_map fun _ => axisTame_of_eq rfl rfl

/-! ## The spindle in a path period -/

theorem tame_spindleMeasure {s t : State} (h : Tame s t) : Tame s (spindleMeasure t) := by
  unfold spindleMeasure; dsimp only; split <;> exact h.of_vital rfl

theorem tame_atSpeedTest {s t : State} (h : Tame s t) : Tame s (atSpeedTest t) := by
  unfold atSpeedTest; split
  · exact tame_setSpindle h
  · exact h

theorem tame_spindleRamp {s t : State} (h : Tame s t) : Tame s (spindleRamp t) := by
  unfold spindleRamp; split
  · exact h.of_vital rfl
  · exact h

theorem tame_spindleOutput {s t : State} {z : Int} (h : Tame s t) : Tame s (spindleOutput z t) := by
  have h1 : Tame s (saturation .spindle 0 z
      { t with sgu.out := clampOut z, sgu.satCount := satNext t.sgu.satCount z }) := tame_saturation (h.of_vital rfl)
  unfold spindleOutput; dsimp only; split
  · exact tame_fall h1
  · exact h1

theorem tame_positionStep {s t : State} (h : Tame s t) : Tame s (positionStep t) := by
  unfold positionStep; dsimp only; (repeat' split) <;> exact h.of_vital rfl

theorem tame_positionDone {s t : State} (h : Tame s t) : Tame s (positionDone t) := by
  unfold positionDone; dsimp only; (repeat' split)
  · exact tame_strokeWait (h.of_vital rfl)
  · exact h.of_vital rfl
  · exact h.of_vital rfl
  · exact h

/-! ## The closing rules -/

theorem tame_grantRule {s t u : State} (hu : grantRule t = some u) (h : Tame s t) : Tame s u := by
  unfold grantRule at hu
  split at hu
  · split at hu
    · cases hu
    · next e _ =>
      injection hu with hu; subst hu
      split
      · exact tame_startClampOp (h.of_vital rfl)
      · exact tame_strokeGranted (h.of_vital rfl)
  · cases hu

theorem tame_clampRule {s t u : State} {c : ClampAxis} (hu : clampRule t c = some u) (h : Tame s t) : Tame s u := by
  unfold clampRule at hu; dsimp only at hu
  split at hu
  · next hm => cases hu; exact tame_releaseDone hm h
  split at hu
  · next hm => cases hu; exact tame_clampDone hm h
  split at hu
  · cases hu; exact tame_releaseNeed (h.of_clamp c (clampTame_of_eq rfl rfl rfl))
  split at hu
  · cases hu; exact tame_clampNeed (h.of_clamp c (clampTame_of_eq rfl rfl rfl))
  split at hu
  · cases hu; exact h.of_clamp c (clampTame_of_eq rfl rfl rfl)
  · cases hu

theorem tame_pumpRule {s t u : State} (hu : pumpRule t = some u) (h : Tame s t) : Tame s u := by
  unfold pumpRule at hu
  split at hu
  · split at hu
    · cases hu; exact h.of_vital rfl
    · cases hu
  · split at hu
    · split at hu
      · cases hu; exact h.of_vital rfl
      · cases hu
    · split at hu
      · cases hu
      · split at hu
        · cases hu; exact tame_pumpStop h
        · cases hu; exact h.of_vital rfl

theorem tame_spindleRule {s t u : State} (hu : spindleRule t = some u) (h : Tame s t) : Tame s u := by
  unfold spindleRule at hu
  split at hu
  · split at hu
    · split at hu
      · cases hu; exact tame_setSpindle (h.of_vital rfl)
      · cases hu; exact tame_spindleOff h
    · cases hu
  · split at hu
    · cases hu; exact tame_spindleOff h
    · cases hu
  · split at hu
    · cases hu; exact tame_spindleStart h
    · cases hu
  · cases hu

theorem tame_engagedRule {s t u : State} (hu : engagedRule t = some u) (h : Tame s t) : Tame s u := by
  unfold engagedRule at hu
  split at hu
  · split at hu
    · cases hu
    · cases hu; exact tame_leaveEngaged (h.of_vital rfl)
  · cases hu

theorem tame_levelRule {s t u : State} {c : Cond} {b : Bool} {v : Int} (hu : levelRule c b v t = some u)
    (h : Tame s t) : Tame s u := by
  unfold levelRule at hu
  split at hu
  · cases hu; exact tame_riseStop h
  · split at hu
    · cases hu; exact tame_fall h
    · cases hu

theorem tame_shiftRule {s t u : State} (hu : shiftRule t = some u) (h : Tame s t) : Tame s u := by
  unfold shiftRule at hu
  split at hu
  · split at hu
    · cases hu; exact tame_chooseStroke h
    · cases hu
  · split at hu
    · cases hu; exact tame_strokeSuccess h
    · cases hu
  · split at hu
    · cases hu; exact tame_strokeSuccess h
    · cases hu
  · unfold settleTest at hu
    split at hu
    · cases hu
    · split at hu
      · cases hu; exact tame_lateDisengage h
      · split at hu
        · cases hu; exact tame_lateDisengage h
        · split at hu
          · cases hu; exact tame_shiftFail h
          · cases hu
  · cases hu

theorem tame_tscRule {s t u : State} (hu : tscRule t = some u) (h : Tame s t) : Tame s u := by
  unfold tscRule at hu
  split at hu
  · split at hu
    · cases hu; exact tame_tscRamp h
    · cases hu
  · split at hu
    · cases hu; exact tame_tscResume h
    · cases hu
  · split at hu
    · cases hu
    · cases hu; exact tame_tscSuspend h
  · split at hu
    · cases hu
    · cases hu; exact tame_tscSuspend h
  · cases hu

theorem tame_homeRule {s t u : State} {a : Axis} (hu : homeRule t a = some u) (h : Tame s t) : Tame s u := by
  unfold homeRule at hu; dsimp only at hu
  split at hu
  · next hp =>
    split at hu
    · cases hu; exact h.of_axis a (axisTame_homing (by simp [hp]) rfl (by simp))
    · cases hu
  · split at hu
    · cases hu; exact tame_homeReport (tame_homeClose h)
    · cases hu
  · cases hu

theorem tame_giveBackRule {s t u : State} {a : Axis} (hu : giveBackRule t a = some u) (h : Tame s t) : Tame s u := by
  unfold giveBackRule at hu; dsimp only at hu
  split at hu
  · next hg =>
    injection hu with hu; subst hu
    refine Tame.of_vital (h.of_axis a
      (f := fun k => { k with owner := if t.sq.st = .held then .queue else .none }) fun h1 => ?_) rfl
    have hp : (t.ax.get a).phase = .none := by
      by_contra hp; have := h1.2 hp; rw [hg.1] at this; cases this
    refine ⟨?_, fun h2 ht => absurd hg.1 (h2 ht).2.2⟩
    simp only [HomingOwn, hp]
    split <;> simp
  · cases hu

theorem tame_queueRule {s t u : State} (hu : queueRule t = some u) (h : Tame s t) : Tame s u := by
  unfold queueRule at hu
  split at hu
  · next hr => cases hu; exact tame_recordStep hr h
  · split at hu
    · split at hu
      · cases hu; exact tame_dispatchHead h
      · cases hu
    · split at hu
      · cases hu; exact tame_becomeHeld h
      · cases hu
    · split at hu
      · cases hu; exact tame_flushIdle h
      · cases hu
    · cases hu

theorem tame_rules {s t u : State} (hu : rules t = some u) (h : Tame s t) : Tame s u := by
  have hover : overloadRule t = some u → Tame s u := fun hu => by
    unfold overloadRule at hu; split at hu
    · cases hu; exact h.of_vital rfl
    · cases hu
  have hflood : floodRule t = some u → Tame s u := fun hu => by
    unfold floodRule at hu; split at hu
    · cases hu; exact h.of_cu id rfl
    · cases hu
  have hsupply : supplyRule t = some u → Tame s u := fun hu => by
    unfold supplyRule at hu; split at hu
    · cases hu; exact tame_fall (h.of_vital rfl)
    · cases hu
  have hmachine : machineRule t = some u → Tame s u := fun hu => by
    unfold machineRule at hu; split at hu
    · next hg => cases hu; exact h.of_machine (by simp [hg.1]) (by simp) rfl
    · cases hu
  exact rules_induct (P := Tame s) hu (tame_engagedRule · h) (fun _ _ _ e => tame_levelRule e h) hover (tame_grantRule · h)
    (fun _ e => tame_clampRule e h) (tame_spindleRule · h) (tame_shiftRule · h) hflood (tame_tscRule · h)
    (fun _ e => tame_homeRule e h) (fun _ e => tame_giveBackRule e h) (tame_queueRule · h) (tame_pumpRule · h) hsupply
    hmachine

theorem tame_settle {s : State} (n : Nat) : ∀ {t : State}, Tame s t → Tame s (settle n t) := by
  induction n with
  | zero => exact fun h => h
  | succ n ih =>
    intro t h
    unfold settle; split
    · next hr => exact ih (tame_rules hr h)
    · exact h

theorem tame_quiesce {s t : State} (h : Tame s t) : Tame s (quiesce t) := by
  have h1 := tame_settle 512 h
  unfold quiesce tscGuard; split
  · exact tame_tscSuspend h1
  · exact h1

theorem tame_finish {s t : State} (h : Tame s t) : Tame s (finish t) := by
  have hp : ∀ u, Tame s u → Tame s (pendantSend u) := fun u h => by
    unfold pendantSend; dsimp only; (repeat' split) <;> first | exact h | exact h.of_vital rfl
  have ht : ∀ u, Tame s u → Tame s (transmit u) := fun u h => by
    unfold transmit; (repeat' split) <;> first | exact h | exact h.of_vital rfl
  exact ht _ (hp _ (tame_quiesce h))

/-! ## The pendant port (chapter 8) -/

theorem tame_setPend {s t : State} {p : PendState} {c : PendCause} (h : Tame s t) : Tame s (setPend p c t) :=
  tame_queueReport (h.of_vital rfl)

theorem tame_mismatchStep {s t : State} (h : Tame s t) : Tame s (mismatchStep t) := by
  unfold mismatchStep; (repeat' split)
  · exact tame_fall (h.of_vital rfl)
  · exact h
  · exact h.of_vital rfl
  · exact h

theorem tame_armStep {s t : State} (h : Tame s t) : Tame s (armStep t) := by
  unfold armStep; (repeat' split)
  · exact h.of_vital rfl
  · exact h
  · exact h

theorem tame_enableStep {s t : State} {f : StatusFrame} (h : Tame s t) : Tame s (enableStep f t) := by
  have h1 : Tame s (if f.enable = .panic then { t with pp.armed := false } else t) := by
    split
    · exact h.of_vital rfl
    · exact h
  unfold enableStep; dsimp only; split
  · exact tame_mismatchStep (tame_armStep h1)
  · exact tame_endAllJogs (tame_mismatchStep (tame_armStep h1))
  · exact tame_endAllJogs (tame_mismatchStep (tame_armStep h1))

theorem tame_contactChanged {s t : State} (h : Tame s t) : Tame s (contactChanged t) := by
  unfold contactChanged; dsimp only; split
  · exact tame_mismatchStep (tame_armStep h)
  · exact tame_endAllJogs (tame_mismatchStep (tame_armStep h))

theorem tame_startInterval {s t : State} (h : Tame s t) : Tame s (startInterval t) := h.of_vital rfl

theorem tame_selectorStep {s t : State} {o : Option StatusFrame} {f : StatusFrame} (h : Tame s t) :
    Tame s (selectorStep o f t) := by
  have hj : ∀ u, Tame s u →
      Tame s (allAxes.foldl (fun s a => if f.sel = some a then s else endJog .jog a s) u) := fun u h =>
    tame_foldl (fun s t a h => by
      split
      · exact h
      · exact h.of_vital rfl) _ h
  unfold selectorStep; dsimp only; (repeat' split)
  · exact h
  · exact tame_startInterval h
  · exact h
  · exact hj _ (tame_startInterval h)
  · exact hj _ h

/-- A take attempt that succeeds finds the axis owned by nobody or by QUEUE, in a READY machine (R168). -/
theorem takeOutcome_taken {s : State} {a : Axis} (h : takeOutcome s a = .taken) :
    s.cn.machine = .ready ∧ ((s.ax.get a).owner = .none ∨ (s.ax.get a).owner = .queue) := by
  unfold takeOutcome at h
  split at h
  · next hj =>
    have hm : s.cn.machine = .ready := by
      unfold jogPermitted at hj; simp only [Bool.and_eq_true, beq_iff_eq] at hj; exact hj.1.1.2
    split at h
    · next ho => exact ⟨hm, .inl ho⟩
    · next ho => exact ⟨hm, .inr ho⟩
    · cases h
    · cases h
  · cases h

theorem tame_takeAxis {s t : State} {a : Axis} (ht : takeOutcome t a = .taken) (h : Tame s t) :
    Tame s (takeAxis a t) := by
  obtain ⟨hm, ho⟩ := takeOutcome_taken ht
  have hstep : ∀ u, u.cn = t.cn → u.ax = t.ax → Tame s u →
      Tame s (updAx a (fun k => { k with owner := .pendant }) u) := fun u hc ha h =>
    h.of_axis a fun h1 => by
      have hp : (u.ax.get a).phase = .none := by
        by_contra hp; have := h1.2 hp; rw [ha] at this; obtain ho | ho := ho <;> simp [ho] at this
      exact ⟨by simp [HomingOwn, hp], fun _ ht => by rw [hc, hm] at ht; cases ht⟩
  unfold takeAxis; dsimp only; split
  · exact hstep _ rfl rfl (h.of_vital rfl)
  · exact hstep _ rfl rfl h

theorem tame_jogNeed {s t : State} {a : Axis} (h : Tame s t) : Tame s (jogNeed a t) := by
  unfold jogNeed; split
  · exact h
  · exact tame_axisNeed h

theorem tame_jogPress {s t : State} {a : Axis} {d : JogDir} (h : Tame s t) : Tame s (jogPress a d t) := by
  unfold jogPress; split
  · next ht => exact tame_jogNeed (Tame.of_vital (tame_takeAxis ht h) rfl)
  · exact tame_jogNeed (h.of_vital rfl)
  · exact h.of_vital rfl

theorem tame_jogReleases {s t : State} {f : StatusFrame} (h : Tame s t) : Tame s (jogReleases f t) :=
  tame_foldl (fun s t a h => by
    split
    · exact h.of_vital rfl
    · exact h) _ h

theorem tame_floodPress {s t : State} (h : Tame s t) : Tame s (floodPress t) := by
  unfold floodPress; split
  · exact h
  · exact tame_coolantWrite h

theorem tame_deliverPress {s t : State} {b : Bool} {f : State → State} (hf : ∀ {u}, Tame s u → Tame s (f u))
    (h : Tame s t) : Tame s (deliverPress b f t) := by
  unfold deliverPress; split
  · exact tame_settle 512 (hf h)
  · exact h

theorem tame_pressStep {s t : State} {o : Option StatusFrame} {f : StatusFrame} (h : Tame s t) :
    Tame s (pressStep o f t) := by
  have h1 := tame_deliverPress (b := pressed o f (·.hold)) (f := holdPress)
    (fun h => tame_endAllJogs (tame_sqHold h)) h
  have h2 := tame_deliverPress
    (b := pressed o f (·.start) && (deliverPress (pressed o f (·.hold)) holdPress t).pp.armed) (f := pendantStart)
    tame_startRequest h1
  have h3 := tame_jogReleases (f := f) (tame_deliverPress (b := pressed o f (·.flood)) tame_floodPress h2)
  unfold pressStep; dsimp only; (repeat' split)
  · exact h3
  · exact h3
  · exact tame_jogPress h3
  · exact tame_jogPress h3
  · exact h3

theorem tame_offerCounts {s t : State} {a : Axis} {m : Mult} {d : Int} (h : Tame s t) :
    Tame s (offerCounts a m d t) := by
  unfold offerCounts; dsimp only; split
  · exact tame_latch (h.of_vital rfl)
  · exact h.of_vital rfl

theorem tame_wheelMove {s t : State} {a : Axis} {m : Mult} {d : Int} (h : Tame s t) : Tame s (wheelMove a m d t) := by
  have hw : ∀ u, Tame s u → Tame s (jogNeed a (wheelMode a u)) := fun u h => tame_jogNeed (h.of_vital rfl)
  have ho : ∀ u, Tame s u → Tame s (if released u a = true then offerCounts a m d u else u) := fun u h => by
    split
    · exact tame_offerCounts h
    · exact h
  unfold wheelMove; split
  · exact h
  · dsimp only
    cases ht : takeOutcome t a with
    | taken => exact ho _ (hw _ (tame_takeAxis ht h))
    | held => exact ho _ (hw _ h)
    | ignored => exact h.of_vital rfl

theorem tame_takeWhole {s t : State} {o : Option StatusFrame} {f : StatusFrame} (h : Tame s t) :
    Tame s (takeWhole o f t) := by
  have hk : Tame s (knobStep f { t with pp.last := some f, pp.seen := true }) := by
    unfold knobStep; split <;> exact h.of_vital rfl
  have hs := tame_pressStep (o := o) (f := f) (tame_selectorStep (o := o) (f := f) (tame_enableStep (f := f) hk))
  unfold takeWhole wheelStep; dsimp only; (repeat' split)
  · exact hs
  · exact tame_wheelMove hs
  · exact hs

theorem tame_takeFrame {s t : State} {f : StatusFrame} (h : Tame s t) : Tame s (takeFrame f t) := by
  have h0 : Tame s (enterPresent t) := tame_setPend (h.of_vital rfl)
  have h1 : Tame s { enterPresent t with pp.freshT := .start 50, pp.answerDue := true } := h0.of_vital rfl
  have h2 : Tame s { t with pp.freshT := .start 50, pp.answerDue := true } := h.of_vital rfl
  unfold takeFrame; dsimp only; (repeat' split)
  all_goals first | exact h1 | exact h2 | exact tame_takeWhole h1 | exact tame_takeWhole h2

theorem tame_pendantRead {s t : State} {l : List Byte} (h : Tame s t) : Tame s (pendantRead l t) := by
  unfold pendantRead; dsimp only; (repeat' split)
  · exact h
  · exact tame_takeFrame (h.of_vital rfl)
  · exact h.of_vital rfl

theorem tame_pendantLost {s t : State} (h : Tame s t) : Tame s (pendantLost t) := by
  have h1 : Tame s (setPend .lost .timeout
      { t with pp.freshT := .stopped, pp.mismT := .stopped, pp.armed := false }) := tame_setPend (h.of_vital rfl)
  unfold pendantLost; dsimp only
  refine tame_fall (tame_endAllJogs ?_)
  split
  · split <;> first | exact tame_raiseHold h1 | exact h1
  · split <;> first | exact tame_raiseHold h1 | exact h1

theorem tame_mismatchRaise {s t : State} (h : Tame s t) : Tame s (mismatchRaise t) := by
  unfold mismatchRaise; split
  · exact tame_riseHold (h.of_vital rfl)
  · exact h

theorem tame_startLineTest {s t : State} (h : Tame s t) : Tame s (startLineTest t) :=
  tame_fall (tame_setPend (h.of_vital rfl))

theorem tame_endLineTest {s t : State} {r : LtResult} (h : Tame s t) : Tame s (endLineTest r t) :=
  tame_queueReport (tame_setPend (h.of_vital rfl))

/-! ## Deliveries of inputs and samples (chapter 9) -/

theorem tame_limitChanged {s t : State} {a : Axis} (h : Tame s t) : Tame s (limitChanged a t) := by
  unfold limitChanged; split
  · exact h
  · exact tame_hardLimitTest h

theorem tame_clampSensorChanged {s t : State} {c : ClampAxis} {b : Bool} (h : Tame s t) :
    Tame s (clampSensorChanged c b t) := by
  unfold clampSensorChanged; dsimp only; split
  · exact tame_clampLost (tame_clampCheck h)
  · exact tame_clampCheck h

theorem tame_hydOverloadChanged {s t : State} {b : Bool} (h : Tame s t) : Tame s (hydOverloadChanged b t) := by
  unfold hydOverloadChanged; split
  · exact tame_supplyLow h
  · exact h

theorem tame_floodOverloadChanged {s t : State} {b : Bool} (h : Tame s t) : Tame s (floodOverloadChanged b t) := by
  unfold floodOverloadChanged; split
  · exact tame_floodFault h
  · exact h

theorem tame_tscOverloadChanged {s t : State} {b : Bool} (h : Tame s t) : Tame s (tscOverloadChanged b t) := by
  unfold tscOverloadChanged; split
  · exact tame_tscFault h
  · exact h

/-- Every delivery but that of the E-stop chain and of the drives is tame. -/
theorem tame_deliver {s t : State} {n : Fin 32} (hn : 2 ≤ n.val) (h : Tame s t) : Tame s (deliver n t) := by
  unfold deliver; dsimp only
  split
  · omega
  · omega
  · exact tame_spindleReadyChanged h
  · exact tame_contactChanged h
  · exact tame_limitChanged h
  · exact tame_limitChanged h
  · exact tame_limitChanged h
  · exact tame_limitChanged h
  · exact tame_limitChanged h
  · exact tame_limitChanged h
  · exact tame_limitChanged h
  · exact tame_limitChanged h
  · exact tame_homeSwitchChanged h
  · exact tame_homeSwitchChanged h
  · exact tame_homeSwitchChanged h
  · exact tame_homeSwitchChanged h
  · exact tame_homeSwitchChanged h
  · exact tame_clampSensorChanged h
  · exact tame_clampSensorChanged h
  · exact tame_clampSensorChanged h
  · exact tame_clampSensorChanged h
  · exact tame_clampSensorChanged h
  · exact tame_clampSensorChanged h
  · exact tame_clampSensorChanged h
  · exact tame_clampSensorChanged h
  · exact tame_gearFirstRead h
  · exact tame_gearFirstRead h
  · exact tame_gearFirstRead h
  · exact tame_gearFirstRead h
  · exact tame_hydOverloadChanged h
  · exact tame_floodOverloadChanged h
  · exact tame_tscOverloadChanged h

theorem tame_deliverCmp {s t : State} {i : Fin 7} (h : Tame s t) : Tame s (deliverCmp i t) := by
  unfold deliverCmp; split
  · unfold hydMinChanged; split
    · exact tame_supplyLow h
    · exact h
  · unfold floodMinChanged; split
    · exact tame_floodFault h
    · exact h
  · exact tame_levelNote h
  · exact tame_filterBlockChanged h
  · exact tame_levelChanged h
  · exact h

theorem tame_conversion {s t : State} {n : Nat} (h : Tame s t) : Tame s (conversion n t) := by
  have h2 : ∀ u v l, Tame s u → Tame s ((channelCmps l).foldl (cmpWork v) u) := fun u v l h =>
    tame_foldl (f := cmpWork v) (fun s t i h => h.of_vital rfl) _ h
  unfold conversion; dsimp only
  have h3 : ∀ u (l : List (Fin 7)), Tame s u → Tame s (l.foldl (fun s i => deliverCmp i s) u) := fun u l h =>
    tame_foldl (fun s t i h => tame_deliverCmp h) _ h
  split
  · exact tame_tscSample (h3 _ _ (h2 _ _ _ (h.of_vital rfl)))
  · exact h3 _ _ (h2 _ _ _ (h.of_vital rfl))

end Sys2Proof.Machine
end

section
/-! SUPPORT. What TRIPPED holds (`Cold`), and that the work which can still come in TRIPPED keeps it: most of it finds a
guard that TRIPPED closes. `cold_f` says that f keeps it. -/

namespace Sys2Proof.Machine

/-! ## The predicate -/

/-- A clamp state of TRIPPED: none in which a valve is on (R104). -/
def ClampState.Off (c : ClampState) : Prop := c = .clamped ∨ c = .clamping ∨ c = .released ∨ c = .fault

/-- The machine is TRIPPED with everything off. -/
structure Cold (s : State) : Prop where
  tripped : s.cn.machine = .tripped
  idle : s.sq.st = .idle
  outs : ∀ a, (s.ax.get a).out = 0
  spindle : s.sgu.st = .off ∨ s.sgu.st = .fault
  speed : s.sgu.reqSpeed = 0
  target : s.sgu.target = 0
  out : s.sgu.out = 0
  shift : s.sgu.shift = none ∨ shifting s = false
  coolant : s.cu = .cleared s.cu.p
  pump : s.hs.st = .pumpOff
  clamps : ∀ c, (s.cc.get c).st.Off

theorem trippedOff_iff (s : State) : TrippedOff s ↔ (s.cn.machine = .tripped → Cold s) :=
  ⟨fun h ht => by
    obtain ⟨h1, h2, h3, h4, h5, h6, h7, h8, h9, h10⟩ := h ht
    exact ⟨ht, h1, h2, h3, h4, h5, h6, h7, h8, h9, h10⟩,
   fun h ht => by
    obtain ⟨-, h1, h2, h3, h4, h5, h6, h7, h8, h9, h10⟩ := h ht
    exact ⟨h1, h2, h3, h4, h5, h6, h7, h8, h9, h10⟩⟩

/-- What `Cold` reads of a state. -/
def chilled (s : State) :=
  (s.cn.machine, s.sq.st, s.ax, s.sgu.st, s.sgu.reqSpeed, s.sgu.target, s.sgu.out, s.sgu.shift, s.sgu.gear, s.cu,
    s.hs.st, s.cc)

theorem shifting_of_gear {s t : State} (h : t.sgu.gear = s.sgu.gear) : shifting t = shifting s := by
  unfold shifting; rw [h]

theorem Cold.of_chilled {s t : State} (h : Cold s) (e : chilled t = chilled s) : Cold t := by
  simp only [chilled, Prod.mk.injEq] at e
  obtain ⟨e1, e2, e3, e4, e5, e6, e7, e8, e9, e10, e11, e12⟩ := e
  obtain ⟨h1, h2, h3, h4, h5, h6, h7, h8, h9, h10, h11⟩ := h
  constructor <;> simp only [e1, e2, e3, e4, e5, e6, e7, e8, e10, e11, e12, shifting_of_gear e9] <;> assumption

theorem Cold.of_map {s : State} {f : Axis → AxisCh → AxisCh} (h : Cold s)
    (hf : ∀ a, (f a (s.ax.get a)).out = (s.ax.get a).out) : Cold (mapAx f s) :=
  { h with outs := fun a => by rw [mapAx_ax, PerAxis.get_map, hf]; exact h.outs a }

theorem Cold.of_axis {s : State} {a : Axis} {f : AxisCh → AxisCh} (h : Cold s)
    (hf : (f (s.ax.get a)).out = 0) : Cold (updAx a f s) := by
  refine { h with outs := fun b => ?_ }
  rw [updAx_ax, PerAxis.get_upd]; split
  · next e => rw [← e, hf]
  · exact h.outs b

theorem Cold.of_clamp {s : State} {c : ClampAxis} {f : Clamp → Clamp} (h : Cold s)
    (hf : (f (s.cc.get c)).st.Off) : Cold (updClamp c f s) := by
  refine { h with clamps := fun b => ?_ }
  rw [updClamp_cc, PerClamp.get_upd]; split
  · next e => rw [← e]; exact hf
  · exact h.clamps b

theorem cold_foldl {α : Type} {f : State → α → State} (hf : ∀ s a, Cold s → Cold (f s a)) (l : List α) :
    ∀ {s : State}, Cold s → Cold (l.foldl f s) := by
  induction l with
  | nil => exact fun h => h
  | cons a l ih => exact fun h => ih (hf _ a h)

theorem cold_ite {p : Prop} [Decidable p] {s t : State} (hs : Cold s) (ht : Cold t) : Cold (if p then s else t) := by
  split
  · exact hs
  · exact ht

/-! ## Guards that TRIPPED closes -/

theorem Cold.notTurning {s : State} (h : Cold s) : turning s = false := by
  unfold turning; rcases h.spindle with e | e <;> simp [e]

theorem Cold.notRuns {s : State} (h : Cold s) : spindleRuns s = false := by
  unfold spindleRuns; rw [h.notTurning]; rcases h.spindle with e | e <;> simp [e]

theorem Cold.notEnabled {s : State} (h : Cold s) : spindleEnable s = false := by
  unfold spindleEnable; rw [h.notRuns]; rcases h.spindle with e | e <;> simp [e]

theorem Cold.flood {s : State} (h : Cold s) : s.cu.flood = .off := by rw [h.coolant]; rfl
theorem Cold.tsc {s : State} (h : Cold s) : s.cu.tsc = .off := by rw [h.coolant]; rfl
theorem Cold.tscPump {s : State} (h : Cold s) : s.cu.pump = false := by rw [h.coolant]; rfl

/-! ## Reports and raises -/

theorem cold_queueReport {s : State} {k : Report} (h : Cold s) : Cold (queueReport k s) := by
  unfold queueReport; split <;> exact h.of_chilled rfl

theorem cold_latch {s : State} {c : Cond} {q : Nat} {v : Int} (h : Cold s) : Cold (latch c q v s) :=
  cold_queueReport (h.of_chilled rfl)

theorem cold_fall {s : State} {c : Cond} (h : Cold s) : Cold (fall c s) := by
  unfold fall; split
  · exact cold_queueReport (h.of_chilled rfl)
  · exact h

theorem cold_riseNote {s : State} {c : Cond} {q : Nat} {v : Int} (h : Cold s) : Cold (riseNote c q v s) := by
  unfold riseNote; split
  · exact h
  · exact cold_latch (h.of_chilled rfl)

theorem cold_levelNote {s : State} {c : Cond} {b : Bool} {q : Nat} {v : Int} (h : Cold s) :
    Cold (levelNote c b q v s) := by
  unfold levelNote; split
  · exact cold_riseNote h
  · exact cold_fall h

theorem cold_raiseHold {s : State} {c : Cond} {q : Nat} {v : Int} (h : Cold s) : Cold (raiseHold c q v s) := by
  unfold raiseHold; rw [if_pos h.tripped]; exact cold_latch h

theorem cold_riseHold {s : State} {c : Cond} {q : Nat} {v : Int} (h : Cold s) : Cold (riseHold c q v s) := by
  unfold riseHold; split
  · exact h
  · exact cold_raiseHold (h.of_chilled rfl)

theorem reactStop_of_tripped {s : State} (h : s.cn.machine = .tripped) : reactStop s = s := by
  unfold reactStop; rw [h]

theorem cold_raiseStop {s : State} {c : Cond} {q : Nat} {v : Int} (h : Cold s) : Cold (raiseStop c q v s) := by
  have k := cold_latch (c := c) (q := q) (v := v) h
  unfold raiseStop; rw [reactStop_of_tripped k.tripped]; exact k

theorem cold_riseStop {s : State} {c : Cond} {q : Nat} {v : Int} (h : Cold s) : Cold (riseStop c q v s) := by
  unfold riseStop; split
  · exact h
  · exact cold_raiseStop (h.of_chilled rfl)

theorem cold_raiseTrip {s : State} {c : Cond} {q : Nat} {v : Int} (h : Cold s) : Cold (raiseTrip c q v s) := by
  unfold raiseTrip; rw [if_pos h.tripped]; exact cold_latch h

theorem cold_riseTrip {s : State} {c : Cond} {q : Nat} {v : Int} (h : Cold s) : Cold (riseTrip c q v s) := by
  unfold riseTrip; split
  · exact h
  · exact cold_raiseTrip (h.of_chilled rfl)

theorem cold_tripInput {s : State} {c : Cond} {b : Bool} (h : Cold s) : Cold (tripInput c b s) := by
  unfold tripInput; split
  · exact cold_fall h
  · exact cold_riseTrip h

theorem cold_endAllJogs {s : State} {e : EndStep} (h : Cold s) : Cold (endAllJogs e s) := h.of_chilled rfl

/-! ## Clamps -/

theorem releaseNeed_of_tripped {s : State} {c : ClampAxis} (h : s.cn.machine = .tripped) : releaseNeed c s = s := by
  unfold releaseNeed; rw [if_pos (.inl h)]

theorem clampNeed_of_tripped {s : State} {c : ClampAxis} (h : s.cn.machine = .tripped) : clampNeed c s = s := by
  unfold clampNeed; rw [if_pos (.inl h)]

theorem cold_hydReturn {s : State} {w : Requester} (h : Cold s) : Cold (hydReturn w s) := by
  unfold hydReturn; split
  · split
    · exact h.of_chilled rfl
    · exact h
  · exact h

theorem cold_hydWithdraw {s : State} {w : Requester} (h : Cold s) : Cold (hydWithdraw w s) := h.of_chilled rfl

theorem cold_clampDone {s : State} {c : ClampAxis} (h : Cold s) : Cold (clampDone c s) := by
  unfold clampDone; rw [if_neg (fun k => k.2 h.tripped)]
  exact cold_hydReturn (h.of_clamp (.inl rfl))

theorem Cold.not_releaseMet {s : State} {c : ClampAxis} (h : Cold s) : releaseMet s c = false := by
  unfold releaseMet; rcases h.clamps c with e | e | e | e <;> simp [e]

theorem cold_pumpStop {s : State} (h : Cold s) : Cold (pumpStop s) :=
  cold_fall (Cold.of_chilled (s := { s with hs.st := .pumpOff }) { h with pump := rfl } rfl)

theorem cold_clampTimedOut {s : State} {c : ClampAxis} {v : Int} (h : Cold s) : Cold (clampTimedOut c v s) :=
  cold_raiseStop (cold_hydReturn (h.of_clamp (.inr (.inr (.inr rfl)))))

theorem cold_clampLost {s : State} {c : ClampAxis} (h : Cold s) : Cold (clampLost c s) := by
  unfold clampLost; dsimp only; split
  · exact h
  split
  · exact cold_raiseStop (h.of_clamp (.inr (.inr (.inr rfl))))
  split
  · exact cold_raiseStop (cold_hydWithdraw (h.of_clamp (.inr (.inr (.inr rfl)))))
  · exact h

theorem cold_clampCheck {s : State} {c : ClampAxis} (h : Cold s) : Cold (clampCheck c s) := by
  unfold clampCheck; split
  · exact h
  · refine h.of_clamp ?_
    dsimp only; split
    · exact .inr (.inr (.inr rfl))
    · exact h.clamps c

theorem cold_clampSensorChanged {s : State} {c : ClampAxis} {b : Bool} (h : Cold s) :
    Cold (clampSensorChanged c b s) := by
  unfold clampSensorChanged; dsimp only; split
  · exact cold_clampLost (cold_clampCheck h)
  · exact cold_clampCheck h

/-! ## Spindle -/

theorem cold_spindleOff {s : State} (h : Cold s) : Cold (spindleOff s) := by
  have ht : turning { s with sgu.out := 0, sgu.posMoving := false, sgu.positionT := .stopped } = false := h.notTurning
  unfold spindleOff setSpindle; dsimp only
  rw [if_neg (fun k => by rw [ht] at k; exact absurd k.1 (by decide))]
  exact { h with spindle := .inl rfl, out := rfl }

theorem cold_leaveEngaged {s : State} (h : Cold s) : Cold (leaveEngaged s) := by
  have k : Cold { s with sgu.target := 0 } := { h with target := rfl }
  unfold leaveEngaged; dsimp only
  split
  · next e => rcases h.spindle with e' | e' <;> rw [e'] at e <;> cases e
  · next e => rcases h.spindle with e' | e' <;> rw [e'] at e <;> cases e
  · exact cold_spindleOff k
  · exact k

theorem formTarget_of_reqSpeed {s : State} (h : s.sgu.reqSpeed = 0) : formTarget s = 0 := by
  unfold formTarget; split <;> simp [h]

theorem cold_retarget {s : State} (h : Cold s) : Cold (retarget s) := by
  have k : Cold { s with sgu.target := 0 } := { h with target := rfl }
  unfold retarget; dsimp only; rw [formTarget_of_reqSpeed h.speed]
  split
  · exact k
  · next e => rcases h.spindle with e' | e' <;> rw [e'] at e <;> cases e
  · next e => rcases h.spindle with e' | e' <;> rw [e'] at e <;> cases e
  · next e => rcases h.spindle with e' | e' <;> rw [e'] at e <;> cases e
  · exact k
  · exact k

theorem cold_applyMiss {s : State} (h : Cold s) (hs : shifting s = false) : Cold (applyMiss s) := by
  have k : Cold (updShift (fun h => { h with entry := none }) s) := { h with shift := .inr hs }
  unfold applyMiss; split
  · exact h
  · dsimp only; split
    · split
      · exact k.of_chilled rfl
      · exact k
    · exact k

theorem hydReturn_gear_sgu (s : State) (w : Requester) : (hydReturn w s).sgu = s.sgu := by simp

/-- A shift that TRIPPED has not dropped has ended before it. -/
theorem cold_shiftFail {s : State} {r : ShiftReason} (h : Cold s) : Cold (shiftFail r s) := by
  unfold shiftFail; split
  · exact h
  · next k e =>
    have hs : shifting s = false := h.shift.resolve_left (by rw [e]; exact Option.some_ne_none k)
    have hw := cold_hydWithdraw (w := .gear) (cold_hydReturn (w := .gear) h)
    have hm := cold_applyMiss hw (by rw [shifting_of_gear (s := s)]; exact hs; simp)
    have hst : ∀ u : State, Cold u → Cold ({ stopShiftTimers { u with sgu.gear := .fault } with sgu.shift := none }) :=
      fun u hu => { hu with shift := .inl rfl }
    refine cold_queueReport (cold_raiseStop ?_)
    unfold shiftFailSteps; dsimp only
    rw [if_neg (by rcases hm.spindle with e | e <;> rw [e] <;> decide)]
    exact hst _ hm

theorem cold_driveLost {s : State} (h : Cold s) : driveLost s = s := by
  unfold driveLost; rw [if_neg (by rw [h.notEnabled]; decide)]

theorem cold_spindleReadyChanged {s : State} (h : Cold s) : Cold (spindleReadyChanged s) := by
  unfold spindleReadyChanged; split
  · exact cold_fall h
  · rw [cold_driveLost h]; exact h

theorem cold_gearFirstRead {s : State} (h : Cold s) : Cold (gearFirstRead s) := by
  unfold gearFirstRead; split
  · exact h
  · dsimp only; split
    · exact { h with shift := .inr rfl }
    · exact h.of_chilled rfl

/-! ## Homing -/

theorem cold_homeOk {s : State} {a : Axis} (h : Cold s) : Cold (homeOk a s) :=
  cold_queueReport (h.of_axis (h.outs a))

theorem cold_homeReport {s : State} {a : Axis} (h : Cold s) : Cold (homeReport s a) := by
  unfold homeReport; split
  · exact cold_queueReport (cold_latch (h.of_axis (h.outs a)))
  · exact h

theorem cold_homeEnd {s : State} {a : Axis} (h : Cold s) : Cold (homeEnd a s) :=
  cold_homeReport (h.of_axis (h.outs a))

theorem cold_searchSwitch {s : State} {a : Axis} (h : Cold s) : Cold (searchSwitch a s) := by
  unfold searchSwitch; split
  · exact h.of_axis (h.outs a)
  · exact h

theorem cold_latchSwitch {s : State} {a : Axis} (h : Cold s) : Cold (latchSwitch a s) := by
  unfold latchSwitch; dsimp only; split
  · split
    · split
      · exact h.of_axis (h.outs a)
      · exact h
    · split
      · exact h
      · exact h.of_axis (h.outs a)
    · exact h
  · exact h

/-! ## The closing rules -/

theorem cold_engagedRule {s t : State} (h : Cold s) (e : engagedRule s = some t) : Cold t := by
  unfold engagedRule at e; split at e
  · split at e
    · cases e
    · cases e; exact cold_leaveEngaged { h with shift := .inr rfl }
  · cases e

theorem cold_levelRule {s t : State} {c : Cond} {b : Bool} {v : Int} (h : Cold s) (e : levelRule c b v s = some t) :
    Cold t := by
  unfold levelRule at e; split at e
  · cases e; exact cold_riseStop h
  · split at e
    · cases e; exact cold_fall h
    · cases e

theorem cold_overloadRule {s t : State} (h : Cold s) (e : overloadRule s = some t) : Cold t := by
  unfold overloadRule at e; split at e
  · cases e; exact h.of_chilled rfl
  · cases e

theorem cold_grantRule {s : State} (h : Cold s) : grantRule s = none := by
  unfold grantRule; rw [h.pump]

theorem cold_clampRule {s t : State} {c : ClampAxis} (h : Cold s) (e : clampRule s c = some t) : Cold t := by
  unfold clampRule at e; dsimp only at e
  rw [h.not_releaseMet, if_neg (by decide)] at e
  split at e
  · cases e; exact cold_clampDone h
  rw [if_neg (by rw [h.tripped]; simp), if_neg (by rw [h.tripped]; simp)] at e
  split at e
  · cases e; exact h.of_clamp (h.clamps c)
  · cases e

theorem cold_spindleRule {s t : State} (h : Cold s) (e : spindleRule s = some t) : Cold t := by
  unfold spindleRule at e
  rcases h.spindle with e' | e' <;> rw [e'] at e
  · dsimp only at e; rw [h.target, if_neg (by decide)] at e; cases e
  · dsimp only at e; split at e
    · cases e; exact cold_spindleOff h
    · cases e

theorem cold_shiftRule {s : State} (h : Cold s) : shiftRule s = none := by
  rcases h.shift with e | e
  · unfold shiftRule; rw [e]; split <;> simp_all
  · unfold shifting at e; unfold shiftRule; split <;> simp_all

theorem cold_floodRule {s : State} (h : Cold s) : floodRule s = none := by
  unfold floodRule; rw [if_neg (by rw [h.flood]; simp)]

theorem cold_tscRule {s : State} (h : Cold s) : tscRule s = none := by
  unfold tscRule; rw [h.tsc]

theorem cold_homeRule {s t : State} {a : Axis} (h : Cold s) (e : homeRule s a = some t) : Cold t := by
  unfold homeRule at e; dsimp only at e; split at e
  · split at e
    · cases e; exact h.of_axis (h.outs a)
    · cases e
  · split at e
    · cases e; exact cold_homeEnd h
    · cases e
  · cases e

theorem cold_giveBackRule {s t : State} {a : Axis} (h : Cold s) (e : giveBackRule s a = some t) : Cold t := by
  unfold giveBackRule at e; dsimp only at e; split at e
  · cases e
    exact (h.of_axis (a := a) (f := fun k => { k with owner := if s.sq.st = .held then .queue else .none })
      (h.outs a)).of_chilled rfl
  · cases e

theorem cold_queueRule {s : State} (h : Cold s) : queueRule s = none := by
  have hn : nonMoveRuns s = false := by unfold nonMoveRuns; rw [h.idle]; rfl
  have hr : recordStep s = none := by
    unfold recordStep; rw [hn, h.idle]; split <;> simp
  unfold queueRule; rw [hr, h.idle]

theorem cold_pumpRule {s : State} (h : Cold s) : pumpRule s = none := by
  unfold pumpRule; rw [h.pump]; dsimp only; rw [if_neg (fun k => k.1 h.tripped)]

theorem cold_supplyRule {s : State} (h : Cold s) : supplyRule s = none := by
  unfold supplyRule; rw [if_neg (by rw [h.pump]; simp)]

theorem cold_machineRule {s : State} (h : Cold s) : machineRule s = none := by
  unfold machineRule; rw [if_neg (by rw [h.tripped]; simp)]

theorem cold_rules {s t : State} (h : Cold s) (e : rules s = some t) : Cold t := by
  exact rules_induct (P := Cold) e (cold_engagedRule h) (fun _ _ _ e => cold_levelRule h e) (cold_overloadRule h)
    (fun e => by rw [cold_grantRule h] at e; cases e) (fun _ e => cold_clampRule h e) (cold_spindleRule h)
    (fun e => by rw [cold_shiftRule h] at e; cases e) (fun e => by rw [cold_floodRule h] at e; cases e)
    (fun e => by rw [cold_tscRule h] at e; cases e) (fun _ e => cold_homeRule h e) (fun _ e => cold_giveBackRule h e)
    (fun e => by rw [cold_queueRule h] at e; cases e) (fun e => by rw [cold_pumpRule h] at e; cases e)
    (fun e => by rw [cold_supplyRule h] at e; cases e) (fun e => by rw [cold_machineRule h] at e; cases e)

theorem cold_settle (n : Nat) : ∀ {s : State}, Cold s → Cold (settle n s) := by
  induction n with
  | zero => exact fun h => h
  | succ n ih =>
    intro s h
    unfold settle; split
    · next e => exact ih (cold_rules h e)
    · exact h

theorem cold_quiesce {s : State} (h : Cold s) : Cold (quiesce s) := by
  have k := cold_settle 512 h
  unfold quiesce tscGuard tscFlows; rw [k.tsc]; exact k

theorem cold_finish {s : State} (h : Cold s) : Cold (finish s) := by
  have hp : ∀ u, Cold u → Cold (pendantSend u) := fun u k => by
    unfold pendantSend; split
    · split
      · exact k.of_chilled rfl
      · exact k
    · exact k
  have ht : ∀ u, Cold u → Cold (transmit u) := fun u k => by
    unfold transmit; split
    · exact k
    · split
      · exact k.of_chilled rfl
      · exact k.of_chilled rfl
      · exact k
  exact ht _ (hp _ (cold_quiesce h))

/-! ## Deliveries of the inputs and of the comparators -/

theorem cold_mismatchStep {s : State} (h : Cold s) : Cold (mismatchStep s) := by
  unfold mismatchStep; split
  · split
    · exact cold_fall (h.of_chilled rfl)
    · split
      · exact h
      · exact h.of_chilled rfl
  · exact h

theorem cold_armStep {s : State} (h : Cold s) : Cold (armStep s) := by
  unfold armStep; split
  · split
    · exact h.of_chilled rfl
    · exact h
  · exact h

theorem cold_contactChanged {s : State} (h : Cold s) : Cold (contactChanged s) := by
  have k := cold_mismatchStep (cold_armStep h)
  unfold contactChanged; dsimp only; split
  · exact k
  · exact cold_endAllJogs k

theorem cold_hardLimitTest {s : State} {a : Axis} (h : Cold s) : Cold (hardLimitTest s a) := by
  unfold hardLimitTest; split
  · exact cold_riseStop h
  · exact cold_fall h

theorem cold_limitChanged {s : State} {a : Axis} (h : Cold s) : Cold (limitChanged a s) := by
  unfold limitChanged; split
  · exact h
  · exact cold_hardLimitTest h

theorem cold_homeSwitchChanged {s : State} {a : Axis} (h : Cold s) : Cold (homeSwitchChanged a s) :=
  cold_latchSwitch (cold_searchSwitch h)

theorem cold_deliver {s : State} {n : Fin 32} (h : Cold s) : Cold (deliver n s) := by
  unfold deliver; dsimp only
  split
  · exact cold_tripInput h
  · exact cold_tripInput h
  · exact cold_spindleReadyChanged h
  · exact cold_contactChanged h
  iterate 8 exact cold_limitChanged h
  iterate 5 exact cold_homeSwitchChanged h
  iterate 8 exact cold_clampSensorChanged h
  iterate 4 exact cold_gearFirstRead h
  · unfold hydOverloadChanged; rw [h.pump, if_neg (by simp)]; exact h
  · unfold floodOverloadChanged floodRuns; rw [h.flood, if_neg (by simp)]; exact h
  · unfold tscOverloadChanged; rw [h.tscPump, if_neg (by simp)]; exact h

theorem cold_filterStep {s : State} {n : Fin 32} (h : Cold s) : Cold (filterStep n s) := by
  unfold filterStep; split
  · exact cold_deliver (h.of_chilled rfl)
  · exact h

theorem cold_rawChange {s : State} {n : Fin 32} {b : Bool} (h : Cold s) : Cold (rawChange n b s) := by
  unfold rawChange; split
  · exact h
  · exact cold_filterStep (h.of_chilled rfl)

theorem cold_filterBlockChanged {s : State} (h : Cold s) : Cold (filterBlockChanged s) := by
  unfold filterBlockChanged; split
  · rw [h.tsc]; exact cold_riseHold h
  · exact cold_fall h

theorem levelFell_of_rest {s : State} (hf : floodRuns s = false) (hp : s.cu.pump = false) : levelFell s = s := by
  unfold levelFell; simp [hf, hp]

theorem cold_levelChanged {s : State} (h : Cold s) : Cold (levelChanged s) := by
  have k : Cold (levelNote .coolantLevelLow (!levelOk s) 0 (scaledOf s 5) s) := cold_levelNote h
  unfold levelChanged; dsimp only; split
  · exact { k with coolant := by unfold levelRose; dsimp only; rw [k.coolant]; rfl }
  · have hf : floodRuns (levelNote .coolantLevelLow (!levelOk s) 0 (scaledOf s 5) s) = false := by
      unfold floodRuns; rw [k.flood]; rfl
    rw [levelFell_of_rest hf k.tscPump]; exact k

theorem cold_deliverCmp {s : State} {i : Fin 7} (h : Cold s) : Cold (deliverCmp i s) := by
  unfold deliverCmp; split
  · unfold hydMinChanged; rw [h.pump, if_neg (by simp)]; exact h
  · unfold floodMinChanged; rw [h.flood, if_neg (by simp)]; exact h
  · exact cold_levelNote h
  · exact cold_filterBlockChanged h
  · exact cold_levelChanged h
  · exact h

theorem cold_conversion {s : State} {n : Nat} (h : Cold s) : Cold (conversion n s) := by
  have h2 : ∀ u v l, Cold u → Cold ((channelCmps l).foldl (cmpWork v) u) := fun u v l h =>
    cold_foldl (f := cmpWork v) (fun s i h => h.of_chilled rfl) _ h
  have h3 : ∀ u (l : List (Fin 7)), Cold u → Cold (l.foldl (fun s i => deliverCmp i s) u) := fun u l h =>
    cold_foldl (fun s i h => cold_deliverCmp h) _ h
  unfold conversion; dsimp only
  split
  · have hs : ∀ n u, Cold u → Cold (tscSample n u) := fun n u k => by unfold tscSample; rw [k.tsc]; exact k
    exact hs _ _ (h3 _ _ (h2 _ _ _ (h.of_chilled rfl)))
  · exact h3 _ _ (h2 _ _ _ (h.of_chilled rfl))

/-! ## The pendant -/

theorem Cold.notPermitted {s : State} (h : Cold s) : jogPermitted s = false := by
  unfold jogPermitted; rw [h.tripped]; simp

theorem Cold.take {s : State} {a : Axis} (h : Cold s) : takeOutcome s a = .ignored := by
  unfold takeOutcome; rw [h.notPermitted]; rfl

theorem cold_setPend {s : State} {st : PendState} {c : PendCause} (h : Cold s) : Cold (setPend st c s) :=
  cold_queueReport (h.of_chilled rfl)

theorem cold_enableStep {s : State} {f : StatusFrame} (h : Cold s) : Cold (enableStep f s) := by
  have k : Cold (mismatchStep (armStep (if f.enable = .panic then { s with pp.armed := false } else s))) :=
    cold_mismatchStep (cold_armStep (by split; exacts [h.of_chilled rfl, h]))
  unfold enableStep; dsimp only; split
  · exact k
  · exact cold_endAllJogs k
  · exact cold_endAllJogs k

theorem cold_selectorStep {s : State} {o : Option StatusFrame} {f : StatusFrame} (h : Cold s) :
    Cold (selectorStep o f s) := by
  unfold selectorStep; split
  · exact h
  · next o =>
    have k : Cold (if o.sel ≠ f.sel ∨ o.mult ≠ f.mult then startInterval s else s) := by
      split; exacts [h.of_chilled rfl, h]
    dsimp only; split
    · exact k
    · refine cold_foldl (fun u a hu => ?_) _ k
      split; exacts [hu, hu.of_chilled rfl]

theorem cold_deliverPress {s : State} {b : Bool} {f : State → State} (h : Cold s) (hf : ∀ u, Cold u → Cold (f u)) :
    Cold (deliverPress b f s) := by
  unfold deliverPress; split
  · exact cold_settle _ (hf _ h)
  · exact h

theorem sqHold_of_idle {s : State} (h : s.sq.st = .idle) : sqHold s = s := by
  unfold sqHold; rw [if_neg (by rw [h]; simp)]

theorem sqStop_of_idle {s : State} (h : s.sq.st = .idle) : sqStop s = s := by
  unfold sqStop; rw [h]

theorem startRequest_of_cold {s : State} (h : Cold s) : startRequest s = (.tripped, s) := by
  unfold startRequest; rw [h.idle]; dsimp only; rw [if_pos h.tripped]

theorem resumeRequest_of_cold {s : State} (h : Cold s) : resumeRequest s = (.wrongState, s) := by
  unfold resumeRequest; rw [if_pos (by rw [h.idle]; decide)]

theorem cold_jogPress {s : State} {a : Axis} {d : JogDir} (h : Cold s) : Cold (jogPress a d s) := by
  unfold jogPress; rw [h.take]; exact h.of_chilled rfl

theorem cold_pressStep {s : State} {o : Option StatusFrame} {f : StatusFrame} (h : Cold s) :
    Cold (pressStep o f s) := by
  have hhold : ∀ u, Cold u → Cold (holdPress u) := fun u k => by
    unfold holdPress; rw [sqHold_of_idle k.idle]; exact cold_endAllJogs k
  have hstart : ∀ u, Cold u → Cold (pendantStart u) := fun u k => by
    unfold pendantStart; rw [startRequest_of_cold k]; exact k
  have hflood : ∀ u, Cold u → Cold (floodPress u) := fun u k => by
    unfold floodPress; rw [if_pos k.tripped]; exact k
  have hreleases : ∀ u, Cold u → Cold (jogReleases f u) := fun u k => by
    refine cold_foldl (fun u a hu => ?_) _ k
    split; exacts [hu.of_chilled rfl, hu]
  unfold pressStep; dsimp only
  generalize hs1 : deliverPress _ holdPress s = s1
  have k1 : Cold s1 := hs1 ▸ cold_deliverPress h hhold
  generalize hs3 : jogReleases f _ = s3
  have k3 : Cold s3 := hs3 ▸ hreleases _ (cold_deliverPress (cold_deliverPress k1 hstart) hflood)
  split
  · exact k3
  split
  · exact k3
  split
  · exact cold_jogPress k3
  split
  · exact cold_jogPress k3
  · exact k3

theorem cold_wheelStep {s : State} {o : Option StatusFrame} {f : StatusFrame} (h : Cold s) :
    Cold (wheelStep o f s) := by
  unfold wheelStep; split
  · dsimp only; split
    · exact h
    · unfold wheelMove; rw [h.take]; split
      · exact h
      · exact h.of_chilled rfl
  · exact h

theorem cold_takeWhole {s : State} {o : Option StatusFrame} {f : StatusFrame} (h : Cold s) :
    Cold (takeWhole o f s) := by
  have k : Cold (knobStep f { s with pp.last := some f, pp.seen := true }) := by
    unfold knobStep; split <;> exact h.of_chilled rfl
  exact cold_wheelStep (cold_pressStep (cold_selectorStep (cold_enableStep k)))

theorem cold_takeFrame {s : State} {f : StatusFrame} (h : Cold s) : Cold (takeFrame f s) := by
  have k0 : Cold (if (s.pp.st != .present) = true then enterPresent s else s) := by
    split; exacts [cold_setPend (h.of_chilled rfl), h]
  unfold takeFrame; dsimp only
  generalize (if (s.pp.st != .present) = true then enterPresent s else s) = s0 at k0 ⊢
  have k1 : Cold { s0 with pp.freshT := .start 50, pp.answerDue := true } := k0.of_chilled rfl
  split
  · split
    · exact k1
    · exact cold_takeWhole k1
  · exact cold_takeWhole k1

theorem cold_pendantRead {s : State} {l : List Byte} (h : Cold s) : Cold (pendantRead l s) := by
  unfold pendantRead; split
  · exact h
  · dsimp only; split
    · exact cold_takeFrame (h.of_chilled rfl)
    · exact h.of_chilled rfl

theorem cold_pendantLost {s : State} (h : Cold s) : Cold (pendantLost s) := by
  have k1 : Cold (setPend .lost .timeout
      { s with pp.freshT := .stopped, pp.mismT := .stopped, pp.armed := false }) := cold_setPend (h.of_chilled rfl)
  unfold pendantLost; dsimp only
  generalize setPend .lost .timeout { s with pp.freshT := .stopped, pp.mismT := .stopped, pp.armed := false } = s1 at k1 ⊢
  exact cold_fall (cold_endAllJogs (cold_ite (cold_raiseHold k1) k1))

theorem cold_mismatchRaise {s : State} (h : Cold s) : Cold (mismatchRaise s) := by
  unfold mismatchRaise; split
  · exact cold_riseHold (h.of_chilled rfl)
  · exact h

theorem cold_startLineTest {s : State} (h : Cold s) : Cold (startLineTest s) := by
  unfold startLineTest
  refine cold_fall (cold_setPend ?_)
  exact h.of_chilled rfl

theorem cold_endLineTest {s : State} {r : LtResult} (h : Cold s) : Cold (endLineTest r s) := by
  unfold endLineTest
  refine cold_queueReport (cold_setPend ?_)
  exact h.of_chilled rfl

/-! ## The path period -/

theorem cold_ownerWork {s : State} {a : Axis} (h : Cold s) : Cold (ownerWork s a) := by
  unfold ownerWork; rw [if_pos h.tripped]; exact h.of_axis (h.outs a)

theorem cold_axisLoop {s : State} {a : Axis} (h : Cold s) : Cold (axisLoop s a) := by
  unfold axisLoop; dsimp only; rw [if_pos h.tripped]; exact h.of_axis rfl

theorem cold_drainTest {s : State} (h : Cold s) : Cold (drainTest s) := by
  unfold drainTest; split
  · exact cold_queueReport (h.of_chilled rfl)
  · exact h

theorem cold_settleHoming {s : State} {a : Axis} (h : Cold s) : Cold (settleHoming s a) := by
  unfold settleHoming; dsimp only; split
  · exact cold_homeOk h
  · exact h

/-- The end of the axis channels' work, from the state with the loops run. -/
theorem cold_axesEnd {s : State} (h : Cold s) :
    Cold (allAxes.foldl settleHoming (allAxes.foldl hardLimitTest (allAxes.foldl axisLoop s))) :=
  cold_foldl (fun _ _ => cold_settleHoming) _
    (cold_foldl (fun _ _ => cold_hardLimitTest) _ (cold_foldl (fun _ _ => cold_axisLoop) _ h))

theorem cold_axesWork {s : State} (h : Cold s) : Cold (axesWork s) := by
  have k1 : Cold (allAxes.foldl ownerWork (compWork s)) := cold_foldl (fun _ _ => cold_ownerWork) _ (h.of_chilled rfl)
  have k3 := cold_axesEnd k1
  unfold axesWork; dsimp only
  split
  · exact (cold_drainTest k3).of_map fun _ => rfl
  · exact k3.of_map fun _ => rfl

theorem cold_spindleMeasure {s : State} (h : Cold s) : Cold (spindleMeasure s) := by
  unfold spindleMeasure; dsimp only; split <;> exact h.of_chilled rfl

theorem cold_spindleWork {s : State} (h : Cold s) : Cold (spindleWork s) := by
  unfold spindleWork; dsimp only
  rw [if_pos h.tripped]; exact cold_spindleMeasure h

theorem cold_periodWork {s : State} (h : Cold s) : Cold (periodWork s) := by
  have hp : pathWork s = s := by unfold pathWork; rw [h.idle]; rfl
  unfold periodWork; rw [hp]
  exact cold_spindleWork (cold_axesWork h)

theorem cold_snapAll {s : State} (h : Cold s) : Cold (snapAll s) := h.of_map fun _ => rfl

/-! ## Requests -/

theorem cold_flowEval {s : State} (h : Cold s) : Cold (flowEval s) := by
  rcases flowEval_cases s with e | ⟨k, f, e⟩ <;> rw [e]
  · exact h
  · exact cold_queueReport (h.of_chilled rfl)

theorem cold_writeClamp {s : State} {f : ClampField} {c : ClampAxis} {v : Int} (h : Cold s) :
    Cold (writeClamp f c v s) := by
  unfold writeClamp; split
  · refine h.of_clamp ?_
    dsimp only; split
    · exact .inr (.inr (.inr rfl))
    · exact h.clamps c
  · have k : Cold (updClamp c (fun k => { k with delay := v.toNat }) s) := h.of_clamp (h.clamps c)
    unfold writeDelay; dsimp only; split
    · have k2 := k.of_clamp (c := c) (f := fun k => { k with idle := 0 }) (k.clamps c)
      rw [clampNeed_of_tripped k2.tripped]; exact k2
    · exact k
  · exact h.of_clamp (h.clamps c)
  · exact h.of_clamp (h.clamps c)

/-- A parameter is written; only the Coolant Unit's parameters are in what TRIPPED holds. -/
theorem cold_writeParam {s : State} {p : Param} {v : Int} (h : Cold s) : Cold (writeParam p v s) := by
  cases p with
  | flowHigh => exact cold_flowEval (h.of_chilled rfl)
  | flowLow => exact cold_flowEval (h.of_chilled rfl)
  | axis f a => exact h.of_axis (h.outs a)
  | clamp f c => exact cold_writeClamp h
  | rangeMax r =>
    unfold writeParam; dsimp only; split
    · exact cold_retarget (h.of_chilled rfl)
    · exact h.of_chilled rfl
  | sgu f => cases f <;> exact h.of_chilled rfl
  | cu f => exact { h with coolant := by rw [writeParam]; dsimp only; rw [h.coolant]; rfl }
  | filter n => exact cold_filterStep (h.of_chilled rfl)
  | _ => exact h.of_chilled rfl

theorem cold_serveSetParam {s : State} {i n : Nat} {v : Int} (h : Cold s) : Cold (serveSetParam i n v s).2 := by
  unfold serveSetParam; split
  · exact h
  split
  · exact h
  split
  · exact h
  · exact cold_writeParam h

theorem cold_ackEntries {s : State} {l : List Cond} (h : Cold s) : Cold (l.foldl ackEntry s) :=
  cold_foldl (f := ackEntry) (fun _ _ k => k.of_chilled rfl) l h

theorem cold_serveAck {s : State} {n : Nat} {l : List (Nat × Nat)} (h : Cold s) : Cold (serveAck n l s).2 := by
  unfold serveAck; split
  · exact cold_ackEntries h
  split
  · exact h
  split
  · exact h
  · exact cold_ackEntries h

theorem cold_applyOverride {s : State} {f r p : Option Nat} {q : FeedSource} (h : Cold s) :
    Cold (applyOverride f r p q s) := by
  unfold applyOverride; dsimp only; split
  · exact h.of_chilled rfl
  · refine cold_retarget ?_; exact h.of_chilled rfl

theorem cold_serveOverride {s : State} {f r p q : Option Nat} (h : Cold s) : Cold (serveOverride f r p q s).2 := by
  unfold serveOverride; split
  · exact h
  · have hs : ∀ src, Cold (if f.isSome ∧ src = FeedSource.pendant then plain .wrongState s
        else ((⟨.ok, overrideFields (applyOverride f r p src s)⟩ : Answer), applyOverride f r p src s)).2 := fun src => by
      split
      · exact h
      · exact cold_applyOverride h
    exact hs _

theorem cold_compLoad {s : State} {a f : Nat} {l : List Int} (h : Cold s) : Cold (serveCompLoad a f l s).2 := by
  unfold serveCompLoad; split
  · exact h
  split
  · exact h
  split
  · exact h
  split
  · exact h
  · exact h.of_chilled rfl

theorem cold_compCommit {s : State} {a n m k : Nat} {o d : Int} (h : Cold s) :
    Cold (serveCompCommit a n o d m k s).2 := by
  unfold serveCompCommit; split
  · exact h
  split
  · exact h
  split
  · exact h
  split
  · exact h
  split
  · exact h
  · exact h.of_chilled rfl

theorem cold_clampSet {s : State} {n a : Nat} (h : Cold s) : (serveClampSet n a s).2 = s := by
  unfold serveClampSet; split
  · unfold serveClamp; split
    · rfl
    · rw [if_pos h.tripped]; rfl
  · unfold serveRelease; split
    · rfl
    · rw [if_pos h.tripped]; rfl
  · rfl
  · rfl

theorem cold_spindleSet {s : State} {n p d : Nat} (h : Cold s) : (serveSpindleSet n p d s).2 = s := by
  have hstop : (serveSpindleStop s).2 = s := by unfold serveSpindleStop; rw [if_pos h.tripped]; rfl
  unfold serveSpindleSet; split
  · unfold serveSpindleRun; split
    · rfl
    split
    · exact hstop
    · rw [if_pos h.tripped]; rfl
  · exact hstop
  · rfl
  · rfl

theorem cold_getParam {s : State} {i n : Nat} (h : Cold s) : Cold (serveGetParam i n s).2 := by
  unfold serveGetParam; split <;> exact h

theorem cold_append {s : State} {n : Nat} {l : List RawRec} (h : Cold s) : Cold (serveAppend n l s).2 := by
  unfold serveAppend; rw [if_pos h.tripped]; exact h

theorem cold_start {s : State} (h : Cold s) : Cold (serveStart s).2 := by
  unfold serveStart; rw [startRequest_of_cold h]; exact h

theorem cold_hold {s : State} (h : Cold s) : Cold (serveHold s).2 := by
  unfold serveHold; rw [sqHold_of_idle h.idle]; exact h

theorem cold_resume {s : State} (h : Cold s) : Cold (serveResume s).2 := by
  unfold serveResume; rw [resumeRequest_of_cold h]; exact h

theorem cold_stop {s : State} (h : Cold s) : Cold (serveStop s).2 := by
  unfold serveStop; rw [sqStop_of_idle h.idle]; exact h

theorem cold_flush {s : State} (h : Cold s) : Cold (serveFlush s).2 := by
  unfold serveFlush; rw [if_pos h.idle]; exact cold_flowEval (h.of_chilled rfl)

theorem cold_home {s : State} {a : Nat} (h : Cold s) : Cold (serveHome a s).2 := by
  unfold serveHome; split
  · exact h
  · rw [if_pos h.tripped]; exact h

theorem cold_axisStatus {s : State} {a : Nat} (h : Cold s) : Cold (serveAxisStatus a s).2 := by
  unfold serveAxisStatus; split <;> exact h

theorem cold_compClear {s : State} {a : Nat} (h : Cold s) : Cold (serveCompClear a s).2 := by
  unfold serveCompClear; split
  · exact h
  · exact h.of_chilled rfl

theorem cold_compRead {s : State} {a f n : Nat} (h : Cold s) : Cold (serveCompRead a f n s).2 := by
  unfold serveCompRead; split
  · exact h
  · split <;> exact h

theorem cold_gearSelect {s : State} {r : Nat} (h : Cold s) : Cold (serveGearSelect r s).2 := by
  unfold serveGearSelect; split
  · exact h
  · rw [if_pos h.tripped]; exact h

theorem cold_coolantSet {s : State} {f t m : Nat} {p : Option Nat} (h : Cold s) : Cold (serveCoolant f t m p s).2 := by
  unfold serveCoolant; split
  · rw [if_pos h.tripped]; exact h
  · exact h

theorem cold_pendantText {s : State} {n : Nat} {l : List Nat} (h : Cold s) : Cold (servePendantText n l s).2 := by
  unfold servePendantText; split
  · split
    · exact h.of_chilled rfl
    · exact h
  · exact h

theorem cold_lineTest {s : State} (h : Cold s) : Cold (serveLineTest s).2 := by
  unfold serveLineTest; split
  · exact h
  · exact cold_startLineTest h

/-- A request in TRIPPED, other than RESET_TRIP. -/
theorem cold_serve {s : State} (h : Cold s) : ∀ r : Request, r ≠ .resetTrip → Cold (serve r s).2
  | .resetTrip, hr => absurd rfl hr
  | .ackConditions _ _, _ => cold_serveAck h
  | .setParam _ _ _, _ => cold_serveSetParam h
  | .getParam _ _, _ => cold_getParam h
  | .append _ _, _ => cold_append h
  | .start, _ => cold_start h
  | .hold, _ => cold_hold h
  | .resume, _ => cold_resume h
  | .stop, _ => cold_stop h
  | .flush, _ => cold_flush h
  | .setOverride _ _ _ _, _ => cold_serveOverride h
  | .home _, _ => cold_home h
  | .axisStatus _, _ => cold_axisStatus h
  | .compLoad _ _ _, _ => cold_compLoad h
  | .compCommit _ _ _ _ _ _, _ => cold_compCommit h
  | .compClear _, _ => cold_compClear h
  | .compRead _ _ _, _ => cold_compRead h
  | .clampSet n a, _ => (cold_clampSet (n := n) (a := a) h).symm ▸ h
  | .spindleSet n p d, _ => (cold_spindleSet (n := n) (p := p) (d := d) h).symm ▸ h
  | .gearSelect _, _ => cold_gearSelect h
  | .meshTableClear, _ => h.of_chilled rfl
  | .coolantSet _ _ _ _, _ => cold_coolantSet h
  | .pendantText _ _, _ => cold_pendantText h
  | .lineTest, _ => cold_lineTest h
  | .identify, _ | .status, _ | .restart, _ | .queueStatus, _ | .meshTableRead, _ | .pendantStatus, _ | .inputRead, _
  | .analogRead, _ | .unknown _, _ | .badLength _, _ | .reserved _, _ => h

end Sys2Proof.Machine
end

section
/-! SUPPORT. The TRIP reaction (R200): delivery by delivery, what it leaves (`Quelled`), that its deliveries are tame work
of a TRIPPED machine, and the axes that no longer home and are no longer the pendant's. -/

namespace Sys2Proof.Machine

/-! ## What the deliveries to SQ, the axis channels and the clamps leave -/

/-- TRIPPED with the queue IDLE and PI without a move, the axis outputs 0, the spindle's speeds 0 and the clamps and the
supply as R104 leaves them. -/
structure Quelled (s : State) : Prop where
  tripped : s.cn.machine = .tripped
  idle : s.sq.st = .idle
  move : s.pi.move = none
  ret : s.pi.ret = none
  rate : s.pi.r = 0
  hold : s.pi.hold = none
  outs : ∀ a, (s.ax.get a).out = 0
  speed : s.sgu.reqSpeed = 0
  target : s.sgu.target = 0
  ramped : s.sgu.ramped = 0
  out : s.sgu.out = 0
  pump : s.hs.st = .pumpOff
  holder : s.hs.holder = none
  fifo : s.hs.fifo = []
  clamps : ∀ c, (s.cc.get c).st.Off

/-- What `Quelled` reads of a state. -/
def quellView (s : State) :=
  (s.cn.machine, s.sq.st, s.pi, s.ax, s.sgu.reqSpeed, s.sgu.target, s.sgu.ramped, s.sgu.out, s.hs, s.cc)

theorem Quelled.of_view {s t : State} (h : Quelled s) (e : quellView t = quellView s) : Quelled t := by
  simp only [quellView, Prod.mk.injEq] at e
  obtain ⟨e1, e2, e3, e4, e5, e6, e7, e8, e9, e10⟩ := e
  obtain ⟨h1, h2, h3, h4, h5, h6, h7, h8, h9, h10, h11, h12, h13, h14, h15⟩ := h
  constructor <;> simp only [e1, e2, e3, e4, e5, e6, e7, e8, e9, e10] <;> assumption

theorem quelled_queueReport {s : State} {k : Report} (h : Quelled s) : Quelled (queueReport k s) := by
  unfold queueReport; split <;> exact h.of_view rfl

theorem quelled_latch {s : State} {c : Cond} {q : Nat} {v : Int} (h : Quelled s) : Quelled (latch c q v s) :=
  quelled_queueReport (h.of_view rfl)

theorem quelled_fall {s : State} {c : Cond} (h : Quelled s) : Quelled (fall c s) := by
  unfold fall; split
  · exact quelled_queueReport (h.of_view rfl)
  · exact h

theorem spindleOff_of_idle {s : State} (h : s.sq.st = .idle) :
    spindleOff s = { s with sgu.st := .off, sgu.out := 0, sgu.posMoving := false, sgu.positionT := .stopped } := by
  unfold spindleOff setSpindle; dsimp only
  rw [if_neg (fun e => by rw [h] at e; exact absurd e.2.2.2.1 (by decide))]

theorem quelled_spindleOff {s : State} (h : Quelled s) : Quelled (spindleOff s) := by
  have k : Quelled { s with sgu.out := 0 } := { h with out := rfl }
  rw [spindleOff_of_idle h.idle]; exact k.of_view rfl

theorem quelled_gearAfterAbandon {s : State} (h : Quelled s) : Quelled (gearAfterAbandon s) := by
  unfold gearAfterAbandon; split <;> exact h.of_view rfl

theorem quelled_shiftTeardown {s : State} (h : Quelled s) : Quelled (shiftTeardown s) := by
  have k1 : Quelled (hydWithdraw .gear (hydReturn .gear s)) := by
    unfold hydReturn; rw [h.holder]
    exact { h with fifo := by simp [hydWithdraw, h.fifo] }
  unfold shiftTeardown; dsimp only
  split
  · exact (quelled_gearAfterAbandon (quelled_spindleOff k1)).of_view rfl
  · exact (quelled_gearAfterAbandon k1).of_view rfl

theorem quelled_abandonShift {s : State} (h : Quelled s) : Quelled (abandonShift s) := by
  unfold abandonShift; split
  · split
    · exact quelled_queueReport (quelled_shiftTeardown h)
    · exact h
  · exact h

theorem abandonShift_shift (s : State) : (abandonShift s).sgu.shift = none ∨ shifting (abandonShift s) = false := by
  unfold abandonShift; split
  · split
    · exact .inl (by unfold abortReport; simp [shiftTeardown, stopShiftTimers])
    · next h => exact .inr (by simpa using h)
  · next h => exact .inl h

/-! ## The deliveries of the reaction -/

/-- SQ and PI after a TRIP (R14, R47). -/
theorem sqTrip_spec (s : State) : (sqTrip s).sq.st = .idle ∧ (sqTrip s).cn.machine = s.cn.machine ∧
    (sqTrip s).pi.move = none ∧ (sqTrip s).pi.ret = none ∧ (sqTrip s).pi.r = 0 ∧ (sqTrip s).pi.hold = none ∧
    (sqTrip s).cc = s.cc := by
  unfold sqTrip; split
  · next h => exact ⟨h, rfl, rfl, rfl, rfl, rfl, rfl⟩
  · simp [flushIdle, dropQueueOwners, piDrop, clearRecords]

theorem axesTrip_keeps (s : State) :
    (axesTrip s).sq = s.sq ∧ (axesTrip s).cn.machine = s.cn.machine ∧ (axesTrip s).pi = s.pi ∧ (axesTrip s).cc = s.cc ∧
      (axesTrip s).ax = s.ax.map fun _ k => { k with out := 0, satCount := 0 } := by
  simp [axesTrip, allAxes]

theorem tripClamp_off {k : Clamp} (h : k.policy = .never → k.st = .released) : (tripClamp k).st.Off := by
  unfold tripClamp; split
  · next hp => exact .inr (.inr (.inl (h hp)))
  · split
    · next hs => exact .inl hs
    · next hs => exact .inr (.inl hs)
    · exact .inr (.inl rfl)

/-- The deliveries as far as SGU leave everything but the coolant off. -/
theorem quelled_sguTrip {s : State} (ht : s.cn.machine = .tripped) (hn : NeverInv s) :
    let t := sguTrip (fall .hydPressureLow (clampsTrip (axesTrip (sqTrip s))))
    Quelled t ∧ (t.sgu.st = .off ∨ t.sgu.st = .fault) ∧ (t.sgu.shift = none ∨ shifting t = false) := by
  obtain ⟨h1, h2, h3, h4, h5, h6, h7⟩ := sqTrip_spec s
  obtain ⟨k1, k2, k3, k4, k5⟩ := axesTrip_keeps (sqTrip s)
  generalize hu : fall .hydPressureLow (clampsTrip (axesTrip (sqTrip s))) = u
  have q0 : Quelled { u with sgu.reqSpeed := 0, sgu.target := 0, sgu.ramped := 0, sgu.out := 0, sgu.satCount := 0 } := by
    subst hu
    refine ⟨?_, ?_, ?_, ?_, ?_, ?_, fun a => ?_, rfl, rfl, rfl, rfl, ?_, ?_, ?_, fun c => ?_⟩ <;>
      simp only [fall_machine, fall_sq, fall_pi, fall_ax, fall_hs, fall_cc, clampsTrip, k1, k2, k3, k4, k5, h1, h2, h3,
        h4, h5, h6, h7, ht, PerAxis.get_map, PerClamp.get_map]
    exact tripClamp_off (hn c)
  have q1 := quelled_abandonShift q0
  have hs := abandonShift_shift
    { u with sgu.reqSpeed := 0, sgu.target := 0, sgu.ramped := 0, sgu.out := 0, sgu.satCount := 0 }
  unfold sguTrip; dsimp only
  generalize abandonShift
    { u with sgu.reqSpeed := 0, sgu.target := 0, sgu.ramped := 0, sgu.out := 0, sgu.satCount := 0 } = v at q1 hs ⊢
  split
  · next hf => exact ⟨quelled_fall q1, .inr (by rw [fall_sgu]; exact hf), by
      rw [fall_sgu, shifting_of_gear (s := v) (by rw [fall_sgu])]; exact hs⟩
  · rw [spindleOff_of_idle q1.idle] at *
    refine ⟨quelled_fall ?_, .inl (by rw [fall_sgu]), ?_⟩
    · rw [← spindleOff_of_idle q1.idle]; exact quelled_spindleOff q1
    · rw [fall_sgu, shifting_of_gear (s := v) (by rw [fall_sgu])]; exact hs

/-! ## The homings and the axes of the pendant -/

theorem cold_homeTrip {s : State} {a : Axis} (h : Cold s) : Cold (homeTrip s a) := by
  have hclose : ∀ u, Cold u → Cold (homeClose a u) := fun u k => k.of_axis (k.outs a)
  unfold homeTrip; split
  · exact h
  · exact cold_homeOk h
  · exact hclose _ h
  · exact hclose _ (h.of_axis (h.outs a))

theorem cold_jogsDrop {s : State} (h : Cold s) : Cold (jogsDrop s) := by
  have k : Cold { s with pp.jogs := s.pp.jogs.map fun a _ => Jog.still (s.ax.get a).setpoint } := h.of_chilled rfl
  exact k.of_map fun a => by split <;> rfl

/-- The machine is off after the deliveries of a TRIP. -/
theorem cold_tripDeliveries {s : State} (ht : s.cn.machine = .tripped) (hn : NeverInv s) : Cold (tripDeliveries s) := by
  have hu := quelled_sguTrip ht hn
  unfold tripDeliveries; dsimp only at hu ⊢
  generalize sguTrip (fall .hydPressureLow (clampsTrip (axesTrip (sqTrip s)))) = u at hu ⊢
  obtain ⟨q, hs, hh⟩ := hu
  have k : Cold (coolantTrip u) := ⟨q.tripped, q.idle, q.outs, hs, q.speed, q.target, q.out, hh, rfl, q.pump, q.clamps⟩
  exact cold_foldl (fun _ _ => cold_homeTrip) _ (cold_jogsDrop k)

/-- An axis after its homing has ended with a TRIP. -/
theorem homeTrip_quiet {s : State} {a : Axis} (hh : HomingOwn (s.ax.get a)) (hp : (s.ax.get a).owner ≠ .pendant) :
    AxisQuiet ((homeTrip s a).ax.get a) := by
  have hclosed : ∀ k : AxisCh, k.phase = .none → k.owner = .none → AxisQuiet k := fun k e1 e2 =>
    ⟨e1, by rw [e2]; decide, by rw [e2]; decide⟩
  unfold homeTrip; split
  · next e => exact ⟨e, fun ho => hh.1 ho e, hp⟩
  · exact hclosed _ (by simp [homeOk]) (by simp [homeOk])
  · exact hclosed _ (by simp [homeClose]) (by simp [homeClose])
  · exact hclosed _ (by simp [homeClose]) (by simp [homeClose])

theorem homeTrip_other {s : State} {a b : Axis} (h : b ≠ a) : (homeTrip s a).ax.get b = s.ax.get b := by
  unfold homeTrip; split <;> simp [homeOk, homeClose, homeFail, PerAxis.get_upd, h.symm]

theorem homeTrip_foldl_quiet (l : List Axis) : ∀ {s : State},
    (∀ b, HomingOwn (s.ax.get b) ∧ (s.ax.get b).owner ≠ .pendant) →
    ∀ b, b ∈ l ∨ AxisQuiet (s.ax.get b) → AxisQuiet ((l.foldl homeTrip s).ax.get b) := by
  induction l with
  | nil => exact fun _ b hb => hb.resolve_left List.not_mem_nil
  | cons a l ih =>
    intro s h b hb
    have ha := homeTrip_quiet (h a).1 (h a).2
    refine ih (fun c => ?_) b ?_
    · by_cases e : c = a
      · subst e
        exact ⟨⟨fun ho => absurd ho ha.2.1, fun hp => absurd ha.1 hp⟩, ha.2.2⟩
      · rw [homeTrip_other e]; exact h c
    · by_cases e : b = a
      · subst e; exact .inr ha
      · rw [homeTrip_other e]
        exact hb.imp (fun hm => (List.mem_cons.1 hm).resolve_left e) id

theorem homeReport_keeps (s : State) (a b : Axis) : ((homeReport s a).ax.get b).owner = (s.ax.get b).owner ∧
    ((homeReport s a).ax.get b).phase = (s.ax.get b).phase := by
  unfold homeReport; split
  · by_cases e : a = b <;> simp [PerAxis.get_upd, e]
  · exact ⟨rfl, rfl⟩

theorem homeReport_foldl_quiet (l : List Axis) : ∀ {s : State} {b : Axis}, AxisQuiet (s.ax.get b) →
    AxisQuiet ((l.foldl homeReport s).ax.get b) := by
  induction l with
  | nil => exact id
  | cons a l ih =>
    intro s b h
    obtain ⟨ho, hp⟩ := homeReport_keeps s a b
    exact ih (by unfold AxisQuiet; rw [ho, hp]; exact h)

/-! ## The deliveries are tame work of a TRIPPED machine -/

theorem tame_sqTrip {s t : State} (h : Tame s t) : Tame s (sqTrip t) := by
  unfold sqTrip; split
  · exact tame_piDrop h
  · exact tame_flushIdle h

theorem tame_axesTrip {s t : State} (h : Tame s t) : Tame s (axesTrip t) :=
  tame_foldl (fun _ _ _ => tame_fall) _ (h.of_map fun _ => axisTame_of_eq rfl rfl)

theorem clampTame_trip (b : Bool) (k : Clamp) : ClampTame b k (tripClamp k) := by
  unfold tripClamp; split
  · exact clampTame_of_eq rfl rfl rfl
  · next hn =>
    split
    · exact clampTame_of_eq rfl rfl rfl
    · next hs => exact clampTame_of_bound hn (by simp [hs]) (by simp [hs])
    · exact clampTame_of_bound hn (by simp) (by simp)

theorem tame_clampsTrip {s t : State} (h : Tame s t) : Tame s (clampsTrip t) := by
  have hk := fun c => clampTame_trip (clampedSensor t c) (t.cc.get c)
  refine h.trans ⟨rfl, .rfl, id, Nat.le_refl _, rfl, rfl, id, fun hn c => ?_, fun hf c => ?_, id, fun _ h => h⟩
  · rw [show (clampsTrip t).cc.get c = tripClamp (t.cc.get c) from PerClamp.get_map ..]
    exact (hk c).1 (hn c)
  · rw [show (clampsTrip t).cc.get c = tripClamp (t.cc.get c) from PerClamp.get_map ..]
    exact (hk c).2 (hf c)

theorem tame_sguTrip {s t : State} (h : Tame s t) : Tame s (sguTrip t) := by
  have k := tame_abandonShift (h.of_vital (u := { t with
    sgu.reqSpeed := 0, sgu.target := 0, sgu.ramped := 0, sgu.out := 0, sgu.satCount := 0 }) rfl)
  unfold sguTrip; dsimp only; split
  · exact tame_fall k
  · exact tame_fall (tame_spindleOff k)

theorem tame_coolantTrip {s t : State} (h : Tame s t) : Tame s (coolantTrip t) := h.of_cu (fun _ _ _ => rfl) rfl

theorem tame_jogsDrop {s t : State} (h : Tame s t) : Tame s (jogsDrop t) := by
  refine (h.of_vital (u := { t with pp.jogs := t.pp.jogs.map fun a _ => Jog.still (t.ax.get a).setpoint }) rfl).of_map
    fun a => ?_
  dsimp only; split
  · next ho => exact fun hh =>
      ⟨⟨fun e => by simp at e, fun e => absurd (hh.2 e) (by rw [ho]; decide)⟩,
        fun hq ht => ⟨(hq ht).1, by simp, by simp⟩⟩
  · exact axisTame_of_eq rfl rfl

theorem tame_homeTrip {s t : State} {a : Axis} (h : Tame s t) : Tame s (homeTrip t a) := by
  unfold homeTrip; split
  · exact h
  · exact tame_homeOk h
  · exact tame_homeClose h
  · next e _ _ => exact tame_homeClose (tame_homeFail e h)

theorem tame_tripDeliveries {s t : State} (h : Tame s t) : Tame s (tripDeliveries t) :=
  tame_foldl (fun _ _ _ => tame_homeTrip) _ (tame_jogsDrop (tame_coolantTrip (tame_sguTrip (tame_fall (tame_clampsTrip
    (tame_axesTrip (tame_sqTrip h)))))))

/-- No axis is homing or the pendant's after the deliveries of a TRIP. -/
theorem tripDeliveries_quiet {s : State} (h : HomingInv s) (b : Axis) : AxisQuiet ((tripDeliveries s).ax.get b) := by
  have hv := tame_coolantTrip (tame_sguTrip (tame_fall (c := .hydPressureLow) (tame_clampsTrip (tame_axesTrip
    (tame_sqTrip (tame_refl s))))))
  unfold tripDeliveries; dsimp only
  generalize coolantTrip (sguTrip (fall .hydPressureLow (clampsTrip (axesTrip (sqTrip s))))) = v at hv ⊢
  refine homeTrip_foldl_quiet allAxes (fun c => ⟨(tame_jogsDrop hv).homing h c, ?_⟩) b (.inl (by cases b <;> decide))
  unfold jogsDrop
  rw [mapAx_ax, PerAxis.get_map]; split
  · simp
  · assumption

/-! ## The raise -/

/-- What work that may TRIP keeps. -/
structure Kept (s t : State) : Prop where
  inp : t.inp = s.inp
  machine : s.cn.machine = .tripped → t.cn.machine = .tripped
  reports : s.rq.length ≤ 32 → t.rq.length ≤ 32
  records : t.sq.recs.length ≤ s.sq.recs.length
  high : t.sq.flowHigh = s.sq.flowHigh
  low : t.sq.flowLow = s.sq.flowLow
  duty : DutyOff s.cu → DutyOff t.cu
  never : NeverInv s → NeverInv t
  free : ReleasedFree s → ReleasedFree t
  homing : HomingInv s → HomingInv t
  quiet : HomingInv s → TrippedAxes s → TrippedAxes t
  off : NeverInv s → TrippedOff s → TrippedOff t

theorem kept_refl (s : State) : Kept s s :=
  ⟨rfl, id, id, Nat.le_refl _, rfl, rfl, id, id, id, id, fun _ h => h, fun _ h => h⟩

theorem Kept.trans {s t u : State} (h : Kept s t) (k : Kept t u) : Kept s u :=
  ⟨k.inp.trans h.inp, k.machine ∘ h.machine, k.reports ∘ h.reports, k.records.trans h.records, k.high.trans h.high,
    k.low.trans h.low, k.duty ∘ h.duty, k.never ∘ h.never, k.free ∘ h.free, k.homing ∘ h.homing,
    fun h1 h2 => k.quiet (h.homing h1) (h.quiet h1 h2), fun h1 h2 => k.off (h.never h1) (h.off h1 h2)⟩

/-- Tame work that keeps what TRIPPED holds. -/
theorem Tame.kept {s t : State} (k : Tame s t) (c : Cold s → Cold t) : Kept s t :=
  ⟨k.inp, k.machine.2, k.reports, k.records, k.high, k.low, k.duty, k.never, k.free, k.homing, k.quiet,
    fun _ h => (trippedOff_iff t).2 fun ht => c ((trippedOff_iff s).1 h (k.machine.1 ht))⟩

theorem Kept.tame {s t u : State} (h : Kept s t) (k : Tame t u) (c : Cold t → Cold u) : Kept s u := h.trans (k.kept c)

theorem kept_foldl {α : Type} {f : State → α → State} (hf : ∀ s a, Kept s (f s a)) (l : List α) :
    ∀ {s t : State}, Kept s t → Kept s (l.foldl f t) := by
  induction l with
  | nil => exact id
  | cons a l ih => exact fun h => ih (h.trans (hf _ a))

theorem kept_raiseTrip (s : State) (c : Cond) (q : Nat) (v : Int) : Kept s (raiseTrip c q v s) := by
  have hl := tame_latch (c := c) (q := q) (v := v) (tame_refl s)
  by_cases ht : s.cn.machine = .tripped
  · have e : raiseTrip c q v s = latch c q v s := by unfold raiseTrip; dsimp only; rw [if_pos ht]
    rw [e]; exact hl.kept cold_latch
  have e : raiseTrip c q v s =
      allAxes.foldl homeReport (tripDeliveries { latch c q v s with cn.machine := .tripped }) := by
    unfold raiseTrip; dsimp only; rw [if_neg ht]
  generalize hu : { latch c q v s with cn.machine := .tripped } = u at e
  have hut : u.cn.machine = .tripped := by subst hu; rfl
  have k : Tame u (raiseTrip c q v s) := by
    rw [e]; exact tame_foldl (fun _ _ _ => tame_homeReport) _ (tame_tripDeliveries (tame_refl u))
  have hn : NeverInv s → NeverInv u := fun h => by subst hu; exact hl.never h
  have hh : HomingInv s → HomingInv u := fun h => by subst hu; exact hl.homing h
  subst hu
  refine ⟨k.inp.trans hl.inp, fun h => absurd h ht, k.reports ∘ hl.reports, k.records.trans hl.records,
    k.high.trans hl.high, k.low.trans hl.low, k.duty ∘ hl.duty, k.never ∘ hn, k.free ∘ hl.free, k.homing ∘ hh,
    fun h _ _ b => ?_, fun h _ => (trippedOff_iff _).2 fun _ => ?_⟩
  · rw [e]; exact homeReport_foldl_quiet _ (tripDeliveries_quiet (hh h) b)
  · rw [e]; exact cold_foldl (fun _ _ => cold_homeReport) _ (cold_tripDeliveries hut (hn h))

theorem kept_riseTrip (s : State) (c : Cond) (q : Nat) (v : Int) : Kept s (riseTrip c q v s) := by
  unfold riseTrip; split
  · exact kept_refl s
  · exact ((tame_refl s).of_vital (u := setRaw c true s) rfl |>.kept fun h => h.of_chilled rfl).trans
      (kept_raiseTrip _ c q v)

end Sys2Proof.Machine
end

section
/-! SUPPORT. What the work of the path period, of an input and of a request keeps (`Held`): the invariants of the queues,
the flow, the clamps, the homings and the coolant, TRIPPED and what it holds. -/

namespace Sys2Proof.Machine

/-! ## The path period -/

theorem Tame.kept_of_not_tripped {s t : State} (k : Tame s t) (h : s.cn.machine ≠ .tripped) : Kept s t :=
  k.kept fun c => absurd c.tripped h

theorem kept_tripInput (s : State) (c : Cond) (b : Bool) : Kept s (tripInput c b s) := by
  unfold tripInput; split
  · exact (tame_fall (tame_refl s)).kept cold_fall
  · exact kept_riseTrip s c 0 0

theorem kept_axisLoop (s : State) (a : Axis) : Kept s (axisLoop s a) := by
  by_cases ht : s.cn.machine = .tripped
  · refine Tame.kept ?_ cold_axisLoop
    unfold axisLoop; dsimp only; rw [if_pos ht]
    exact (tame_refl s).of_axis a (axisTame_of_eq rfl rfl)
  have hloop : ∀ n z, Tame s (updAx a (fun _ => { errorOf (s.cs.get a).c (s.ax.get a) with out := n, satCount := z }) s) :=
    fun n z => (tame_refl s).of_axis a (axisTame_of_eq rfl rfl)
  have hsat : ∀ n z d q y, Tame s (saturation d q y
      (updAx a (fun _ => { errorOf (s.cs.get a).c (s.ax.get a) with out := n, satCount := z }) s)) :=
    fun n z d q y => tame_saturation (hloop n z)
  have hfall : ∀ n z d q y (p : Prop) [Decidable p] c, Tame s (if p then fall c (saturation d q y
      (updAx a (fun _ => { errorOf (s.cs.get a).c (s.ax.get a) with out := n, satCount := z }) s)) else
      saturation d q y (updAx a (fun _ => { errorOf (s.cs.get a).c (s.ax.get a) with out := n, satCount := z }) s)) :=
    fun n z d q y p _ c => by
      split
      · exact tame_fall (hsat ..)
      · exact hsat ..
  unfold axisLoop; dsimp only; rw [if_neg ht]; split
  · exact ((hfall ..).kept_of_not_tripped ht).trans (kept_raiseTrip ..)
  · exact (hfall ..).kept_of_not_tripped ht

theorem kept_axesWork (s : State) : Kept s (axesWork s) := by
  have k0 : Kept s (compWork s) := ((tame_refl s).of_vital (u := compWork s) rfl).kept fun h => h.of_chilled rfl
  have k1 : Kept s (allAxes.foldl ownerWork (compWork s)) :=
    kept_foldl (fun u a => (tame_ownerWork (tame_refl u)).kept cold_ownerWork) _ k0
  have k3 : Kept s (allAxes.foldl settleHoming (allAxes.foldl hardLimitTest (allAxes.foldl axisLoop
      (allAxes.foldl ownerWork (compWork s))))) :=
    kept_foldl (fun u a => (tame_settleHoming (tame_refl u)).kept cold_settleHoming) _
      (kept_foldl (fun u a => (tame_hardLimitTest (tame_refl u)).kept cold_hardLimitTest) _
        (kept_foldl kept_axisLoop _ k1))
  have hprev : ∀ u, Kept s u → Kept s (prevWork u) := fun u k =>
    k.tame (tame_prevWork (tame_refl u)) fun h => h.of_map fun _ => rfl
  unfold axesWork; dsimp only; split
  · exact hprev _ (k3.tame (tame_drainTest (tame_refl _)) cold_drainTest)
  · exact hprev _ k3

theorem kept_positionLoop {s : State} (ht : s.cn.machine ≠ .tripped) : Kept s (positionLoop s) := by
  have k : ∀ z p, Tame s (spindleOutput z { positionStep s with sgu.pPrev := p }) := fun z p =>
    tame_spindleOutput ((tame_positionStep (tame_refl s)).of_vital rfl)
  unfold positionLoop; dsimp only; split
  · exact ((k _ _).kept_of_not_tripped ht).trans (kept_raiseTrip ..)
  · exact (tame_positionDone (k _ _)).kept_of_not_tripped ht

theorem kept_spindleWork (s : State) : Kept s (spindleWork s) := by
  have km := (tame_spindleMeasure (tame_refl s)).kept cold_spindleMeasure
  by_cases ht : s.cn.machine = .tripped
  · unfold spindleWork; dsimp only; rw [if_pos ht]; exact km
  have hm : (spindleMeasure s).cn.machine ≠ .tripped := by
    unfold spindleMeasure; dsimp only; split <;> exact ht
  have hspeed : ∀ u z, Tame (spindleMeasure s) u → Kept s (spindleOutput z u) := fun u z k =>
    km.trans ((tame_spindleOutput k).kept_of_not_tripped hm)
  have hramp := tame_atSpeedTest (tame_spindleRamp (tame_refl (spindleMeasure s)))
  unfold spindleWork; dsimp only; rw [if_neg ht]; split
  · exact hspeed _ _ hramp
  · exact hspeed _ _ hramp
  · exact hspeed _ _ hramp
  · exact km.trans (kept_positionLoop hm)
  · exact hspeed _ _ (tame_refl _)
  · exact hspeed _ _ (tame_refl _)

theorem cold_pathWork {s : State} (h : Cold s) : Cold (pathWork s) := by
  have e : pathWork s = s := by unfold pathWork; rw [h.idle]; rfl
  rw [e]; exact h

theorem kept_periodWork (s : State) : Kept s (periodWork s) :=
  (((tame_pathWork (tame_refl s)).kept cold_pathWork).trans (kept_axesWork _)).trans (kept_spindleWork _)

theorem kept_deliver (s : State) (n : Fin 32) : Kept s (deliver n s) := by
  by_cases hn : 2 ≤ n.val
  · exact (tame_deliver hn (tame_refl s)).kept cold_deliver
  · obtain h | h : n.val = 0 ∨ n.val = 1 := by omega
    · unfold deliver; dsimp only; rw [h]; exact kept_tripInput ..
    · unfold deliver; dsimp only; rw [h]; exact kept_tripInput ..

/-! ## What a command keeps -/

/-- What a command's work keeps, where `stays` says that it is none that leaves TRIPPED. -/
structure Held (stays : Prop) (s t : State) : Prop where
  machine : stays → s.cn.machine = .tripped → t.cn.machine = .tripped
  queues : QueuesInv s → QueuesInv t
  flow : FlowInv s → FlowInv t
  duty : DutyOff s.cu → DutyOff t.cu
  never : NeverInv s → NeverInv t
  free : ReleasedFree s → ReleasedFree t
  homing : HomingInv s → HomingInv t
  quiet : HomingInv s → TrippedAxes s → TrippedAxes t
  off : NeverInv s → TrippedOff s → TrippedOff t

theorem held_refl (p : Prop) (s : State) : Held p s s := ⟨fun _ => id, id, id, id, id, id, id, fun _ h => h, fun _ h => h⟩

theorem Held.trans {p : Prop} {s t u : State} (h : Held p s t) (k : Held p t u) : Held p s u :=
  ⟨fun a => k.machine a ∘ h.machine a, k.queues ∘ h.queues, k.flow ∘ h.flow, k.duty ∘ h.duty, k.never ∘ h.never,
    k.free ∘ h.free, k.homing ∘ h.homing, fun h1 h2 => k.quiet (h.homing h1) (h.quiet h1 h2),
    fun h1 h2 => k.off (h.never h1) (h.off h1 h2)⟩

theorem Held.weaken {p q : Prop} {s t : State} (h : Held p s t) (hpq : q → p) : Held q s t :=
  { h with machine := fun a => h.machine (hpq a) }

theorem Kept.held {s t : State} (k : Kept s t) (p : Prop) : Held p s t := by
  refine ⟨fun _ => k.machine, fun h => ⟨k.reports h.1, k.records.trans h.2⟩, ?_, k.duty, k.never, k.free, k.homing,
    k.quiet, k.off⟩
  unfold FlowInv; rw [k.high, k.low]; exact id

theorem Tame.held {s t : State} (k : Tame s t) (c : Cold s → Cold t) (p : Prop) : Held p s t := (k.kept c).held p

/-- An update of fields that no invariant reads. -/
theorem held_of_vital {s t : State} (c : Cold s → Cold t) (e : vital t = vital s) (p : Prop) : Held p s t :=
  ((tame_refl s).of_vital e).held c p

/-! ## The inputs -/

/-- The clamped sensors of the axes meant to be free are off, but for those of one axis. -/
def FreeBut (c : ClampAxis) (s : State) : Prop :=
  ∀ d, d ≠ c → (s.cc.get d).policy ≠ .never →
    (s.cc.get d).st = .released ∨ ((s.cc.get d).st = .clampWait ∧ (s.cc.get d).fromFault = false) →
    clampedSensor s d = false

theorem releasedFree_of_but {c : ClampAxis} {s : State} (h : FreeBut c s)
    (hc : (s.cc.get c).policy ≠ .never →
      (s.cc.get c).st = .released ∨ ((s.cc.get c).st = .clampWait ∧ (s.cc.get c).fromFault = false) →
      clampedSensor s c = false) : ReleasedFree s := by
  intro d
  by_cases e : d = c
  · subst e; exact hc
  · exact h d e

theorem freeBut_updClamp {c : ClampAxis} {f : Clamp → Clamp} {s : State} (h : FreeBut c s) : FreeBut c (updClamp c f s) := by
  intro d hd
  rw [updClamp_cc, PerClamp.get_upd, if_neg (Ne.symm hd)]
  exact h d hd

theorem clampLost_free {c : ClampAxis} {s : State} (h : FreeBut c s) : ReleasedFree (clampLost c s) := by
  have hfault : ∀ f : Clamp → Clamp, (f (s.cc.get c)).st = .fault → ReleasedFree (updClamp c f s) := fun f hf =>
    releasedFree_of_but (freeBut_updClamp h) fun _ hs => by
      rw [updClamp_cc, PerClamp.get_upd, if_pos rfl, hf] at hs; simp at hs
  unfold clampLost; dsimp only
  split
  · next hp => exact releasedFree_of_but h fun hn => absurd hp hn
  split
  · exact (tame_raiseStop (tame_refl _)).free (hfault _ rfl)
  split
  · exact (tame_raiseStop (tame_hydWithdraw (tame_refl _))).free (hfault _ rfl)
  · next h1 h2 => exact releasedFree_of_but h fun _ hs => absurd hs (by rintro (e | e); exacts [h1 e, h2 e])

theorem freeBut_clampCheck {c : ClampAxis} {s : State} (h : FreeBut c s) : FreeBut c (clampCheck c s) := by
  unfold clampCheck; split
  · exact h
  · exact freeBut_updClamp h

theorem clampSensorChanged_free {c : ClampAxis} {s : State} (h : FreeBut c s) :
    ReleasedFree (clampSensorChanged c (clampedSensor s c) s) := by
  cases hc : clampedSensor s c with
  | true => exact clampLost_free (freeBut_clampCheck h)
  | false => exact (tame_clampSensorChanged (tame_refl s)).free (releasedFree_of_but h fun _ _ => hc)

/-- The input of an axis's clamped sensor (Table 5-3). -/
def clampedInput : ClampAxis → Fin 32
  | .x => 17 | .y => 19 | .z => 21 | .b => 23

theorem clampedSensor_eq (s : State) (c : ClampAxis) : clampedSensor s c = inputOn s (clampedInput c) := by
  cases c <;> rfl

theorem clampedInput_inj {c d : ClampAxis} (h : clampedInput c = clampedInput d) : c = d := by
  cases c <;> cases d <;> first | rfl | exact absurd h (by decide)

theorem deliver_clampedInput (s : State) (c : ClampAxis) :
    deliver (clampedInput c) s = clampSensorChanged c (clampedSensor s c) s := by cases c <;> rfl

theorem inputOn_updInp_other {n m : Fin 32} {f : InputCh → InputCh} {s : State} (h : n ≠ m) :
    inputOn (updInp n f s) m = inputOn s m := by
  have hv : n.val ≠ m.val := fun e => h (Fin.ext e)
  simp [inputOn, updInp, hv]

theorem inputOn_updInp_same {n : Fin 32} {f : InputCh → InputCh} {s : State} :
    inputOn (updInp n f s) n = (f s.inp[n]).filt := by
  simp [inputOn, updInp]

/-- A change of one input with the delivery of its state. -/
theorem deliver_updInp_free {n : Fin 32} {f : InputCh → InputCh} {s : State} (h : ReleasedFree s) :
    ReleasedFree (deliver n (updInp n f s)) := by
  by_cases hn : ∃ c, n = clampedInput c
  · obtain ⟨c, rfl⟩ := hn
    rw [deliver_clampedInput]
    refine clampSensorChanged_free fun d hd => ?_
    rw [clampedSensor_eq, inputOn_updInp_other fun e => hd (clampedInput_inj e).symm, ← clampedSensor_eq]
    exact h d
  · refine (kept_deliver _ n).free fun d => ?_
    rw [clampedSensor_eq, inputOn_updInp_other fun e => hn ⟨d, e⟩, ← clampedSensor_eq]
    exact h d

theorem held_deliver_updInp (p : Prop) (n : Fin 32) (f : InputCh → InputCh) (s : State) :
    Held p s (deliver n (updInp n f s)) :=
  let k := (kept_deliver (updInp n f s) n).held p
  ⟨k.machine, k.queues, k.flow, k.duty, k.never, deliver_updInp_free, k.homing, k.quiet,
    fun hn ho => k.off hn ho⟩

theorem held_filterStep (p : Prop) (n : Fin 32) (s : State) : Held p s (filterStep n s) := by
  unfold filterStep; split
  · exact held_deliver_updInp ..
  · exact held_refl ..

/-- A change of one input that leaves its filtered state. -/
theorem held_updInp (p : Prop) {n : Fin 32} {f : InputCh → InputCh} {s : State}
    (hf : (f s.inp[n]).filt = s.inp[n].filt) : Held p s (updInp n f s) := by
  have hs : ∀ d, clampedSensor (updInp n f s) d = clampedSensor s d := fun d => by
    rw [clampedSensor_eq, clampedSensor_eq]
    by_cases e : n = clampedInput d
    · subst e; rw [inputOn_updInp_same, hf]; rfl
    · exact inputOn_updInp_other e
  exact ⟨fun _ => id, id, id, id, id, fun h d => by rw [hs]; exact h d, id, fun _ h => h, fun _ h => h⟩

theorem held_rawChange (p : Prop) (n : Fin 32) (b : Bool) (s : State) : Held p s (rawChange n b s) := by
  unfold rawChange; split
  · exact held_refl ..
  · exact (held_updInp p rfl).trans (held_filterStep ..)

end Sys2Proof.Machine
end

section
/-! SUPPORT. What the requests keep: the writes of the parameters within their ranges (R28, R105, R214), the records that
join within the queue's room (R5), and every other request. -/

namespace Sys2Proof.Machine

/-! ## Parameters -/

theorem policyOf_never {v : Int} (h : policyOf v = .never) (h0 : 0 ≤ v) (h2 : v ≤ 2) : v = 2 := by
  unfold policyOf at h
  split at h
  · cases h
  split at h
  · cases h
  · omega

theorem tame_writePolicy {s : State} {c : ClampAxis} {v : Int} (h0 : 0 ≤ v) (h2 : v ≤ 2)
    (hr : policyRefusal s c v = none) : Tame s (writePolicy c v s) := by
  have hrel : v = 2 → (s.cc.get c).st = .released := fun hv => by
    unfold policyRefusal at hr; dsimp only at hr
    by_contra hn
    split at hr
    · cases hr
    split at hr
    · cases hr
    rw [if_pos ⟨hv, hn⟩] at hr; cases hr
  refine (tame_refl s).of_clamp c ⟨fun _ hp => ?_, fun hk hp hs => ?_⟩
  · have hv : policyOf v = .never := hp
    dsimp only; rw [if_neg (fun e => e.2.1 hv)]
    exact hrel (policyOf_never hv h0 h2)
  · dsimp only at hp hs
    by_cases hn : (s.cc.get c).policy = .never
    · by_contra hc
      rw [if_pos ⟨hn, hp, fun e => hc e.2⟩] at hs; simp at hs
    · rw [if_neg (fun e => hn e.1)] at hs; exact hk hn hs

theorem tame_writeDelay {s t : State} {c : ClampAxis} {v : Nat} (h : Tame s t) : Tame s (writeDelay c v t) := by
  have k : Tame s (updClamp c (fun k => { k with delay := v }) t) := h.of_clamp c (clampTame_of_eq rfl rfl rfl)
  unfold writeDelay; dsimp only; split
  · exact tame_clampNeed (k.of_clamp c (clampTame_of_eq rfl rfl rfl))
  · exact k

theorem tame_writeClamp {s : State} {f : ClampField} {c : ClampAxis} {v : Int}
    (hr : writeRefusal s (.clamp f c) v = none) (hlo : (clampRange f).1 ≤ v) (hhi : v ≤ (clampRange f).2) :
    Tame s (writeClamp f c v s) := by
  cases f with
  | policy => exact tame_writePolicy hlo hhi hr
  | delay => exact tame_writeDelay (tame_refl s)
  | releaseTime => exact (tame_refl s).of_clamp c (clampTame_of_eq rfl rfl rfl)
  | clampTime => exact (tame_refl s).of_clamp c (clampTame_of_eq rfl rfl rfl)

/-- A write of a flow threshold within its range (R28). -/
theorem held_flowWrite (p : Prop) {s t : State} (hq : t.sq.recs = s.sq.recs) (hf : FlowInv s → FlowInv t)
    (e : vital { t with sq := s.sq } = vital s) (c : Cold s → Cold t) : Held p s (flowEval t) := by
  have k := ((tame_refl s).of_vital e).held (fun h => (c h).of_chilled (t := { t with sq := s.sq }) (by
    have hi := (c h).idle; have hj := h.idle
    simp [chilled, hi, hj])) p
  have kt : Held p s t := ⟨k.machine, fun h => ⟨(k.queues h).1, by rw [hq]; exact h.2⟩, hf, k.duty, k.never, k.free,
    k.homing, k.quiet, fun _ ho => (trippedOff_iff t).2 fun ht => c ((trippedOff_iff s).1 ho (by
      simp only [vital, Prod.mk.injEq] at e; exact e.2.1 ▸ ht))⟩
  exact kt.trans ((tame_flowEval (tame_refl t)).held cold_flowEval p)

theorem held_writeParam (q : Prop) {s : State} {p : Param} {v : Int} (hr : writeRefusal s p v = none)
    (hlo : (paramRange s p).1 ≤ v) (hhi : v ≤ (paramRange s p).2) : Held q s (writeParam p v s) := by
  have hcold : Cold s → Cold (writeParam p v s) := cold_writeParam
  cases p with
  | flowHigh =>
    refine held_flowWrite q (t := { s with sq.flowHigh := v.toNat }) rfl (fun h => ?_) rfl fun h => h.of_chilled rfl
    simp only [paramRange, max_le_iff] at hlo hhi
    unfold FlowInv at h ⊢; dsimp only; omega
  | flowLow =>
    refine held_flowWrite q (t := { s with sq.flowLow := v.toNat }) rfl (fun h => ?_) rfl fun h => h.of_chilled rfl
    simp only [paramRange, le_min_iff] at hlo hhi
    unfold FlowInv at h ⊢; dsimp only; omega
  | axis f a => exact ((tame_refl s).of_axis a (axisTame_of_eq rfl rfl)).held hcold q
  | clamp f c => exact (tame_writeClamp hr hlo hhi).held hcold q
  | rangeMax r =>
    refine Tame.held ?_ hcold q
    unfold writeParam; dsimp only; split
    · exact tame_retarget ((tame_refl s).of_vital rfl)
    · exact (tame_refl s).of_vital rfl
  | sgu f => cases f <;> exact held_of_vital hcold rfl q
  | cu f => exact ((tame_refl s).of_cu (u := writeParam (.cu f) v s) id rfl).held hcold q
  | filter n => exact (held_updInp q rfl).trans (held_filterStep ..)
  | _ => exact held_of_vital hcold rfl q

theorem held_setParam (q : Prop) (s : State) (i n : Nat) (v : Int) : Held q s (serveSetParam i n v s).2 := by
  unfold serveSetParam; split
  · exact held_refl ..
  split
  · exact held_refl ..
  split
  · exact held_refl ..
  · next p _ hrange _ hr =>
    simp only [not_or, Int.not_lt] at hrange
    exact held_writeParam q hr hrange.1 hrange.2

/-! ## Records -/

theorem held_append (q : Prop) (s : State) (n : Nat) (l : List RawRec) : Held q s (serveAppend n l s).2 := by
  by_cases ht : s.cn.machine = .tripped
  · unfold serveAppend; rw [if_pos ht]; exact held_refl ..
  unfold serveAppend; rw [if_neg ht]
  split
  · exact held_refl ..
  split
  · exact held_refl ..
  split
  · exact held_refl ..
  · next hroom =>
    split
    · exact held_refl ..
    · have hlen : (l.filterMap recOf).length ≤ l.length := List.length_filterMap_le ..
      have k : Held q s { s with sq.recs := s.sq.recs ++ l.filterMap recOf, sq.armed := true } :=
        ⟨fun _ => id, fun h => ⟨h.1, by rw [List.length_append]; have := h.2; omega⟩, id, id, id, id, id,
          fun _ h => h, fun _ h => h⟩
      have kt := tame_quiesce (tame_flowEval (tame_refl
        { s with sq.recs := s.sq.recs ++ l.filterMap recOf, sq.armed := true }))
      exact k.trans (kt.held (fun h => absurd h.tripped ht) q)

/-! ## The other requests -/

theorem tame_ackEntries {s : State} (l : List Cond) : Tame s (l.foldl ackEntry s) :=
  tame_foldl (f := ackEntry) (fun _ _ _ h => h.of_vital rfl) l (tame_refl s)

theorem tame_serveAck (s : State) (n : Nat) (l : List (Nat × Nat)) : Tame s (serveAck n l s).2 := by
  unfold serveAck; split
  · exact tame_ackEntries _
  split
  · exact tame_refl s
  split
  · exact tame_refl s
  · exact tame_ackEntries _

theorem tame_applyOverride (s : State) (f r p : Option Nat) (q : FeedSource) : Tame s (applyOverride f r p q s) := by
  unfold applyOverride; dsimp only; split
  · exact (tame_refl s).of_vital rfl
  · refine tame_retarget ?_; exact (tame_refl s).of_vital rfl

theorem tame_serveOverride (s : State) (f r p q : Option Nat) : Tame s (serveOverride f r p q s).2 := by
  unfold serveOverride; split
  · exact tame_refl s
  · have hs : ∀ src, Tame s (if f.isSome ∧ src = FeedSource.pendant then plain .wrongState s
        else ((⟨.ok, overrideFields (applyOverride f r p src s)⟩ : Answer), applyOverride f r p src s)).2 := fun src => by
      split
      · exact tame_refl s
      · exact tame_applyOverride ..
    exact hs _

theorem tame_flush (s : State) : Tame s (serveFlush s).2 := by
  unfold serveFlush; split
  · exact tame_flowEval (tame_clearRecords (tame_refl s))
  · exact tame_refl s

/-- A free axis becomes HOMING's with its homing begun (R68). -/
theorem tame_takeHome {s : State} {a : Axis} (ht : s.cn.machine ≠ .tripped) : Tame s (takeHome a s) := by
  have k : Tame s (updAx a (fun k =>
      { k with owner := .homing, refd := false, hVel := 0, hRem := 0, hFail := none, phase := .waitRelease }) s) :=
    (tame_refl s).of_axis a fun _ => ⟨by simp [HomingOwn], fun _ h => absurd h ht⟩
  unfold takeHome; dsimp only; split
  · exact k
  · exact tame_axisNeed k

theorem tame_home (s : State) (a : Nat) : Tame s (serveHome a s).2 := by
  unfold serveHome; split
  · exact tame_refl s
  split
  · exact tame_refl s
  next ht =>
  split
  · exact tame_refl s
  split
  · exact tame_refl s
  split
  · exact tame_refl s
  split
  · exact tame_refl s
  · exact tame_takeHome ht

theorem tame_compLoad (s : State) (a f : Nat) (l : List Int) : Tame s (serveCompLoad a f l s).2 := by
  unfold serveCompLoad; split
  · exact tame_refl s
  split
  · exact tame_refl s
  split
  · exact tame_refl s
  split
  · exact tame_refl s
  · exact (tame_refl s).of_vital rfl

theorem tame_compCommit (s : State) (a n m k : Nat) (o d : Int) : Tame s (serveCompCommit a n o d m k s).2 := by
  unfold serveCompCommit; split
  · exact tame_refl s
  split
  · exact tame_refl s
  split
  · exact tame_refl s
  split
  · exact tame_refl s
  split
  · exact tame_refl s
  · exact (tame_refl s).of_vital rfl

theorem tame_compClear (s : State) (a : Nat) : Tame s (serveCompClear a s).2 := by
  unfold serveCompClear; split
  · exact tame_refl s
  · exact (tame_refl s).of_vital rfl

theorem tame_clampSet (s : State) (n a : Nat) : Tame s (serveClampSet n a s).2 := by
  unfold serveClampSet; split
  · unfold serveClamp; split
    · exact tame_refl s
    split
    · exact tame_refl s
    split
    · exact tame_refl s
    split
    · exact tame_refl s
    · exact tame_clampNeed (tame_refl s)
  · unfold serveRelease; split
    · exact tame_refl s
    split
    · exact tame_refl s
    split
    · exact tame_refl s
    · exact tame_releaseNeed (tame_refl s)
  · exact tame_refl s
  · exact tame_refl s

theorem tame_spindleSet (s : State) (n p d : Nat) : Tame s (serveSpindleSet n p d s).2 := by
  have hstop : Tame s (serveSpindleStop s).2 := by
    unfold serveSpindleStop; split
    · exact tame_refl s
    split
    · exact tame_refl s
    · exact tame_spindleStopSpeed (tame_refl s)
  unfold serveSpindleSet; split
  · unfold serveSpindleRun; split
    · exact tame_refl s
    split
    · exact hstop
    split
    · exact tame_refl s
    split
    · exact tame_refl s
    split
    · exact tame_refl s
    split
    · exact tame_refl s
    · exact tame_speedCommand (tame_refl s)
  · exact hstop
  · exact tame_refl s
  · exact tame_refl s

theorem tame_gearSelect (s : State) (r : Nat) : Tame s (serveGearSelect r s).2 := by
  unfold serveGearSelect; split
  · exact tame_refl s
  split
  · exact tame_refl s
  split
  · exact tame_refl s
  split
  · exact tame_refl s
  split
  · exact tame_refl s
  split
  · exact tame_refl s
  · exact tame_startShift (tame_refl s)

theorem tame_coolantSet (s : State) (f t m : Nat) (p : Option Nat) : Tame s (serveCoolant f t m p s).2 := by
  unfold serveCoolant; split
  · split
    · exact tame_refl s
    · next df dt dm _ _ _ _ =>
      have k := tame_coolantWrite (f := df) (c := dt) (m := dm) (p := p) (tame_refl s)
      dsimp only
      generalize coolantWrite df dt dm p s = u at k ⊢
      unfold floodRule; split
      · exact k.of_cu id rfl
      · exact k
  · exact tame_refl s

theorem tame_pendantText (s : State) (n : Nat) (l : List Nat) : Tame s (servePendantText n l s).2 := by
  unfold servePendantText; split
  · split
    · exact (tame_refl s).of_vital rfl
    · exact tame_refl s
  · exact tame_refl s

theorem tame_lineTest (s : State) : Tame s (serveLineTest s).2 := by
  unfold serveLineTest; split
  · exact tame_refl s
  · exact tame_startLineTest (tame_refl s)

theorem serveGetParam_state (s : State) (i n : Nat) : (serveGetParam i n s).2 = s := by unfold serveGetParam; split <;> rfl

theorem serveAxisStatus_state (s : State) (a : Nat) : (serveAxisStatus a s).2 = s := by
  unfold serveAxisStatus; split <;> rfl

theorem serveCompRead_state (s : State) (a f n : Nat) : (serveCompRead a f n s).2 = s := by
  unfold serveCompRead; split
  · rfl
  · split <;> rfl

theorem held_resetTrip (s : State) :
    Held (rawOf s .estopOpen = true ∨ rawOf s .drivesNotReady = true) s (serveResetTrip s).2 := by
  unfold serveResetTrip; split
  · exact held_refl ..
  split
  · exact held_refl ..
  · next hr => exact ⟨fun h => absurd (by simpa using h) hr, id, id, id, id, id, id, fun _ _ h => (nomatch h),
      fun _ _ h => (nomatch h)⟩

/-- A TRIP condition is raw wherever the request is RESET_TRIP. -/
def TripRaw (s : State) (r : Request) : Prop :=
  r = .resetTrip → rawOf s .estopOpen = true ∨ rawOf s .drivesNotReady = true

/-- What a request keeps. -/
theorem held_serve (s : State) (r : Request) : Held (TripRaw s r) s (serve r s).2 := by
  have hcold : r ≠ .resetTrip → Cold s → Cold (serve r s).2 := fun hr h => cold_serve h r hr
  cases r with
  | resetTrip => exact (held_resetTrip s).weaken fun h => h rfl
  | ackConditions n l => exact (tame_serveAck s n l).held (hcold nofun) _
  | setParam i n v => exact held_setParam ..
  | getParam i n => exact (serveGetParam_state s i n).symm ▸ held_refl ..
  | append n l => exact held_append ..
  | start => exact (tame_startRequest (tame_refl s)).held (hcold nofun) _
  | hold => exact (tame_sqHold (tame_refl s)).held (hcold nofun) _
  | resume => exact (tame_resumeRequest (tame_refl s)).held (hcold nofun) _
  | stop => exact (tame_sqStop (tame_refl s)).held (hcold nofun) _
  | flush => exact (tame_flush s).held (hcold nofun) _
  | setOverride f r p q => exact (tame_serveOverride s f r p q).held (hcold nofun) _
  | home a => exact (tame_home s a).held (hcold nofun) _
  | axisStatus a => exact (serveAxisStatus_state s a).symm ▸ held_refl ..
  | compLoad a f l => exact (tame_compLoad s a f l).held (hcold nofun) _
  | compCommit a n o d m k => exact (tame_compCommit s a n m k o d).held (hcold nofun) _
  | compClear a => exact (tame_compClear s a).held (hcold nofun) _
  | compRead a f n => exact (serveCompRead_state s a f n).symm ▸ held_refl ..
  | clampSet n a => exact (tame_clampSet s n a).held (hcold nofun) _
  | spindleSet n p d => exact (tame_spindleSet s n p d).held (hcold nofun) _
  | gearSelect r => exact (tame_gearSelect s r).held (hcold nofun) _
  | meshTableClear => exact held_of_vital (hcold nofun) rfl _
  | coolantSet f t m p => exact (tame_coolantSet s f t m p).held (hcold nofun) _
  | pendantText n l => exact (tame_pendantText s n l).held (hcold nofun) _
  | lineTest => exact (tame_lineTest s).held (hcold nofun) _
  | _ => exact held_refl ..

end Sys2Proof.Machine
end

section
/-! SUPPORT. The waiting commands and the host link through the work of every command: only the link's own commands touch
them (`linked`). -/

namespace Sys2Proof.Machine

/-- The waiting commands and the host link. -/
def linked (s : State) : List Instr × HostLink := (s.pending, s.hlp)

theorem linked_of_aside {s t : State} (h : aside t = aside s) : linked t = linked s := by
  simp only [aside, Prod.mk.injEq] at h
  obtain ⟨hp, -, -, -, hl⟩ := h
  simp only [linked, hp, hl]

/-! ## Inputs and conversions -/

theorem aside_clampSensorChanged (c : ClampAxis) (b : Bool) (s : State) : aside (clampSensorChanged c b s) = aside s := by
  unfold clampSensorChanged; dsimp only; split <;> simp

theorem aside_tripInput (c : Cond) (b : Bool) (s : State) : aside (tripInput c b s) = aside s := by
  unfold tripInput; split <;> simp

theorem aside_limitChanged (a : Axis) (s : State) : aside (limitChanged a s) = aside s := by
  unfold limitChanged; split <;> simp

theorem aside_hydOverloadChanged (b : Bool) (s : State) : aside (hydOverloadChanged b s) = aside s := by
  unfold hydOverloadChanged; split <;> simp

theorem aside_deliver (n : Fin 32) (s : State) : aside (deliver n s) = aside s := by
  unfold deliver; dsimp only
  split <;> simp only [aside_tripInput, aside_spindleReadyChanged, aside_contactChanged, aside_limitChanged,
    aside_homeSwitchChanged, aside_clampSensorChanged, aside_gearFirstRead, aside_hydOverloadChanged,
    aside_floodOverloadChanged, aside_tscOverloadChanged]

theorem linked_filterStep (n : Fin 32) (s : State) : linked (filterStep n s) = linked s := by
  unfold filterStep; split
  · rw [linked_of_aside (aside_deliver n _)]; rfl
  · rfl

theorem linked_rawChange (n : Fin 32) (b : Bool) (s : State) : linked (rawChange n b s) = linked s := by
  unfold rawChange; split
  · rfl
  · rw [linked_filterStep]; rfl

theorem aside_deliverCmp (i : Fin 7) (s : State) : aside (deliverCmp i s) = aside s := by
  unfold deliverCmp hydMinChanged; split <;> (try split) <;> simp

theorem linked_foldl {α : Type} {f : State → α → State} (hf : ∀ s a, linked (f s a) = linked s) (l : List α) :
    ∀ s, linked (l.foldl f s) = linked s := by
  induction l with
  | nil => exact fun _ => rfl
  | cons a l ih => exact fun s => (ih _).trans (hf s a)

theorem linked_conversion (n : Nat) (s : State) : linked (conversion n s) = linked s := by
  have h2 : ∀ u v l, linked ((channelCmps l).foldl (cmpWork v) u) = linked u := fun u v l =>
    linked_foldl (f := cmpWork v) (fun _ _ => rfl) _ u
  have h3 : ∀ u (l : List (Fin 7)), linked (l.foldl (fun s i => deliverCmp i s) u) = linked u := fun u l =>
    linked_foldl (fun s i => linked_of_aside (aside_deliverCmp i s)) l u
  unfold conversion; dsimp only
  split
  · rw [linked_of_aside (aside_tscSample _ _), h3, h2]; rfl
  · rw [h3, h2]; rfl

/-! ## The path period -/

theorem linked_axesWork (s : State) : linked (axesWork s) = linked s := by
  have h1 : linked (allAxes.foldl ownerWork (compWork s)) = linked s := by
    rw [linked_foldl (fun u a => linked_of_aside (aside_ownerWork u a))]; rfl
  have h3 : linked (allAxes.foldl settleHoming (allAxes.foldl hardLimitTest (allAxes.foldl axisLoop
      (allAxes.foldl ownerWork (compWork s))))) = linked s := by
    rw [linked_foldl (fun u a => linked_of_aside (aside_settleHoming u a)),
      linked_foldl (fun u a => linked_of_aside (aside_hardLimitTest u a)),
      linked_foldl (fun u a => linked_of_aside (aside_axisLoop u a)), h1]
  unfold axesWork; dsimp only; split
  · rw [linked_of_aside (aside_prevWork _), linked_of_aside (aside_drainTest _), h3]
  · rw [linked_of_aside (aside_prevWork _), h3]

theorem linked_periodWork (s : State) : linked (periodWork s) = linked s := by
  unfold periodWork
  rw [linked_of_aside (aside_spindleWork _), linked_axesWork, linked_of_aside (aside_pathWork s)]

/-! ## Requests -/

theorem linked_writeParam (p : Param) (v : Int) (s : State) : linked (writeParam p v s) = linked s := by
  cases p with
  | flowHigh => exact linked_of_aside (aside_flowEval _)
  | flowLow => exact linked_of_aside (aside_flowEval _)
  | clamp f c =>
    cases f with
    | delay =>
      unfold writeParam writeClamp writeDelay; dsimp only; split
      · rw [linked_of_aside (aside_clampNeed ..)]; rfl
      · rfl
    | _ => rfl
  | rangeMax r =>
    unfold writeParam; dsimp only; split
    · rw [linked_of_aside (aside_retarget _)]; rfl
    · rfl
  | sgu f => cases f <;> rfl
  | filter n => exact linked_filterStep n _
  | _ => rfl

theorem linked_ackEntries (l : List Cond) (s : State) : linked (l.foldl ackEntry s) = linked s :=
  linked_foldl (f := ackEntry) (fun _ _ => rfl) l s

theorem linked_setParam (i n : Nat) (v : Int) (s : State) : linked (serveSetParam i n v s).2 = linked s := by
  unfold serveSetParam; split
  · rfl
  split
  · rfl
  split
  · rfl
  · exact linked_writeParam ..

theorem linked_serveAck (n : Nat) (l : List (Nat × Nat)) (s : State) : linked (serveAck n l s).2 = linked s := by
  unfold serveAck; dsimp only; split
  · exact linked_ackEntries ..
  split
  · rfl
  split
  · rfl
  · exact linked_ackEntries ..

theorem linked_append (n : Nat) (l : List RawRec) (s : State) : linked (serveAppend n l s).2 = linked s := by
  unfold serveAppend; split
  · rfl
  split
  · rfl
  split
  · rfl
  split
  · rfl
  split
  · rfl
  · exact linked_of_aside (by simp [appendRecs])

theorem linked_override (f r p q : Option Nat) (s : State) : linked (serveOverride f r p q s).2 = linked s := by
  have ha : ∀ src, linked (applyOverride f r p src s) = linked s := fun src => by
    unfold applyOverride; dsimp only; split
    · rfl
    · rw [linked_of_aside (aside_retarget _)]; rfl
  unfold serveOverride; split
  · rfl
  · have hs : ∀ src, linked (if f.isSome ∧ src = FeedSource.pendant then plain .wrongState s
        else ((⟨.ok, overrideFields (applyOverride f r p src s)⟩ : Answer), applyOverride f r p src s)).2 = linked s :=
      fun src => by
        split
        · rfl
        · exact ha src
    exact hs _

theorem linked_home (a : Nat) (s : State) : linked (serveHome a s).2 = linked s := by
  have ht : ∀ a, linked (takeHome a s) = linked s := fun a => by
    unfold takeHome; dsimp only; split
    · rfl
    · rw [linked_of_aside (aside_axisNeed ..)]; rfl
  unfold serveHome; split
  · rfl
  split
  · rfl
  split
  · rfl
  split
  · rfl
  split
  · rfl
  split
  · rfl
  · exact ht _

theorem linked_compLoad (a f : Nat) (l : List Int) (s : State) : linked (serveCompLoad a f l s).2 = linked s := by
  unfold serveCompLoad; split
  · rfl
  split
  · rfl
  split
  · rfl
  split <;> rfl

theorem linked_compCommit (a n m k : Nat) (o d : Int) (s : State) :
    linked (serveCompCommit a n o d m k s).2 = linked s := by
  unfold serveCompCommit; split
  · rfl
  split
  · rfl
  split
  · rfl
  split
  · rfl
  split <;> rfl

theorem linked_clampSet (n a : Nat) (s : State) : linked (serveClampSet n a s).2 = linked s := by
  unfold serveClampSet; split
  · unfold serveClamp; split
    · rfl
    split
    · rfl
    split
    · rfl
    split
    · rfl
    · exact linked_of_aside (aside_clampNeed ..)
  · unfold serveRelease; split
    · rfl
    split
    · rfl
    split
    · rfl
    · exact linked_of_aside (aside_releaseNeed ..)
  · rfl
  · rfl

theorem linked_spindleSet (n p d : Nat) (s : State) : linked (serveSpindleSet n p d s).2 = linked s := by
  have hstop : linked (serveSpindleStop s).2 = linked s := by
    unfold serveSpindleStop; split
    · rfl
    split
    · rfl
    · exact linked_of_aside (aside_spindleStopSpeed s)
  unfold serveSpindleSet; split
  · unfold serveSpindleRun; split
    · rfl
    split
    · exact hstop
    split
    · rfl
    split
    · rfl
    split
    · rfl
    split
    · rfl
    · exact linked_of_aside (aside_speedCommand ..)
  · exact hstop
  · rfl
  · rfl

theorem linked_gearSelect (r : Nat) (s : State) : linked (serveGearSelect r s).2 = linked s := by
  unfold serveGearSelect; split
  · rfl
  split
  · rfl
  split
  · rfl
  split
  · rfl
  split
  · rfl
  split
  · rfl
  · exact linked_of_aside (aside_startShift ..)

theorem linked_coolant (f t m : Nat) (p : Option Nat) (s : State) : linked (serveCoolant f t m p s).2 = linked s := by
  unfold serveCoolant; split
  · split
    · rfl
    · next df dt dm _ _ _ _ =>
      have k := linked_of_aside (aside_coolantWrite df dt dm p s)
      dsimp only
      generalize coolantWrite df dt dm p s = u at k ⊢
      unfold floodRule; split <;> exact k
  · rfl

theorem linked_pendantText (n : Nat) (l : List Nat) (s : State) : linked (servePendantText n l s).2 = linked s := by
  unfold servePendantText; split
  · split <;> rfl
  · rfl

theorem linked_lineTest (s : State) : linked (serveLineTest s).2 = linked s := by
  unfold serveLineTest; split
  · rfl
  · exact linked_of_aside (aside_startLineTest s)

theorem linked_compClear (a : Nat) (s : State) : linked (serveCompClear a s).2 = linked s := by
  unfold serveCompClear; split <;> rfl

theorem linked_flush (s : State) : linked (serveFlush s).2 = linked s := by
  unfold serveFlush; split
  · exact linked_of_aside (by simp [plain])
  · rfl

theorem linked_resetTrip (s : State) : linked (serveResetTrip s).2 = linked s := by
  unfold serveResetTrip; split
  · rfl
  split <;> rfl

/-- A request leaves the waiting commands and the link to HLP. -/
theorem linked_serve (s : State) : ∀ r : Request, linked (serve r s).2 = linked s
  | .ackConditions n l => linked_serveAck n l s
  | .resetTrip => linked_resetTrip s
  | .setParam i n v => linked_setParam i n v s
  | .getParam i n => by rw [show serve (.getParam i n) s = serveGetParam i n s from rfl, serveGetParam_state]
  | .append n l => linked_append n l s
  | .start => linked_of_aside (aside_startRequest s)
  | .hold => linked_of_aside (aside_sqHold s)
  | .resume => linked_of_aside (aside_resumeRequest s)
  | .stop => linked_of_aside (aside_sqStop s)
  | .flush => linked_flush s
  | .setOverride f r p q => linked_override f r p q s
  | .home a => linked_home a s
  | .axisStatus a => by rw [show serve (.axisStatus a) s = serveAxisStatus a s from rfl, serveAxisStatus_state]
  | .compLoad a f l => linked_compLoad a f l s
  | .compCommit a n o d m k => linked_compCommit a n m k o d s
  | .compClear a => linked_compClear a s
  | .compRead a f n => by rw [show serve (.compRead a f n) s = serveCompRead a f n s from rfl, serveCompRead_state]
  | .clampSet n a => linked_clampSet n a s
  | .spindleSet n p d => linked_spindleSet n p d s
  | .gearSelect r => linked_gearSelect r s
  | .meshTableClear => rfl
  | .coolantSet f t m p => linked_coolant f t m p s
  | .pendantText n l => linked_pendantText n l s
  | .lineTest => linked_lineTest s
  | .identify | .status | .restart | .queueStatus | .meshTableRead | .pendantStatus | .inputRead | .analogRead
  | .unknown _ | .badLength _ | .reserved _ => rfl

end Sys2Proof.Machine
end

section
/-! SUPPORT. Every command's work (`Work`): the invariants that it keeps, the link, and the waiting commands; the resets;
and the end of the event. -/

namespace Sys2Proof.Machine

/-- What the work of a command does before its event ends. -/
structure Work (stays : Prop) (s t : State) : Prop where
  held : Held stays s t
  link : LinkInv s → LinkInv t
  pending : t.pending = s.pending

theorem Work.of_linked {p : Prop} {s t : State} (h : Held p s t) (e : linked t = linked s) : Work p s t := by
  simp only [linked, Prod.mk.injEq] at e
  exact ⟨h, by unfold LinkInv; rw [e.2]; exact id, e.1⟩

theorem Work.of_aside {p : Prop} {s t : State} (h : Held p s t) (e : aside t = aside s) : Work p s t :=
  .of_linked h (linked_of_aside e)

theorem work_refl (p : Prop) (s : State) : Work p s s := ⟨held_refl p s, id, rfl⟩

theorem Work.weaken {p q : Prop} {s t : State} (h : Work p s t) (hpq : q → p) : Work q s t :=
  ⟨h.held.weaken hpq, h.link, h.pending⟩

theorem Work.trans {p : Prop} {s t u : State} (h : Work p s t) (k : Work p t u) : Work p s u :=
  ⟨h.held.trans k.held, k.link ∘ h.link, k.pending.trans h.pending⟩

theorem work_whenDue {p : Prop} {b : Bool} {f : State → State} {s : State} (h : b = true → Work p s (f s)) :
    Work p s (whenDue b f s) := by
  unfold whenDue; split
  · next hb => exact h hb
  · exact work_refl p s

/-- A change of the link alone. -/
theorem held_hlp (p : Prop) (s : State) (l : HostLink) : Held p s { s with hlp := l } :=
  held_of_vital (s := s) (t := { s with hlp := l }) (fun h => h.of_chilled rfl) rfl p

theorem work_hlp (p : Prop) {s : State} {l : HostLink} (h : LinkInv s → LinkInv { s with hlp := l }) :
    Work p s { s with hlp := l } := ⟨held_hlp p s l, h, rfl⟩

/-! ## The link's own work -/

/-- The head request that HLP takes is no RESET_TRIP that would be taken. -/
def TakesRaw (s : State) : Prop :=
  ∀ e es, s.hlp.slot = none → s.hlp.fifo = e :: es → TripRaw s e.req

theorem linkInv_takeNext {s : State} (h4 : s.hlp.fifo.length ≤ 4) : LinkInv (takeNext s) := by
  unfold takeNext; split
  · next e es hs hf =>
    have hl := linked_serve { s with hlp.fifo := es } e.req
    simp only [linked, Prod.mk.injEq] at hl
    rw [hf, List.length_cons] at h4
    exact ⟨by dsimp only; rw [hl.2]; dsimp only; omega, nofun⟩
  · next hn =>
    refine ⟨h4, fun hs => ?_⟩
    cases hf : s.hlp.fifo with
    | nil => rfl
    | cons e es => exact absurd hf (hn e es hs)

theorem held_takeNext (s : State) : Held (TakesRaw s) s (takeNext s) := by
  unfold takeNext; split
  · next e es hs hf =>
    have hv := held_serve { s with hlp.fifo := es } e.req
    exact ((held_hlp _ s _).trans (hv.weaken fun h => h e es hs hf)).trans (held_hlp ..)
  · exact held_refl ..

theorem pending_takeNext (s : State) : (takeNext s).pending = s.pending := by
  unfold takeNext; split
  · next e es hs hf =>
    have hl := linked_serve { s with hlp.fifo := es } e.req
    simp only [linked, Prod.mk.injEq] at hl
    exact hl.1
  · rfl

theorem work_discardFrame (p : Prop) (v : Int) (x : RxState) (s : State) :
    Work p s (discardFrame v { s with hlp.rx := x }) := by
  refine Work.trans (t := { s with hlp.rx := x }) (work_hlp p id) ?_
  exact .of_aside ((tame_latch (tame_refl _)).held cold_latch p) (by simp [discardFrame])

/-- What a frame or a request row brings: the request that HLP takes with it. -/
def AcceptRaw (tag : Nat) (r : Request) (s : State) : Prop :=
  ∀ e es, s.hlp.slot = none → s.hlp.fifo ++ [⟨tag, r⟩] = e :: es → TripRaw s e.req

theorem work_accept (tag : Nat) (r : Request) (s : State) : Work (AcceptRaw tag r s) s (accept tag r s) := by
  unfold accept; dsimp only; split
  · exact work_discardFrame ..
  · next hlen =>
    have k := held_takeNext { s with hlp.rx := .hunting, hlp.fifo := s.hlp.fifo ++ [⟨tag, r⟩] }
    refine ⟨(held_hlp (AcceptRaw tag r s) s _).trans (k.weaken id), fun _ => linkInv_takeNext ?_, pending_takeNext _⟩
    dsimp only; rw [List.length_append, List.length_singleton]; omega

/-! ## The KIND of a request that a frame spells (R211, R212) -/

theorem requestKind_parseEmpty {k : Nat} {r : Request} (h : requestKind r = k) (l : List Byte) :
    requestKind (parseEmpty k r l) = k := by
  unfold parseEmpty; split
  · exact h
  · rfl

theorem requestKind_parseAppend (l : List Byte) : requestKind (parseAppend l) = 0x10 := by
  unfold parseAppend; split
  · rfl
  split
  · rfl
  split <;> rfl

theorem requestKind_parseOverride (l : List Byte) : requestKind (parseOverride l) = 0x17 := by
  unfold parseOverride
  split
  · rfl
  · rfl
  split
  · rfl
  · rfl
  split
  · rfl
  · rfl
  split
  · rfl
  · rfl
  split <;> rfl

theorem requestKind_parseCoolant (l : List Byte) : requestKind (parseCoolant l) = 0x24 := by
  unfold parseCoolant; split
  · split
    · rfl
    · rfl
    · split <;> rfl
  · rfl

theorem requestKind_parseAck (l : List Byte) : requestKind (parseAck l) = 0x03 := by
  unfold parseAck; split
  · rfl
  split
  · split
    · split
      · split <;> rfl
      · rfl
    · rfl
  · split <;> rfl

theorem requestKind_parseCompLoad (l : List Byte) : requestKind (parseCompLoad l) = 0x1A := by
  unfold parseCompLoad; split
  · split
    · split <;> rfl
    · rfl
  · rfl

/-- A request is of the KIND of its frame. -/
theorem requestKind_parse (k : Nat) (l : List Byte) : requestKind (parseRequest k l) = k := by
  unfold parseRequest
  split
  iterate 2 exact requestKind_parseEmpty rfl l
  · exact requestKind_parseAck l
  iterate 2 exact requestKind_parseEmpty rfl l
  · split <;> rfl
  · split <;> rfl
  · exact requestKind_parseAppend l
  iterate 6 exact requestKind_parseEmpty rfl l
  · exact requestKind_parseOverride l
  · split <;> rfl
  · split <;> rfl
  · exact requestKind_parseCompLoad l
  iterate 4 (split <;> rfl)
  iterate 2 (split <;> rfl)
  iterate 2 exact requestKind_parseEmpty rfl l
  · exact requestKind_parseCoolant l
  · split
    · split <;> rfl
    · rfl
  iterate 4 exact requestKind_parseEmpty rfl l
  · rfl

/-! ## Frames -/

theorem work_frameRead (l : List Byte) (s : State) :
    Work (∀ tag r, (r = .resetTrip → l[1]? = some 0x04) → AcceptRaw tag r s) s (frameRead l s) := by
  have hd : ∀ v p, Work p s (discardFrame v { s with hlp.rx := .hunting }) := fun v p =>
    work_discardFrame p v .hunting s
  unfold frameRead; split
  · next len kind tag rest =>
    split
    · dsimp only
      split
      · exact hd ..
      split
      · exact hd ..
      split
      · exact hd ..
      · refine (work_accept ..).weaken fun h => h _ _ fun hr => ?_
        have hk := requestKind_parse kind.toNat (rest.take (len.toNat - 2))
        rw [hr] at hk
        exact congrArg some (BitVec.eq_of_toNat_eq hk.symm)
    · exact work_refl ..
  · exact work_refl ..

/-- A taken reply leaves the slot (R208, R211); RESTART's begins the teardown. -/
theorem work_replyDone {p : Prop} (s : State) (hr : restartWaits s = true → Work p s (restartTeardown s))
    (ht : p → ∀ e es, s.hlp.fifo = e :: es → TripRaw s e.req) : Work p s (replyDone s) := by
  unfold replyDone; split
  · split
    · next h => exact hr h
    · have k := held_takeNext { s with hlp.tx := none, hlp.slot := none }
      exact ⟨(held_hlp p s _).trans (k.weaken fun hp e es _ hf => ht hp e es hf), fun h => linkInv_takeNext h.1,
        pending_takeNext _⟩
  · exact work_hlp _ (l := { s.hlp with tx := none }) id
  · exact work_refl ..

theorem work_reportDone (p : Prop) (s : State) : Work p s (reportDone s) := by
  have hrq : ∀ (e : RptEntry) (es : List RptEntry) (l : HostLink), s.rq = e :: es → (LinkInv s → LinkInv { s with hlp := l }) →
      Work p s { s with hlp := l, rq := es } := fun e es l he hl =>
    ⟨⟨fun _ => id, fun h => ⟨by have := h.1; rw [he, List.length_cons] at this; dsimp only; omega, h.2⟩, id, id, id, id, id,
      fun _ h => h, fun _ h => h⟩, hl, rfl⟩
  unfold reportDone; split
  · split
    · next e es he =>
      have k := hrq e es { s.hlp with tx := none } he id
      dsimp only; split
      · exact k.trans (.of_aside ((tame_latch (tame_refl _)).held cold_latch p) (by simp))
      · exact k
    · exact work_hlp p (l := { s.hlp with tx := none }) id
  · exact work_hlp p (l := { s.hlp with tx := none }) id
  · exact work_refl ..

/-! ## The resets -/

/-- A state that meets every invariant. -/
theorem held_of_all {p : Prop} {s t : State} (hm : p → s.cn.machine = .tripped → t.cn.machine = .tripped)
    (hq : QueuesInv t) (hf : FlowInv t) (hd : DutyOff t.cu) (hn : NeverInv t) (hr : ReleasedFree t) (hh : HomingInv t)
    (ha : TrippedAxes t) (ho : TrippedOff t) : Held p s t :=
  ⟨hm, fun _ => hq, fun _ => hf, fun _ => hd, fun _ => hn, fun _ => hr, fun _ => hh, fun _ _ => ha, fun _ _ => ho⟩

theorem cold_reset : Cold State.reset :=
  ⟨rfl, rfl, fun a => by cases a <;> rfl, .inl rfl, rfl, rfl, rfl, .inl rfl, rfl, rfl, fun c => by cases c <;> exact .inl rfl⟩

theorem work_hardwareReset (p : Prop) (c : ResetCause) (a b : Bool) (pins : BitVec 32) (s : State) :
    Work p s (hardwareReset c a b pins s) := by
  have hst : ∀ c, (State.reset.cc.get c).st = .clamped := fun c => by cases c <;> rfl
  have hpol : ∀ c, (State.reset.cc.get c).policy ≠ .never := fun c => by cases c <;> decide
  have hax : ∀ a, (State.reset.ax.get a).phase = .none ∧ (State.reset.ax.get a).owner = .none := fun a => by
    cases a <;> exact ⟨rfl, rfl⟩
  refine ⟨held_of_all (fun _ _ => rfl) ⟨?_, ?_⟩ ?_ ?_ (fun d h => absurd h (hpol d)) (fun d _ h => ?_) (fun a => ?_)
    (fun _ a => ?_) ?_, fun _ => ⟨Nat.zero_le _, fun _ => rfl⟩, rfl⟩
  · exact (by decide : reportsReset.tail.length + 1 ≤ 32)
  · exact Nat.zero_le _
  · exact (by unfold FlowInv; decide : FlowInv State.reset)
  · exact fun _ _ => rfl
  · rw [show (hardwareReset c a b pins s).cc = State.reset.cc from rfl, hst] at h; simp at h
  · rw [show (hardwareReset c _ b pins s).ax = State.reset.ax from rfl, (hax a).1, (hax a).2]; decide
  · rw [show (hardwareReset c _ b pins s).ax = State.reset.ax from rfl, (hax a).1, (hax a).2]; decide
  · exact (trippedOff_iff _).2 fun _ => cold_reset.of_chilled rfl

/-! ## The teardown of a RESTART -/

/-- What a shift's teardown leaves alone. -/
def offShift (s : State) :=
  (s.pending, s.sq, s.pi, s.ax, s.cs, s.cc, s.cu, s.pp, s.inp, s.am, s.cn, s.rq, s.hlp, s.hs.st)

theorem offShift_shiftTeardown {s : State} (h : s.sq.st = .idle) : offShift (shiftTeardown s) = offShift s := by
  have h1 : offShift (hydWithdraw .gear (hydReturn .gear s)) = offShift s := by
    unfold hydReturn; split
    · split <;> rfl
    · rfl
  have h2 : ∀ u, u.sq.st = .idle → offShift (spindleOff u) = offShift u := fun u hu => by rw [spindleOff_of_idle hu]; rfl
  have h3 : ∀ u, offShift (gearAfterAbandon u) = offShift u := fun u => by unfold gearAfterAbandon; split <;> rfl
  have hst : (hydWithdraw .gear (hydReturn .gear s)).sq.st = .idle := by simpa using h
  unfold shiftTeardown; dsimp only
  split
  · exact (h3 _).trans ((h2 _ hst).trans h1)
  · exact (h3 _).trans h1

theorem offShift_restartSgu {s : State} (h : s.sq.st = .idle) : offShift (restartSgu s) = offShift s := by
  unfold restartSgu; dsimp only; split
  · exact offShift_shiftTeardown h
  · rfl

/-- The state that a RESTART's teardown has torn down, before the entries are raised again. -/
def tornDown (s : State) : State := restartMachine (restartReports (restartBlocks (restartLink s)))

/-- The fields that the teardown leaves. -/
theorem tornDown_fields (s : State) :
    (tornDown s).sq = { SegQueue.reset with flowHigh := s.sq.flowHigh, flowLow := s.sq.flowLow } ∧
      (tornDown s).cc = s.cc.map (fun _ k => tripClamp k) ∧ (tornDown s).cu = .cleared s.cu.p ∧
      (tornDown s).inp = s.inp ∧ (tornDown s).hs.st = .pumpOff ∧ (tornDown s).pending = s.pending ∧
      (tornDown s).ax = s.ax.map (fun a k => restartAxis (s.cs.get a).c k) ∧ (tornDown s).hlp.fifo = [] ∧
      (tornDown s).rq.length = 1 ∧
      (tornDown s).cn.machine = if inputOn s 0 && inputOn s 1 then .ready else .tripped := by
  have e := offShift_restartSgu (s := clampsTrip (coolantTrip (piDrop (restartSq (restartLink s))))) rfl
  simp only [offShift, Prod.mk.injEq] at e
  obtain ⟨hpend, hsq, -, hax, hcs, hcc, hcu, -, hinp, -, -, -, hhlp, hhs⟩ := e
  have hin : ∀ n, inputOn (tornDown s) n = inputOn s n := fun n => by
    unfold inputOn tornDown restartMachine restartReports restartBlocks restartPendant restartAxes
    simp only [queueReport_inp, mapAx_inp, hinp]; rfl
  refine ⟨?_, ?_, ?_, ?_, ?_, ?_, ?_, ?_, ?_, ?_⟩ <;>
    unfold tornDown restartMachine restartReports restartBlocks restartPendant restartAxes
  · simp only [queueReport_sq, mapAx_sq, hsq]; rfl
  · simp only [queueReport_cc, mapAx_cc, hcc]; rfl
  · simp only [queueReport_cu, mapAx_cu, hcu]; rfl
  · simp only [queueReport_inp, mapAx_inp, hinp]; rfl
  · simp only [queueReport_hs, mapAx_hs, hhs]; rfl
  · simp only [queueReport_pending, mapAx_pending, hpend]; rfl
  · simp only [queueReport_ax, mapAx_ax, hax, hcs]; rfl
  · simp only [queueReport_hlp, mapAx_hlp, hhlp]; rfl
  · simp only [queueReport, List.length_nil]; rfl
  · have h0 := hin 0
    have h1 := hin 1
    unfold inputOn tornDown restartMachine restartReports restartBlocks restartPendant restartAxes at h0 h1
    simp only [queueReport_inp, mapAx_inp] at h0 h1
    simp only [inputOn, queueReport_inp, mapAx_inp, h0, h1]
    rfl

theorem tornDown_sgu (s : State) : (tornDown s).sgu.reqSpeed = 0 ∧ (tornDown s).sgu.target = 0 ∧
    (tornDown s).sgu.out = 0 ∧ (tornDown s).sgu.shift = none ∧
    ((tornDown s).sgu.st = .off ∨ (tornDown s).sgu.st = .fault) := by
  have e : (tornDown s).sgu = (restartSgu (clampsTrip (coolantTrip (piDrop (restartSq (restartLink s)))))).sgu := by
    unfold tornDown restartMachine restartReports restartBlocks restartPendant restartAxes
    simp only [queueReport_sgu, mapAx_sgu]
  rw [e]
  refine ⟨rfl, rfl, rfl, rfl, ?_⟩
  unfold restartSgu; dsimp only; split
  · exact .inr rfl
  · exact .inl rfl

theorem work_tornDown (s : State) : Work (¬ (inputOn s 0 = true ∧ inputOn s 1 = true)) s (tornDown s) := by
  obtain ⟨hsq, hcc, hcu, hinp, hhs, hpend, hax, hfifo, hrq, hm⟩ := tornDown_fields s
  obtain ⟨g1, g2, g3, g4, g5⟩ := tornDown_sgu s
  have hk := fun c => clampTame_trip (clampedSensor s c) (s.cc.get c)
  have hsens : ∀ c, clampedSensor (tornDown s) c = clampedSensor s c := fun c => by
    simp only [clampedSensor_eq, inputOn, hinp]
  have haxq : ∀ a, HomingOwn ((tornDown s).ax.get a) ∧ AxisQuiet ((tornDown s).ax.get a) ∧
      ((tornDown s).ax.get a).out = 0 := fun a => by
    rw [hax, PerAxis.get_map]
    exact ⟨⟨nofun, fun h => absurd rfl h⟩, ⟨rfl, nofun, nofun⟩, rfl⟩
  refine ⟨⟨fun h ht => ?_, fun _ => ⟨by omega, ?_⟩, ?_, fun _ _ _ => ?_, fun hn c => ?_, fun hf c => ?_,
    fun _ a => (haxq a).1, fun _ _ _ a => (haxq a).2.1, fun hn _ => (trippedOff_iff _).2 fun ht => ?_⟩,
    fun _ => ⟨by rw [hfifo]; exact Nat.zero_le _, fun _ => hfifo⟩, hpend⟩
  · rw [hm, if_neg (by simpa using h)]
  · rw [hsq]; exact Nat.zero_le _
  · unfold FlowInv; rw [hsq]; exact id
  · rw [hcu]; rfl
  · rw [hcc, PerClamp.get_map]; exact (hk c).1 (hn c)
  · rw [hcc, PerClamp.get_map, hsens]; exact (hk c).2 (hf c)
  · exact ⟨ht, by rw [hsq]; rfl, fun a => (haxq a).2.2, g5, g1, g2, g3, .inl g4, by rw [hcu]; rfl, hhs,
      fun c => by rw [hcc, PerClamp.get_map]; exact tripClamp_off (hn c)⟩

/-! ## The rebuild and the reports of the blocks -/

theorem kept_riseLevel (c : Cond) (v : Int) (s : State) : Kept s (riseLevel c v s) := by
  unfold riseLevel; split
  · exact (tame_riseNote (tame_refl s)).kept cold_riseNote
  · exact (tame_riseHold (tame_refl s)).kept cold_riseHold
  · exact (tame_riseStop (tame_refl s)).kept cold_riseStop
  · exact kept_riseTrip ..

theorem aside_riseLevel (c : Cond) (v : Int) (s : State) : aside (riseLevel c v s) = aside s := by
  unfold riseLevel; split <;> simp

theorem kept_rebuildEntry (s : State) (c : Cond) : Kept s (rebuildEntry s c) := by
  unfold rebuildEntry; split
  · exact kept_riseLevel ..
  · exact kept_refl s

theorem aside_rebuildEntry (s : State) (c : Cond) : aside (rebuildEntry s c) = aside s := by
  unfold rebuildEntry; split
  · exact aside_riseLevel ..
  · rfl

theorem kept_queueReport (k : Report) (s : State) : Kept s (queueReport k s) :=
  (tame_queueReport (tame_refl s)).kept cold_queueReport

theorem kept_restartHome (old s : State) (a : Axis) : Kept s (restartHome old s a) := by
  have hf : ∀ (r : HomeReason) ph, Kept s (queueReport (.homeDone a (.failed r ph))
      (latch (.referenceFailed a) 0 r.num s)) := fun r ph =>
    ((tame_latch (tame_refl s)).kept cold_latch).trans (kept_queueReport ..)
  unfold restartHome; dsimp only; split
  · exact kept_refl s
  · exact kept_queueReport ..
  · split
    · exact hf ..
    · exact kept_refl s
  · exact hf ..

theorem aside_restartHome (old s : State) (a : Axis) : aside (restartHome old s a) = aside s := by
  unfold restartHome; dsimp only; split
  · rfl
  · simp
  · split <;> simp
  · simp

theorem kept_restartGear (old s : State) : Kept s (restartGear old s) := by
  unfold restartGear; split
  · split
    · exact kept_queueReport ..
    · exact kept_refl s
  · exact kept_refl s

theorem aside_restartGear (old s : State) : aside (restartGear old s) = aside s := by
  unfold restartGear; split
  · split <;> simp
  · rfl

theorem kept_restartTest (old s : State) : Kept s (restartTest old s) := by
  unfold restartTest; split
  · exact kept_queueReport ..
  · exact kept_refl s

theorem aside_restartTest (old s : State) : aside (restartTest old s) = aside s := by
  unfold restartTest; split <;> simp

/-- A RESTART leaves TRIPPED only with both inputs on. -/
theorem work_restartTeardown (s : State) :
    Work (¬ (inputOn s 0 = true ∧ inputOn s 1 = true)) s (restartTeardown s) := by
  refine (work_tornDown s).trans ?_
  have e : restartTeardown s = restartTest s (restartGear s (allAxes.foldl (restartHome s)
      ((allConds.filter Cond.level).foldl rebuildEntry (tornDown s)))) := rfl
  rw [e]
  have k1 : Kept (tornDown s) ((allConds.filter Cond.level).foldl rebuildEntry (tornDown s)) :=
    kept_foldl kept_rebuildEntry _ (kept_refl _)
  have a1 := aside_foldl rebuildEntry aside_rebuildEntry (allConds.filter Cond.level) (tornDown s)
  have k2 := kept_foldl (kept_restartHome s) allAxes k1
  have a2 := aside_foldl (restartHome s) (aside_restartHome s) allAxes
    ((allConds.filter Cond.level).foldl rebuildEntry (tornDown s))
  exact .of_aside (((k2.trans (kept_restartGear s _)).trans (kept_restartTest s _)).held _)
    (by rw [aside_restartTest, aside_restartGear, a2, a1])

end Sys2Proof.Machine
end

section
/-! SUPPORT. Every command's work, command by command. -/

namespace Sys2Proof.Machine

theorem Work.of_tame {p : Prop} {s t : State} (k : Tame s t) (c : Cold s → Cold t) (a : aside t = aside s) : Work p s t :=
  .of_aside (k.held c p) a

/-! ## Queue and path -/

theorem work_moveGo (p : Prop) (s : State) : Work p s (moveGo s) := by
  have hc : Cold s → moveReady s = none := fun h => by
    unfold moveReady; split
    · rw [if_neg (fun e => by rw [h.idle] at e; cases e.1)]
    · rfl
  unfold moveGo; split
  · next e => exact .of_tame (tame_moveStep4 (tame_refl s)) (fun h => by rw [hc h] at e; cases e) (aside_moveStep4 ..)
  · exact work_refl p s

theorem work_dwellOver (p : Prop) (s : State) : Work p s (whenDue (dwellOver s) completeHead s) :=
  work_whenDue fun e => .of_tame (tame_completeHead (tame_refl s))
    (fun h => by
      unfold dwellOver at e; split at e
      · rw [h.idle] at e; simp at e
      · cases e)
    (aside_completeHead s)

/-! ## Clamps and supply -/

theorem work_idleClamp (p : Prop) (c : ClampAxis) (s : State) :
    Work p s (whenDue (idleDue s c) (idleClampStep c) s) :=
  work_whenDue fun _ => .of_tame (tame_clampNeed ((tame_refl s).of_clamp c (clampTame_of_eq rfl rfl rfl)))
    (fun h => by
      have k : Cold (updClamp c (fun k => { k with idle := 0 }) s) := h.of_clamp (h.clamps c)
      unfold idleClampStep; rw [clampNeed_of_tripped k.tripped]; exact k)
    (aside_clampNeed ..)

theorem work_clampTimedOut {p : Prop} {c : ClampAxis} {v : Int} {s : State} (h : (s.cc.get c).st ≠ .released) :
    Work p s (clampTimedOut c v s) :=
  .of_tame (tame_clampTimedOut h (tame_refl s)) cold_clampTimedOut (aside_clampTimedOut ..)

theorem work_releaseTimeout (p : Prop) (c : ClampAxis) (s : State) :
    Work p s (whenDue (releaseDue s c) (clampTimedOut c 0) s) :=
  work_whenDue fun e => work_clampTimedOut fun hr => by unfold releaseDue at e; rw [hr] at e; simp at e

theorem work_clampTimeout (p : Prop) (c : ClampAxis) (s : State) :
    Work p s (whenDue (clampDue s c) (clampTimedOut c 1) s) :=
  work_whenDue fun e => work_clampTimedOut fun hr => by unfold clampDue at e; rw [hr] at e; simp at e

theorem work_hydStart (p : Prop) (s : State) : Work p s (whenDue (startDue s) (supplyLow 0) s) :=
  work_whenDue fun e => .of_tame (tame_supplyLow (tame_refl s))
    (fun h => by unfold startDue at e; rw [h.pump] at e; simp at e) (aside_supplyLow ..)

/-! ## Spindle and gear -/

theorem Cold.noShift {s : State} (h : Cold s) (hs : shifting s = true) : s.sgu.shift = none :=
  h.shift.resolve_right (by rw [hs]; decide)

theorem work_strokeTimeout (p : Prop) (s : State) : Work p s (whenDue (strokeDue s) enterMeshing s) :=
  work_whenDue fun e => .of_tame (tame_enterMeshing (tame_refl s))
    (fun h => by
      have hs := h.noShift (by unfold strokeDue at e; unfold shifting; cases hg : s.sgu.gear <;> simp [hg] at e ⊢)
      unfold enterMeshing; rw [hs]; exact h)
    (aside_enterMeshing s)

theorem work_meshDwellEnd (p : Prop) (s : State) : Work p s (whenDue (meshDue s) dwellNext s) :=
  work_whenDue fun e => .of_tame
    (by
      unfold dwellNext; split
      · split
        · exact tame_shiftFail (tame_refl s)
        · exact tame_nextAttempt (tame_refl s)
      · exact tame_refl s)
    (fun h => by
      have hs := h.noShift (by unfold meshDue at e; unfold shifting; cases hg : s.sgu.gear <;> simp [hg] at e ⊢)
      unfold dwellNext; rw [hs]; exact h)
    (by
      unfold dwellNext; split
      · split
        · exact aside_shiftFail ..
        · exact aside_nextAttempt s
      · rfl)

theorem work_settleTime (p : Prop) (s : State) : Work p s (whenDue (settleDue s) shiftSuccess s) :=
  work_whenDue fun e => .of_tame (tame_shiftSuccess (tame_refl s))
    (fun h => by
      have hs := h.noShift (by unfold settleDue at e; unfold shifting; cases hg : s.sgu.gear <;> simp [hg] at e ⊢)
      unfold shiftSuccess; rw [hs]; exact h)
    (aside_shiftSuccess s)

theorem work_shiftFail (p : Prop) (r : ShiftReason) (b : Bool) (s : State) : Work p s (whenDue b (shiftFail r) s) :=
  work_whenDue fun _ => .of_tame (tame_shiftFail (tame_refl s)) cold_shiftFail (aside_shiftFail ..)

theorem work_overload (p : Prop) (s : State) : Work p s (whenDue (overloadDue s) overloadRaise s) :=
  work_whenDue fun _ => .of_tame (tame_raiseStop ((tame_refl s).of_vital rfl))
    (fun h => cold_raiseStop (h.of_chilled rfl)) (aside_raiseStop ..)

/-! ## Coolant -/

/-- A coolant timer's work: none of these timers runs in TRIPPED. -/
theorem work_coolantTimer {p : Prop} {x : Timer} {f : State → State} {s : State} (hx : Cold s → x = .stopped)
    (ht : Tame s (f s)) (ha : aside (f s) = aside s) : Work p s (whenDue x.due f s) :=
  work_whenDue fun e => .of_tame ht (fun h => by rw [hx h] at e; cases e) ha

/-! ## The commands -/

/-- The command leaves TRIPPED: a RESET_TRIP that is taken, or the teardown of a RESTART with both inputs on. -/
def Leaves (c : Instr) (s : State) : Prop :=
  (rawOf s .estopOpen = false ∧ rawOf s .drivesNotReady = false ∧
      ((∃ tag, c = .resetTrip tag) ∨ (∃ b, c = .hostFrameReceived b ∧ b[1]? = some 0x04) ∨
        (c = .replySent ∧ ∃ e es, s.hlp.fifo = e :: es ∧ e.req = .resetTrip))) ∨
    (inputOn s 0 = true ∧ inputOn s 1 = true ∧ restartWaits s = true ∧ (c = .replySent ∨ c = .restartTeardown))

/-- The command is none that leaves TRIPPED. -/
def Stays (c : Instr) (s : State) : Prop := LinkInv s ∧ ¬ Leaves c s

theorem tripRaw_of_stays {c : Instr} {s : State} {r : Request} (h : Stays c s)
    (hc : r = .resetTrip → (∃ tag, c = .resetTrip tag) ∨ (∃ b, c = .hostFrameReceived b ∧ b[1]? = some 0x04) ∨
        (c = .replySent ∧ ∃ e es, s.hlp.fifo = e :: es ∧ e.req = .resetTrip)) : TripRaw s r := fun hr => by
  by_contra hn
  rw [not_or, Bool.not_eq_true, Bool.not_eq_true] at hn
  exact h.2 (.inl ⟨hn.1, hn.2, hc hr⟩)

theorem acceptRaw_of_stays {c : Instr} {s : State} {tag : Nat} {r : Request} (h : Stays c s)
    (hc : r = .resetTrip → (∃ tag, c = .resetTrip tag) ∨ (∃ b, c = .hostFrameReceived b ∧ b[1]? = some 0x04)) :
    AcceptRaw tag r s := fun e es hs he => by
  rw [h.1.2 hs, List.nil_append, List.cons.injEq] at he
  rw [← he.1]
  exact tripRaw_of_stays h fun hr => (hc hr).imp_right .inl

/-- A request row is the request that its frame carries. -/
theorem exec_request {c : Instr} {tag : Nat} {r : Request} (h : requestOf c = some (tag, r)) (s : State) :
    exec c s = done (accept tag r s) := by
  cases c <;> cases h <;> rfl

theorem resetTrip_of_requestOf {c : Instr} {tag : Nat} (h : requestOf c = some (tag, .resetTrip)) :
    ∃ tag, c = .resetTrip tag := by
  cases c <;> simp [requestOf] at h
  exact ⟨_, rfl⟩

theorem work_request {c : Instr} {tag : Nat} {r : Request} (h : requestOf c = some (tag, r)) (s : State) :
    Work (Stays c s) s (accept tag r s) :=
  (work_accept tag r s).weaken fun k => acceptRaw_of_stays k fun hr => .inl (resetTrip_of_requestOf (hr ▸ h))

/-- What a command's work is, and that its event ends behind it. -/
theorem exec_work (c : Instr) (s : State) :
    ∃ u, Work (Stays c s) s u ∧ (exec c s = done u ∨ exec c s = .next (snapAll (finish u))) := by
  cases hr : requestOf c with
  | some x => exact ⟨_, work_request hr s, .inl (exec_request hr s)⟩
  | none =>
    have hd : ∀ u, Work (Stays c s) s u → exec c s = done u →
        ∃ u, Work (Stays c s) s u ∧ (exec c s = done u ∨ exec c s = .next (snapAll (finish u))) :=
      fun u h e => ⟨u, h, .inl e⟩
    cases c with
    | hardwareReset a b d pins => exact hd _ (work_hardwareReset ..) rfl
    | hostFrameReceived l =>
      refine hd _ ((work_frameRead l s).weaken fun k tag r hl => acceptRaw_of_stays k fun hr => .inr ⟨l, rfl, hl hr⟩) rfl
    | frameGapTimeout b => exact hd _ (work_discardFrame ..) rfl
    | lengthOutOfRange b =>
      refine hd _ ?_ rfl
      split
      · exact work_discardFrame ..
      · exact work_refl ..
    | replySent =>
      refine hd _ (work_replyDone s (fun hw => (work_restartTeardown s).weaken fun k hi => ?_) fun k e es he => ?_) rfl
      · exact k.2 (.inr ⟨hi.1, hi.2, hw, .inl rfl⟩)
      · exact tripRaw_of_stays k fun hr => .inr (.inr ⟨rfl, e, es, he, hr⟩)
    | reportSent => exact hd _ (work_reportDone ..) rfl
    | restartTeardown =>
      have h : ∀ b : Bool, Work (Stays .restartTeardown s) s (if restartWaits s && b then restartTeardown s else s) :=
        fun b => by
          split
          · next hw =>
            rw [Bool.and_eq_true] at hw
            exact (work_restartTeardown s).weaken fun k hi => k.2 (.inr ⟨hi.1, hi.2, hw.1, .inr rfl⟩)
          · exact work_refl ..
      exact hd _ (h _) rfl
    | moveStart => exact hd _ (work_moveGo ..) rfl
    | pathPeriod => exact ⟨_, .of_linked ((kept_periodWork s).held _) (linked_periodWork s), .inr rfl⟩
    | dwellEnd => exact hd _ (work_dwellOver ..) rfl
    | encoderEdge a b =>
      refine hd _ (.of_tame ((tame_refl s).of_axis a ?_) (fun h => h.of_axis (h.outs a)) (aside_updAx ..)) rfl
      exact axisTame_of_eq rfl rfl
    | axisIndexEdge a =>
      refine hd _ (.of_tame ((tame_refl s).of_axis a ?_) (fun h => h.of_axis (h.outs a)) (aside_updAx ..)) rfl
      exact axisTame_of_eq rfl rfl
    | spindleEncoderEdge b =>
      exact hd (spindleCount b s) (.of_tame ((tame_refl s).of_vital rfl) (fun h => h.of_chilled rfl) rfl) rfl
    | spindleIndexEdge =>
      exact hd (spindleIndex s) (.of_tame ((tame_refl s).of_vital rfl) (fun h => h.of_chilled rfl) rfl) rfl
    | inputRawChange n b => exact hd _ (.of_linked (held_rawChange ..) (linked_rawChange ..)) rfl
    | inputFilterTimeReached n => exact hd _ (.of_linked (held_filterStep ..) (linked_filterStep ..)) rfl
    | analogConversion n =>
      exact hd _ (.of_linked ((tame_conversion (tame_refl s)).held cold_conversion _) (linked_conversion ..)) rfl
    | idleClamp c => exact hd _ (work_idleClamp ..) rfl
    | releaseTimeout c => exact hd _ (work_releaseTimeout ..) rfl
    | clampTimeout c => exact hd _ (work_clampTimeout ..) rfl
    | pumpOffDelay =>
      exact hd _ (work_whenDue fun _ => .of_tame (tame_pumpStop (tame_refl s)) cold_pumpStop (aside_pumpStop s)) rfl
    | hydStartTimeout => exact hd _ (work_hydStart ..) rfl
    | prepareTimeout => exact hd _ (work_shiftFail ..) rfl
    | positionTimeout => exact hd _ (work_shiftFail ..) rfl
    | strokeTimeout => exact hd _ (work_strokeTimeout ..) rfl
    | meshDwellEnd => exact hd _ (work_meshDwellEnd ..) rfl
    | settleTimeReached => exact hd _ (work_settleTime ..) rfl
    | spindleOverload => exact hd _ (work_overload ..) rfl
    | oilGraceEnd =>
      exact hd _ (work_whenDue fun _ => .of_tame ((tame_refl s).of_vital rfl) (fun h => h.of_chilled rfl) rfl) rfl
    | floodProveTimeout =>
      exact hd _ (work_coolantTimer (fun h => by rw [h.coolant]; rfl) (tame_floodFault (tame_refl s))
        (aside_floodFault ..)) rfl
    | floodDryTimeout =>
      exact hd _ (work_coolantTimer (fun h => by rw [h.coolant]; rfl) (tame_floodFault (tame_refl s))
        (aside_floodFault ..)) rfl
    | tscRampTimeout =>
      exact hd _ (work_coolantTimer (fun h => by rw [h.coolant]; rfl) (tame_tscFault (tame_refl s))
        (aside_tscFault ..)) rfl
    | suspendKeepEnd =>
      exact hd _ (work_coolantTimer (fun h => by rw [h.coolant]; rfl) ((tame_refl s).of_cu (u := keepOver s) id rfl) rfl)
        rfl
    | purgeEnd =>
      exact hd _ (work_coolantTimer (fun h => by rw [h.coolant]; rfl) (tame_purgeDone (tame_refl s))
        (aside_purgeDone s)) rfl
    | tscDryTimeout =>
      exact hd _ (work_coolantTimer (fun h => by rw [h.coolant]; rfl) (tame_tscFault (tame_refl s))
        (aside_tscFault ..)) rfl
    | pendantFrame l =>
      refine hd _ (.of_tame (tame_pendantRead (tame_refl s)) cold_pendantRead ?_) rfl
      unfold pendantRead; split
      · rfl
      · dsimp only; split
        · rw [aside_takeFrame]; rfl
        · rfl
    | pendantFrameGap b =>
      exact hd _ (work_whenDue fun _ => .of_tame ((tame_refl s).of_vital rfl) (fun h => h.of_chilled rfl) rfl) rfl
    | handwheelInterval =>
      exact hd _ (work_whenDue fun _ => .of_tame (tame_startInterval (tame_refl s)) (fun h => h.of_chilled rfl) rfl) rfl
    | pendantAnswerSent =>
      exact hd { s with pp.tx := none } (.of_tame ((tame_refl s).of_vital rfl) (fun h => h.of_chilled rfl) rfl) rfl
    | pendantTimeout =>
      exact hd _ (work_whenDue fun _ => .of_tame (tame_pendantLost (tame_refl s)) cold_pendantLost
        (aside_pendantLost s)) rfl
    | enableMismatch =>
      exact hd _ (work_whenDue fun _ => .of_tame (tame_mismatchRaise (tame_refl s)) cold_mismatchRaise
        (aside_mismatchRaise s)) rfl
    | refuseTimerEnd =>
      exact hd _ (work_whenDue fun _ => .of_tame ((tame_refl s).of_vital rfl) (fun h => h.of_chilled rfl) rfl) rfl
    | clipTimerEnd =>
      exact hd _ (work_whenDue fun _ => .of_tame ((tame_refl s).of_vital rfl) (fun h => h.of_chilled rfl) rfl) rfl
    | lineTestWaitEnd =>
      exact hd _ (work_whenDue fun _ => .of_tame ((tame_refl s).of_vital rfl) (fun h => h.of_chilled rfl) rfl) rfl
    | lineTestActivity =>
      exact hd _ (work_whenDue fun _ => .of_tame (tame_endLineTest (tame_refl s)) cold_endLineTest
        (aside_endLineTest ..)) rfl
    | lineTestListenEnd =>
      exact hd _ (work_whenDue fun _ => .of_tame ((tame_refl s).of_vital rfl) (fun h => h.of_chilled rfl) rfl) rfl
    | lineTestReflection ns b =>
      exact hd _ (work_whenDue fun _ => .of_tame (tame_endLineTest (tame_refl s)) cold_endLineTest
        (aside_endLineTest ..)) rfl
    | lineTestEchoWindowEnd =>
      exact hd _ (work_whenDue fun _ => .of_tame (tame_endLineTest (tame_refl s)) cold_endLineTest
        (aside_endLineTest ..)) rfl
    | _ => cases hr

/-! ## The end of the event, and a millisecond -/

theorem held_finish (p : Prop) (s : State) : Held p s (finish s) := (tame_finish (tame_refl s)).held cold_finish p

theorem held_snapAll (p : Prop) (s : State) : Held p s (snapAll s) := (tame_snapAll (tame_refl s)).held cold_snapAll p

theorem finish_link (s : State) :
    (finish s).pending = s.pending ∧ (finish s).hlp.fifo = s.hlp.fifo ∧ (finish s).hlp.slot = s.hlp.slot := by
  have e := aside_finish s
  simp only [aside, Prod.mk.injEq] at e
  obtain ⟨hp, -, -, -, hl⟩ := e
  exact ⟨hp, by rw [hl], by rw [hl]⟩

theorem work_finish (p : Prop) (s : State) : Work p s (finish s) := by
  obtain ⟨hp, hf, hs⟩ := finish_link s
  exact ⟨held_finish p s, by unfold LinkInv; rw [hf, hs]; exact id, hp⟩

/-- What a command does with its event. -/
theorem work_exec {c : Instr} {s t : State} (h : exec c s = .next t) : Work (Stays c s) s t := by
  obtain ⟨u, hw, e | e⟩ := exec_work c s
  · rw [e] at h; cases h; exact hw.trans (work_finish _ u)
  · rw [e] at h; cases h
    exact (hw.trans (work_finish _ u)).trans (.of_aside (held_snapAll ..) (aside_snapAll _))

theorem Timer.tick_stopped : Timer.tick .stopped = .stopped := rfl

theorem tick_eq (s : State) : ∃ l, tick s = { tickTimers s with pending := l } := ⟨_, rfl⟩

theorem tick_clamp (s : State) (c : ClampAxis) :
    ((tick s).cc.get c).st = (s.cc.get c).st ∧ ((tick s).cc.get c).fromFault = (s.cc.get c).fromFault ∧
      ((tick s).cc.get c).policy = (s.cc.get c).policy := by
  obtain ⟨l, e⟩ := tick_eq s
  have ecc : (tick s).cc = (tickClamps s).cc := by rw [e]; rfl
  rw [ecc]; unfold tickClamps; dsimp only; rw [PerClamp.get_map]; exact ⟨rfl, rfl, rfl⟩

theorem inputOn_tick (s : State) (n : Fin 32) : inputOn (tick s) n = inputOn s n := by
  obtain ⟨l, e⟩ := tick_eq s
  have ei : (tick s).inp = (tickInputs s).inp := by rw [e]; rfl
  unfold inputOn; rw [ei]; simp [tickInputs]

/-- What a millisecond leaves alone. -/
theorem tick_keeps (s : State) : (tick s).cn = s.cn ∧ (tick s).sq = s.sq ∧ (tick s).ax = s.ax ∧ (tick s).rq = s.rq ∧
    (tick s).hs.st = s.hs.st ∧ (tick s).hlp.fifo = s.hlp.fifo ∧ (tick s).hlp.slot = s.hlp.slot ∧
    (tick s).cu = (tickCoolant s).cu := by
  obtain ⟨l, e⟩ := tick_eq s
  rw [e]
  simp only [tickTimers, tickMs, tickInputs, tickPendant, tickCoolant, tickSgu, tickHyd, tickClamps, and_self]

theorem tick_sgu (s : State) : (tick s).sgu.st = s.sgu.st ∧ (tick s).sgu.reqSpeed = s.sgu.reqSpeed ∧
    (tick s).sgu.target = s.sgu.target ∧ (tick s).sgu.out = s.sgu.out ∧ (tick s).sgu.shift = s.sgu.shift ∧
    (tick s).sgu.gear = s.sgu.gear ∧ (tick s).sgu.sAct = s.sgu.sAct := by
  obtain ⟨l, e⟩ := tick_eq s
  rw [e]
  simp only [tickTimers, tickMs, tickInputs, tickPendant, tickCoolant, tickSgu, tickHyd, tickClamps, and_self]

theorem cold_tick {s : State} (k : Cold s) : Cold (tick s) := by
  obtain ⟨hcn, hsq, hax, -, hhs, -, -, hcu⟩ := tick_keeps s
  obtain ⟨h1, h2, h3, h4, h5, h6, -⟩ := tick_sgu s
  constructor
  · rw [hcn]; exact k.tripped
  · rw [hsq]; exact k.idle
  · rw [hax]; exact k.outs
  · rw [h1]; exact k.spindle
  · rw [h2]; exact k.speed
  · rw [h3]; exact k.target
  · rw [h4]; exact k.out
  · rw [h5, shifting_of_gear h6]; exact k.shift
  · rw [hcu]; unfold tickCoolant; dsimp only; rw [k.coolant]; rfl
  · rw [hhs]; exact k.pump
  · intro c; rw [(tick_clamp s c).1]; exact k.clamps c

/-- A millisecond keeps the invariants: it counts timers. -/
theorem held_tick (s : State) : Held True s (tick s) := by
  have hs : ∀ d, clampedSensor (tick s) d = clampedSensor s d := fun d => by
    rw [clampedSensor_eq, clampedSensor_eq, inputOn_tick]
  obtain ⟨hcn, hsq, hax, hrq, -, -, -, hcu⟩ := tick_keeps s
  constructor
  · intro _ h; rw [hcn]; exact h
  · unfold QueuesInv; rw [hrq, hsq]; exact id
  · unfold FlowInv; rw [hsq]; exact id
  · rw [hcu]; exact id
  · intro h c; rw [(tick_clamp s c).2.2, (tick_clamp s c).1]; exact h c
  · intro h c
    rw [(tick_clamp s c).2.2, (tick_clamp s c).1, (tick_clamp s c).2.1, hs]; exact h c
  · unfold HomingInv; rw [hax]; exact id
  · unfold TrippedAxes; rw [hax, hcn]; exact fun _ h => h
  · intro _ h
    exact (trippedOff_iff _).2 fun ht => cold_tick ((trippedOff_iff s).1 h (hcn ▸ ht))

theorem linkInv_tick {s : State} (h : LinkInv s) : LinkInv (tick s) := by
  obtain ⟨-, -, -, -, -, hf, hs, -⟩ := tick_keeps s
  unfold LinkInv; rw [hf, hs]; exact h

/-- What a step keeps. -/
theorem held_step {s t : State} (h : step s = .next t) : Held False s t := by
  unfold step at h; split at h
  · next c rest _ => exact ⟨False.elim, (work_exec h).held.queues, (work_exec h).held.flow, (work_exec h).held.duty,
      (work_exec h).held.never, (work_exec h).held.free, (work_exec h).held.homing, (work_exec h).held.quiet,
      (work_exec h).held.off⟩
  · cases h; exact (held_tick s).weaken False.elim

theorem linkInv_step {s t : State} (hi : LinkInv s) (h : step s = .next t) : LinkInv t := by
  unfold step at h; split at h
  · exact (work_exec h).link hi
  · cases h; exact linkInv_tick hi

end Sys2Proof.Machine
end

section
/-! CLAIMS. The invariants that every step keeps, that every command completes, and how TRIPPED is left. -/

namespace Sys2Proof.Machine

/-- At the end of every command TSC flows only under its permit (R146). -/
theorem permit_of_exec {c : Instr} {s t : State} (h : exec c s = .next t) : tscFlows t = true → permit t = true := by
  have key : ∀ u, tscFlows (finish u) = true → permit (finish u) = true := fun u hf => by
    by_contra hp
    exact finish_tsc u ⟨hf, by simpa using hp⟩
  obtain ⟨u, -, e | e⟩ := exec_work c s
  · rw [e] at h; cases h; exact key u
  · rw [e] at h; cases h; exact key u

theorem dutyOff_iff (s : State) : DutyOff s.cu ↔ (tscFlows s = false → s.cu.duty = 0) := by
  unfold DutyOff tscFlows
  cases s.cu.tsc <;> simp

/-- Settles O57: the end of a command stops a TSC without its permit, and a millisecond changes nothing it reads. -/
theorem everyStepKeepsTheTscInterlock : Obligations.EveryStepKeepsTheTscInterlock := by
  refine ⟨fun s t h hs => ⟨?_, (dutyOff_iff t).1 ((held_step hs).duty ((dutyOff_iff s).2 h.2))⟩,
    fun _ _ _ => permit_of_exec⟩
  unfold step at hs; split at hs
  · exact permit_of_exec hs
  · cases hs
    obtain ⟨-, -, -, -, -, -, -, hcu⟩ := tick_keeps s
    obtain ⟨h1, -, -, -, -, h6, h7⟩ := tick_sgu s
    have hflow : tscFlows (tick s) = tscFlows s := by unfold tscFlows; rw [hcu]; rfl
    have hpermit : permit (tick s) = permit s := by
      unfold permit engagedRange turning; rw [h1, h6, h7, hcu]; rfl
    rw [hflow, hpermit]; exact h.1

/-- Settles O58: the link takes a request only into a FIFO of less than 4, a report only into a queue of less than 32,
and records only into the room that the queue has. -/
theorem everyStepKeepsTheQueuesBounded : Obligations.EveryStepKeepsTheQueuesBounded :=
  fun _ _ hl hq h => ⟨linkInv_step hl h, (held_step h).queues hq⟩

/-- Settles O59: only writes within their ranges change the thresholds and the policies. -/
theorem everyStepKeepsFlowRangesAndNeverAxes : Obligations.EveryStepKeepsFlowRangesAndNeverAxes :=
  ⟨fun _ _ hf h => (held_step h).flow hf, fun _ _ hn h => (held_step h).never hn⟩

theorem outputsOff_of_cold {s : State} (h : Cold s) : OutputsOff s := by
  have hgear : ∀ y e, solenoidOn s y e = false := fun y e => by
    unfold solenoidOn; split
    · next k hk =>
      have hs := h.shift.resolve_left (by rw [hk]; exact Option.some_ne_none k)
      unfold shifting at hs
      cases hg : s.sgu.gear <;> simp [hg] at hs ⊢
    · rfl
  refine ⟨?_, h.outs, h.notEnabled, h.out, ?_, fun c => ?_, hgear, ?_, h.tscPump, ?_, ?_, ?_⟩
  · unfold driveEnable; rw [h.tripped]; rfl
  · unfold contactorOn; rw [h.pump]; rfl
  · unfold valveOn
    rcases h.clamps c with e | e | e | e <;> simp [e, h.tripped]
  · unfold floodPump; rw [h.flood]; rfl
  · rw [h.coolant]; rfl
  · unfold purgeValve; rw [h.coolant]; rfl
  · unfold mistValve; rw [h.tripped]; simp

/-- Settles O60: a TRIP turns everything off, and what comes in TRIPPED finds a guard that TRIPPED closes. -/
theorem everyStepKeepsTrippedOutputsOff : Obligations.EveryStepKeepsTrippedOutputsOff :=
  ⟨fun s h ht => outputsOff_of_cold ((trippedOff_iff s).1 h ht), fun _ _ hn ho h => (held_step h).off hn ho,
    fun _ _ hh ha h => ⟨(held_step h).homing hh, (held_step h).quiet hh ha⟩, fun _ _ hf h => (held_step h).free hf⟩

/-- Settles O16: every command but a RESET_TRIP that is taken and a RESTART keeps TRIPPED. -/
theorem trippedIsLeftOnlyByResetTripOrRestart : Obligations.TrippedIsLeftOnlyByResetTripOrRestart := by
  intro s t c rest hl ht hp hs hn
  unfold step at hs; rw [hp] at hs
  by_contra hc
  exact hn ((work_exec hs).held.machine ⟨hl, hc⟩ ht)

/-- Settles O3: every command's work ends in a state of its own, and none touches the waiting commands. -/
theorem everyCommandCompletes : Obligations.EveryCommandCompletes := by
  intro c s
  obtain ⟨u, -, e | e⟩ := exec_work c s
  · exact ⟨_, e, (work_exec e).pending⟩
  · exact ⟨_, e, (work_exec e).pending⟩

end Sys2Proof.Machine
end

section
/-! SUPPORT and CLAIMS. The step, the end of an event and the millisecond: what follows a command (entry 1), what a
passing millisecond brings (entry 6), and the timer rows before their time (entry 5). -/

namespace Sys2Proof.Machine

/-! ## The end of an event -/

/-- In a still state nothing follows but the transmitter's choice. -/
theorem finish_still {s : State} (h : Still s) : finish s = transmit s := by
  obtain ⟨hcalm, hdue⟩ := h
  rw [finish_calm hcalm, pendantSend_of_not_due hdue]

theorem done_still {s : State} (h : Still s) : done s = .next (transmit s) := by
  unfold done; rw [finish_still h]

theorem Still.resting {s : State} (h : Still s) : Resting s := (calm_iff s).1 h.1

theorem Resting.still {s : State} (h : Resting s) (hdue : s.pp.answerDue = false) : Still s := ⟨(calm_iff s).2 h, hdue⟩

theorem transmit_idle_slot {s : State} {r : Reply} (ht : s.hlp.tx = none) (hr : s.hlp.slot = some r) :
    transmit s = { s with hlp.tx := some ⟨true, true, replyFrame r⟩ } := by
  unfold transmit; rw [ht, hr]

theorem transmit_idle_report {s : State} {e : RptEntry} {es : List RptEntry} (ht : s.hlp.tx = none)
    (hr : s.hlp.slot = none) (hq : s.rq = e :: es) :
    transmit s = { s with hlp.tx := some ⟨false, true, reportFrame e⟩ } := by
  unfold transmit; rw [ht, hr, hq]

theorem transmit_idle_empty {s : State} (ht : s.hlp.tx = none) (hr : s.hlp.slot = none) (hq : s.rq = []) :
    transmit s = s := by
  unfold transmit; rw [ht, hr, hq]

/-! ## What the end of an event keeps -/

theorem keptCh_finish (s : State) (a : Axis) : keptCh ((finish s).ax.get a) = keptCh (s.ax.get a) := by
  have h : keptAx (finish s).ax = keptAx s.ax := congrArg Steady.ax (steady_finish s)
  have ha := congrArg (fun v => v.get a) h
  simpa only [keptAx, PerAxis.get_map] using ha

theorem keptCl_finish (s : State) (c : ClampAxis) : keptCl ((finish s).cc.get c) = keptCl (s.cc.get c) := by
  have h : keptCc (finish s).cc = keptCc s.cc := congrArg Steady.cc (steady_finish s)
  have hc := congrArg (fun v => v.get c) h
  simpa only [keptCc, PerClamp.get_map] using hc

/-- The pendant's answer changes its transmitter, its due answer and the NEW flag of the line that it carries. -/
theorem pendantSend_pp (s : State) : ∃ (tx : Option (List Byte)) (lines : Vector DispLine 4) (due : Bool),
    (pendantSend s).pp = { s.pp with tx := tx, lines := lines, answerDue := due } ∧
      ∀ i : Fin 4, lines[i].text = s.pp.lines[i].text := by
  have hset : ∀ (i j : Fin 4) (v : Vector DispLine 4), (v.set i ⟨v[i].text, false⟩)[j].text = v[j].text := by
    intro i j v
    show ((v.set i.val ⟨v[i.val].text, false⟩)[j.val]).text = v[j.val].text
    rw [Vector.getElem_set]
    split
    · next h => simp only [h]
    · rfl
  unfold pendantSend
  split
  · split
    · refine ⟨_, _, _, rfl, fun j => ?_⟩
      cases freshLine s with
      | none => rfl
      | some i => exact hset i j _
    · exact ⟨_, _, _, rfl, fun _ => rfl⟩
  · exact ⟨_, _, _, rfl, fun _ => rfl⟩

/-- The pendant part of `steady` that the end of an event keeps, its text apart. -/
theorem finish_pp (s : State) : ∃ (tx : Option (List Byte)) (lines : Vector DispLine 4) (due : Bool),
    keptPp (finish s).pp = keptPp { s.pp with tx := tx, lines := lines, answerDue := due } ∧
      ∀ i : Fin 4, lines[i].text = s.pp.lines[i].text := by
  have hpp : keptPp (finish s).pp = keptPp (pendantSend (quiesce s)).pp := congrArg Steady.pp (steady_finish s)
  have hq : keptPp (quiesce s).pp = keptPp s.pp := congrArg Steady.pp (steady_quiesce s)
  have hlines : (quiesce s).pp.lines = s.pp.lines := congrArg (fun p => p.2.1) hq
  obtain ⟨tx, lines, due, hsend, htext⟩ := pendantSend_pp (quiesce s)
  refine ⟨tx, lines, due, ?_, fun i => by rw [htext i, hlines]⟩
  rw [hpp, hsend]
  simp only [keptPp, Prod.mk.injEq] at hq ⊢
  simp [hq]

/-- Settles O1. -/
theorem stepRunsFrontCommand : Obligations.StepRunsFrontCommand := fun _ _ _ => rfl

/-- Settles O4: the fields that the statement names are parts of `steady`, which the closing rules keep; the two
transmitters behind them write the link's frame and the pendant's answer alone. -/
theorem whatFollowsACommand : Obligations.WhatFollowsACommand := by
  intro s
  have h := steady_finish s
  have hsq : keptSq (finish s).sq = keptSq s.sq := congrArg Steady.sq h
  have hpi : keptPi (finish s).pi = keptPi s.pi := congrArg Steady.pi h
  have hhs : keptHs (finish s).hs = keptHs s.hs := congrArg Steady.hs h
  have hsgu : keptSgu (finish s).sgu = keptSgu s.sgu := congrArg Steady.sgu h
  have hlink : (finish s).hlp = { s.hlp with tx := (finish s).hlp.tx } := congrArg Steady.hlp h
  obtain ⟨tx, lines, due, hpp, htext⟩ := finish_pp s
  simp only [keptSq, Prod.mk.injEq] at hsq
  simp only [keptPi, Prod.mk.injEq] at hpi
  simp only [keptHs, Prod.mk.injEq] at hhs
  simp only [keptSgu, Prod.mk.injEq] at hsgu
  simp only [keptPp, Prod.mk.injEq] at hpp
  refine ⟨congrArg Steady.pending h, congrArg Steady.cs h, congrArg Steady.inp h, congrArg Steady.am h, by rw [hlink],
    hsq, by simp [hpi], fun c => ?clamps, hhs, fun a => ?axes, by simp [hsgu], congrArg Steady.cu h, ?pendant, ?still⟩
  case clamps =>
    have hc := keptCl_finish s c
    simp only [keptCl, Prod.mk.injEq] at hc
    simp [hc]
  case axes =>
    have ha := keptCh_finish s a
    simp only [keptCh, Prod.mk.injEq] at ha
    simp [ha]
  case pendant =>
    refine ⟨?_, ?_, ?_, ?_, ?_, ?_, ?_, ?_, ?_, ?_, ?_, fun i => ?_⟩
    case refine_12 => rw [hpp.2.1, htext i]
    all_goals simp [hpp]
  case still =>
    exact fun hs => ⟨finish_still hs, fun _ => transmit_of_some, fun _ => transmit_idle_slot,
      fun _ _ => transmit_idle_report, transmit_idle_empty⟩

/-! ## The millisecond -/

theorem filter_map_eq_dueOne {α : Type} (p : Instr → Bool) (f : α → Instr) (l : List α) :
    (l.map f).filter p = l.flatMap fun a => dueOne (p (f a)) (f a) := by
  induction l with
  | nil => rfl
  | cons a l ih =>
    rw [List.map_cons, List.filter_cons, List.flatMap_cons, ih, dueOne]
    split <;> rfl

theorem filter_cons_dueOne (p : Instr → Bool) (c : Instr) (l : List Instr) :
    (c :: l).filter p = dueOne (p c) c ++ l.filter p := by
  rw [List.filter_cons, dueOne]; split <;> rfl

theorem moveReady_isSome (s : State) : (moveReady s).isSome = eventDue s .moveStart := by
  unfold moveReady eventDue legsReleased
  dsimp only
  cases currentRec s with
  | none => rfl
  | some r =>
    obtain ⟨q, b⟩ := r
    cases b with
    | move m => simp only [apply_ite Option.isSome, Option.isSome_some, Option.isSome_none]; grind
    | _ => rfl

/-- The rows that are due stand in the order of the opcode table, the path period and a DWELL's end behind them. -/
theorem dueEvents_eq (s : State) :
    dueEvents s = timerRows.filter (eventDue s) ++ .pathPeriod :: dueOne (dwellEnds s) .dwellEnd := by
  unfold dueEvents timerRows
  rw [moveReady_isSome]
  simp only [List.cons_append, List.append_assoc, List.filter_append, filter_cons_dueOne, filter_map_eq_dueOne,
    List.filter_nil, List.flatten_cons, List.flatten_nil, List.append_nil, List.nil_append]
  rfl

theorem eventDue_pending (s : State) (l : List Instr) (c : Instr) :
    eventDue { s with pending := l } c = eventDue s c := by
  cases c <;> rfl

/-- The clamps' timers of a millisecond. -/
theorem tickClamps_cc (s : State) : (tickClamps s).cc = s.cc.map fun c k =>
    { k with
      op := k.op.tick
      idle := if k.st = .released ∧ k.policy = .auto ∧ (s.ax.get (clampAxis c)).owner = .none then
        min (k.idle + 1) k.delay else k.idle } :=
  PerClamp.ext_get fun c => by
    simp only [tickClamps, PerClamp.get_map, idleRuns, Bool.and_eq_true, beq_iff_eq, and_assoc]

/-- The spindle's and the gear's timers of a millisecond. -/
theorem tickSgu_sgu (s : State) : (tickSgu s).sgu = { s.sgu with
    overload := if loadMax s = true ∧ spindleRuns s = true then
      min (s.sgu.overload + 1) s.sgu.p.overloadTime else s.sgu.overload
    oilT := if spindleRuns s = true ∧ s.sgu.oilDone = false then s.sgu.oilT + 1 else s.sgu.oilT
    prepareT := s.sgu.prepareT.tick
    positionT := s.sgu.positionT.tick
    strokeT := s.sgu.strokeT.tick
    dwellT := s.sgu.dwellT.tick
    settleT := s.sgu.settleT.tick } := by
  simp only [tickSgu, Bool.and_eq_true, Bool.not_eq_true']

/-- Settles O2: each block's timers count, and the queue is the rows that are due with the period's behind them. -/
theorem idleStepIsOneMillisecond : Obligations.IdleStepIsOneMillisecond := by
  refine ⟨fun s hp => ⟨tick s, dueOne (dwellEnds (tickTimers s)) .dwellEnd, by unfold step; rw [hp], ?state, ?last⟩,
    fun T => ?timer⟩
  case timer =>
    unfold Timer.tick
    split
    · next h => rw [h]
    · rfl
  case state =>
    have hdue : dueEvents (tickTimers s) =
        timerRows.filter (eventDue (tick s)) ++ .pathPeriod :: dueOne (dwellEnds (tickTimers s)) .dwellEnd := by
      rw [dueEvents_eq, show eventDue (tick s) = eventDue (tickTimers s) from funext (eventDue_pending _ _)]
    have hsgu := tickSgu_sgu (tickHyd (tickClamps s))
    rw [show loadMax (tickHyd (tickClamps s)) = loadMax s from rfl,
      show spindleRuns (tickHyd (tickClamps s)) = spindleRuns s from rfl,
      show (tickHyd (tickClamps s)).sgu = s.sgu from rfl] at hsgu
    rw [← hdue, ← tickClamps_cc]
    show { tickTimers s with pending := dueEvents (tickTimers s) } = _
    generalize dueEvents (tickTimers s) = l
    unfold tickTimers tickMs tickInputs tickPendant tickCoolant
    rw [show tickSgu (tickHyd (tickClamps s)) =
      { tickHyd (tickClamps s) with sgu := (tickSgu (tickHyd (tickClamps s))).sgu } from rfl, hsgu]
    rfl
  case last =>
    have hsq : (tickTimers s).sq = s.sq := by
      simp only [tickTimers, tickMs, tickInputs, tickPendant, tickCoolant, tickSgu, tickHyd, tickClamps]
    have hrec : currentRec (tickTimers s) = currentRec s := by unfold currentRec; rw [hsq]
    unfold dueOne dwellEnds
    rw [hrec, hsq]
    cases currentRec s with
    | none => rfl
    | some r =>
      obtain ⟨q, b⟩ := r
      cases b with
      | dwell n => simp
      | _ => rfl

end Sys2Proof.Machine
end

section
/-! SUPPORT and CLAIMS. The resets: the state after power-on, and what the closing rules read of the inputs. -/

namespace Sys2Proof.Machine

/-! ## Inputs that keep their filtered states -/

/-- The closing rules read of the inputs the filtered states alone. -/
theorem Resting.inputs {s : State} (h : Resting s) {v : Vector InputCh 32}
    (hv : ∀ n : Fin 32, v[n].filt = s.inp[n].filt) : Resting { s with inp := v } := by
  have hin : inputOn { s with inp := v } = inputOn s := funext hv
  have hend : endSensor { s with inp := v } = endSensor s := by
    funext c e; cases c <;> cases e <;> exact congrFun hin _
  have hclamped : clampedSensor { s with inp := v } = clampedSensor s := by
    funext c; cases c <;> exact congrFun hin _
  have hreleased : releasedSensor { s with inp := v } = releasedSensor s := by
    funext c; cases c <;> exact congrFun hin _
  have hwith : consistentWith { s with inp := v } = consistentWith s := by
    funext r; unfold consistentWith shownEnd; rw [hend]
  have htarget : targetOn { s with inp := v } = targetOn s := by funext r c; unfold targetOn; rw [hend]
  have hopposite : oppositeOn { s with inp := v } = oppositeOn s := by funext r c; unfold oppositeOn; rw [hend, htarget]
  have hready : spindleReady { s with inp := v } = spindleReady s := congrFun hin 2
  have henable : enableContact { s with inp := v } = enableContact s := congrFun hin 3
  have hover : hydOverload { s with inp := v } = hydOverload s := congrFun hin 29
  exact { h with
    engaged := fun r hr => by rw [hwith]; exact h.engaged r hr
    lost := by
      show rawOf s _ = _
      unfold gearLostCause consistentRange; rw [hwith]; exact h.lost
    clamp := fun c => by
      unfold ClampRests releaseMet clampMet; rw [hclamped, hreleased]; exact h.clamp c
    spindle := by unfold SpindleRests; rw [hready]; exact h.spindle
    shift := by unfold shiftRests; rw [htarget, hopposite, hready]; exact h.shift
    giveBack := fun a => by
      unfold jogPermitted; rw [henable]; exact h.giveBack a
    supply := by rw [hover]; exact h.supply }

/-- No closing rule reads the waiting commands, the free values, the report queue or the link. -/
theorem Resting.apart {s : State} (h : Resting s) (p : List Instr) (f : Nat) (q : List RptEntry) (l : HostLink) :
    Resting { s with pending := p, free := f, rq := q, hlp := l } := { h with }

/-! ## The hardware reset (R207) -/

theorem calm_reset : Calm State.reset := by show rules State.reset = none; decide

theorem filt_inputsReset (pins : BitVec 32) (n : Fin 32) : (inputsReset pins)[n].filt = false := by
  simp [inputsReset, InputCh.reset]

/-- Whatever the pins, no input is on after a reset, so the state is as calm as the one after power-on. -/
theorem still_hardwareReset (cause : ResetCause) (a b : Bool) (pins : BitVec 32) (s : State) :
    Still (hardwareReset cause a b pins s) := by
  have hr : Resting { State.reset with inp := inputsReset pins } :=
    ((calm_iff _).1 calm_reset).inputs fun n => by
      rw [filt_inputsReset]; exact (filt_inputsReset 0 n).symm
  exact (hr.apart s.pending s.free _ _).still rfl

/-- Settles O6: the state after a reset is still, so nothing follows but the transmitter, which goes on with the frame
that the RESET pin found or begins HELLO. -/
theorem hardwareResetState : Obligations.HardwareResetState := by
  intro cause a b pins s
  show done (hardwareReset cause a b pins s) = _
  rw [done_still (still_hardwareReset cause a b pins s)]
  cases hf : frameOverReset cause s.hlp.tx with
  | none => rw [transmit_idle_report (by exact hf) rfl rfl]; rfl
  | some f => rw [transmit_of_some (by exact hf)]; unfold hardwareReset; rw [hf]; rfl

/-! ## Power-on -/

theorem reset_axis (a : Axis) : ∃ lo out step, State.reset.ax.get a = .reset lo out step := by
  cases a <;> exact ⟨_, _, _, rfl⟩

theorem reset_bank (a : Axis) : State.reset.cs.get a = .reset := by cases a <;> rfl

theorem reset_clamp (c : ClampAxis) : State.reset.cc.get c = .reset := by cases c <;> rfl

/-- The invariants hold after power-on: nothing runs, no axis is owned and every clamp is CLAMPED under AUTO. -/
theorem invariants_reset :
    TscInv State.reset ∧ LinkInv State.reset ∧ QueuesInv State.reset ∧ FlowInv State.reset ∧ NeverInv State.reset ∧
      TrippedOff State.reset ∧ TrippedAxes State.reset ∧ HomingInv State.reset ∧ ReleasedFree State.reset ∧
      Still State.reset ∧ MeshApart State.reset.sgu.p.cpr State.reset.sgu.p.meshTol State.reset.sgu.mesh := by
  refine ⟨⟨fun h => (nomatch h), fun _ => rfl⟩, ⟨by decide, fun _ => rfl⟩, ⟨by decide, by decide⟩, by unfold FlowInv; decide,
    fun c hp => ?never, (trippedOff_iff _).2 fun _ => cold_reset, fun _ a => ?axes, fun a => ?homing,
    fun c _ hst => ?free, ((calm_iff _).1 calm_reset).still rfl, ⟨by decide, .nil⟩⟩
  case never => rw [reset_clamp] at hp; cases hp
  case free => rw [reset_clamp] at hst; obtain h | ⟨h, -⟩ := hst <;> cases h
  case axes =>
    obtain ⟨_, _, _, h⟩ := reset_axis a
    rw [h]; exact ⟨rfl, by simp [AxisCh.reset], by simp [AxisCh.reset]⟩
  case homing =>
    obtain ⟨_, _, _, h⟩ := reset_axis a
    rw [h]; simp [AxisCh.reset]

/-- Settles O5: the reset state's fields, and its invariants. -/
theorem stateAfterPowerOn : Obligations.StateAfterPowerOn := by
  refine ⟨rfl, rfl, by decide, by decide, fun a => ?axes, fun c => ?clamps, rfl, by decide, by decide, rfl,
    fun n => ?inputs, by decide, by decide, invariants_reset⟩
  case axes =>
    obtain ⟨_, _, _, h⟩ := reset_axis a
    rw [h, reset_bank]; exact ⟨rfl, rfl, rfl, rfl, rfl⟩
  case clamps => rw [reset_clamp]; exact ⟨rfl, rfl⟩
  case inputs => exact ⟨filt_inputsReset 0 n, by simp [State.reset, inputsReset, InputCh.reset]⟩

end Sys2Proof.Machine
end

section
/-! SUPPORT. Calm states stay calm under what no closing rule reads: reports and latches, the raws of conditions that no
closing rule derives, axis values behind the profile, and fields of the link and the pendant. -/

namespace Sys2Proof.Machine

/-! ## The condition table -/

@[simp] theorem rawOf_queueReport (k : Report) (d : Cond) (s : State) : rawOf (queueReport k s) d = rawOf s d := by
  unfold rawOf; rw [condEntry_queueReport]

@[simp] theorem rawOf_latch (c d : Cond) (q : Nat) (v : Int) (s : State) : rawOf (latch c q v s) d = rawOf s d := by
  unfold rawOf; rw [condEntry_latch]; split <;> rfl

theorem rawOf_setRaw (c d : Cond) (b : Bool) (s : State) :
    rawOf (setRaw c b s) d = if c = d then b else rawOf s d := by
  unfold rawOf setRaw; rw [condEntry_updCond]; split <;> rfl

theorem rawOf_fall (c d : Cond) (s : State) : rawOf (fall c s) d = if c = d then false else rawOf s d := by
  unfold rawOf; rw [condEntry_fall]; split <;> rfl

theorem rawOf_riseNote (c d : Cond) (q : Nat) (v : Int) (s : State) :
    rawOf (riseNote c q v s) d = if c = d then true else rawOf s d := by
  unfold riseNote
  split
  · next h => split <;> simp_all
  · rw [rawOf_latch, rawOf_setRaw]

/-- Neither of the two conditions whose raws the closing rules derive (R116, R118). -/
def Underived (c : Cond) : Prop := c ≠ .gearPositionLost ∧ c ≠ .gearOilLow


/-- The closing rules read of the condition table the raws of GEAR_POSITION_LOST and GEAR_OIL_LOW alone. -/
theorem Resting.table {s t : State} (h : Resting s) (hl : rawOf t .gearPositionLost = rawOf s .gearPositionLost)
    (ho : rawOf t .gearOilLow = rawOf s .gearOilLow)
    (ht : { t with cn.table := s.cn.table, rq := s.rq } = s) : Resting t := by
  have e : t = { s with cn.table := t.cn.table, rq := t.rq } := by rw [← ht]
  rw [e] at hl ho ⊢
  exact { h with lost := hl.trans h.lost, oil := ho.trans h.oil }

theorem Resting.latch {s : State} (h : Resting s) (c : Cond) (q : Nat) (v : Int) : Resting (latch c q v s) :=
  h.table (rawOf_latch ..) (rawOf_latch ..) (by unfold Machine.latch Machine.queueReport; split <;> rfl)

theorem Resting.setRaw {s : State} (h : Resting s) {c : Cond} (hc : Underived c) (b : Bool) :
    Resting (setRaw c b s) :=
  h.table (by rw [rawOf_setRaw, if_neg hc.1]) (by rw [rawOf_setRaw, if_neg hc.2]) rfl

theorem Resting.fall {s : State} (h : Resting s) {c : Cond} (hc : Underived c) : Resting (fall c s) := by
  unfold Machine.fall
  split
  · exact (h.setRaw hc false).queueReport _
  · exact h

theorem Resting.riseNote {s : State} (h : Resting s) {c : Cond} (hc : Underived c) (q : Nat) (v : Int) :
    Resting (riseNote c q v s) := by
  unfold Machine.riseNote
  split
  · exact h
  · exact (h.setRaw hc true).latch ..

/-! ## The axis channels -/

/-- What the closing rules read of an axis channel. -/
def closingCh (k : AxisCh) := (k.owner, k.setpoint, k.phase, k.hVel, k.atRest)

/-- The closing rules read of an axis its owner, setpoint, phase, velocity and standstill alone. -/
theorem Resting.axes {s : State} (h : Resting s) {v : PerAxis AxisCh}
    (hv : ∀ a, closingCh (v.get a) = closingCh (s.ax.get a)) : Resting { s with ax := v } := by
  have howner : ∀ a, (v.get a).owner = (s.ax.get a).owner := fun a => congrArg (·.1) (hv a)
  have hset : ∀ a, (v.get a).setpoint = (s.ax.get a).setpoint := fun a => congrArg (·.2.1) (hv a)
  have hphase : ∀ a, (v.get a).phase = (s.ax.get a).phase := fun a => congrArg (·.2.2.1) (hv a)
  have hvel : ∀ a, (v.get a).hVel = (s.ax.get a).hVel := fun a => congrArg (·.2.2.2.1) (hv a)
  have hrest : ∀ a, (v.get a).atRest = (s.ax.get a).atRest := fun a => congrArg (·.2.2.2.2) (hv a)
  have hidle : ∀ c, idleRuns { s with ax := v } c = idleRuns s c := fun c => by unfold idleRuns; rw [howner]
  have hall : allAtRest { s with ax := v } = allAtRest s := by unfold allAtRest; simp only [hrest]
  have hqueue : queueAxesAtRest { s with ax := v } = queueAxesAtRest s := by
    unfold queueAxesAtRest; simp only [hrest, howner]
  have hjog : ∀ a, jogOver { s with ax := v } a = jogOver s a := fun a => by unfold jogOver; simp only [hset]
  exact { h with
    clamp := fun c => by unfold ClampRests; rw [hidle]; exact h.clamp c
    home := fun a => by unfold homeRests; simp only [hphase, hvel, hrest]; exact h.home a
    giveBack := fun a => by rw [hjog]; simp only [howner, hrest]; exact h.giveBack a
    record := by unfold recordRests; simp only [hqueue]; exact h.record
    machine := by unfold readyTest; rw [hall]; exact h.machine }

/-- One axis changed in what no closing rule reads. -/
theorem Resting.updAx {s : State} (h : Resting s) (a : Axis) {f : AxisCh → AxisCh}
    (hf : closingCh (f (s.ax.get a)) = closingCh (s.ax.get a)) : Resting (updAx a f s) :=
  h.axes fun b => by
    rw [PerAxis.get_upd]; split
    · next e => rw [e] at hf; exact hf
    · rfl

/-! ## The coolant circuits -/

/-- Coolant units that the current record does not tell apart: flood and TSC are ON, or in FAULT, in both or in
neither. -/
def SameMet (u v : Coolant) : Prop :=
  (u.flood == .on) = (v.flood == .on) ∧ (u.tsc == .on) = (v.tsc == .on) ∧
    (u.flood == .fault) = (v.flood == .fault) ∧ (u.tsc == .fault) = (v.tsc == .fault)

/-- A coolant unit that rests, and that the current record does not tell from the one before. -/
theorem Resting.coolant {s : State} (h : Resting s) {u : Coolant} (hf : ¬(u.flood = .proving ∧ floodMin s = true))
    (ht : tscRests { s with cu := u } = true) (hu : SameMet u s.cu) : Resting { s with cu := u } := by
  obtain ⟨hfOn, htOn, hfFault, htFault⟩ := hu
  have hmet : coolantMet { s with cu := u } = coolantMet s := by
    funext f t; unfold coolantMet; dsimp only; rw [hfOn, htOn]
  have hfault : coolantFaulted { s with cu := u } = coolantFaulted s := by
    funext f t; unfold coolantFaulted; dsimp only; rw [hfOn, htOn, hfFault, htFault]
  exact { h with
    flood := hf
    tsc := ht
    record := by unfold recordRests; rw [hmet]; exact h.record
    queue := by unfold queueRests inProgress; rw [hfault]; exact h.queue }

/-- A coolant unit that rests where no record is current. -/
theorem Resting.coolant_of_none {s : State} (h : Resting s) (hc : currentRec s = none) {u : Coolant}
    (hf : ¬(u.flood = .proving ∧ floodMin s = true)) (ht : tscRests { s with cu := u } = true) :
    Resting { s with cu := u } := by
  have hc' : currentRec { s with cu := u } = none := hc
  have hprog : inProgress { s with cu := u } = inProgress s := by unfold inProgress; rw [hc, hc']
  exact { h with
    flood := hf
    tsc := ht
    record := by unfold recordRests; rw [hc']
    queue := by unfold queueRests; rw [hprog]; exact h.queue }

/-! ## The clamps' needs (R91, R92) -/

theorem PerClamp.upd_upd {α : Type} (v : PerClamp α) (c : ClampAxis) (f g : α → α) :
    (v.upd c f).upd c g = v.upd c fun k => g (f k) := by
  cases c <;> rfl

/-- A clamp need of a RELEASED axis: it waits, and its request joins the FIFO. -/
theorem clampNeed_released {s : State} {c : ClampAxis} (hm : s.cn.machine ≠ .tripped)
    (hp : (s.cc.get c).policy ≠ .never) (hst : (s.cc.get c).st = .released) :
    clampNeed c s = { s with
      cc := s.cc.upd c fun k => { k with st := .clampWait, fromFault := false, idle := 0 }
      hs.fifo := s.hs.fifo ++ [⟨.axis c, .clamp⟩] } := by
  unfold clampNeed
  rw [if_neg (by simp [hm, hp]), hst]; rfl

/-- A release need of a CLAMPED axis: it waits, and its request joins the FIFO. -/
theorem releaseNeed_clamped {s : State} {c : ClampAxis} (hm : s.cn.machine ≠ .tripped)
    (hp : (s.cc.get c).policy ≠ .never) (hst : (s.cc.get c).st = .clamped) :
    releaseNeed c s = { s with
      cc := s.cc.upd c fun k => { k with st := .releaseWait }
      hs.fifo := s.hs.fifo ++ [⟨.axis c, .release⟩] } := by
  unfold releaseNeed
  rw [if_neg (by simp [hm, hp]), hst]; rfl

end Sys2Proof.Machine
end

section
/-! CLAIMS. The rows that wait for their time (entry 5), the edges, and the timers whose limits are reached: the clamps',
the supply's, the spindle's, the coolant's and the pendant's. -/

namespace Sys2Proof.Machine

/-- A row whose event is not due ends its event as it began. -/
theorem done_not_due {s : State} (h : Still s) {b : Bool} (hb : b = false) (f : State → State) :
    done (whenDue b f s) = .next (transmit s) := by
  unfold whenDue; rw [hb]; exact done_still h

theorem whenDue_true {b : Bool} (hb : b = true) (f : State → State) (s : State) : whenDue b f s = f s := by
  unfold whenDue; rw [hb]; rfl

theorem and_false_of_right {a b : Bool} (h : b = false) : (a && b) = false := by rw [h, Bool.and_false]

/-- Settles O38: a timer's row is guarded by its event, and without it the still state ends as it is. -/
theorem timerRowsWaitForTheirTime : Obligations.TimerRowsWaitForTheirTime := by
  intro s h
  refine ⟨fun c e => done_not_due h e _,
    fun c e => ⟨done_not_due h (and_false_of_right e) _, done_not_due h (and_false_of_right e) _⟩,
    fun e => done_not_due h e _, fun e => done_not_due h (and_false_of_right e) _, fun e => done_not_due h e _,
    fun e => done_not_due h e _, fun e => done_not_due h (and_false_of_right e) _,
    fun e => done_not_due h (and_false_of_right e) _, fun e => done_not_due h (and_false_of_right e) _,
    fun e => done_not_due h e _, fun e => done_not_due h e _, fun e => done_not_due h e _,
    fun e => done_not_due h e _, fun e => done_not_due h e _, fun e => done_not_due h e _,
    fun e => done_not_due h e _, fun e => done_not_due h e _, fun e => done_not_due h e _,
    fun e => done_not_due h (and_false_of_right e) _, fun e => ?mismatch, fun e => done_not_due h e _,
    fun e => done_not_due h e _,
    fun e => ⟨done_not_due h (and_false_of_right e) _, done_not_due h (and_false_of_right e) _⟩, fun n e => ?input⟩
  case mismatch => exact done_not_due h (show (s.pp.mismT.due && _) = false by rw [e, Bool.false_and]) _
  case input =>
    show done (filterStep n s) = _
    unfold filterStep; rw [e]; exact done_still h

/-- Settles O34: an edge changes one count, latch or index position, which no closing rule reads. -/
theorem edgesCount : Obligations.EdgesCount := by
  intro s h
  have hr := h.resting
  have hax : ∀ (a : Axis) (f : AxisCh → AxisCh), closingCh (f (s.ax.get a)) = closingCh (s.ax.get a) →
      done (updAx a f s) = .next (transmit (updAx a f s)) := fun a f e => done_still ((hr.updAx a e).still h.2)
  have hpos : ∀ (p : Int) (i : Option Int), Still { s with sgu.pos := p, sgu.indexPos := i } :=
    fun p i => Resting.still { hr with } h.2
  refine ⟨fun a fwd => hax a (encCount fwd) rfl, fun a => hax a _ rfl, fun cw => done_still (hpos _ _), fun e => ?first,
    fun e => ?later, fun hcpr θ hθ => ?angle⟩
  case first =>
    show done (spindleIndex s) = _
    unfold spindleIndex; rw [e]; exact done_still (hpos _ _)
  case later =>
    show done (spindleIndex s) = _
    obtain ⟨i, hi⟩ := Option.ne_none_iff_exists'.1 e
    have hs : spindleIndex s = s := by unfold spindleIndex; rw [hi, Option.getD_some, ← hi]
    rw [hs]; exact done_still h
  case angle =>
    obtain ⟨i, -, rfl⟩ := Option.map_eq_some_iff.1 hθ
    have hlt := Int.emod_lt_of_pos (s.sgu.pos - i) (Int.natCast_pos.2 hcpr)
    omega

/-- Settles O36. -/
theorem clampTimersRunOut : Obligations.ClampTimersRunOut := by
  intro s c
  refine ⟨fun hst hpol how hidle hm => ?idle, fun st row v hrow hst hon hlim => ?timeout⟩
  case idle =>
    have hdue : idleDue s c = true := by unfold idleDue idleRuns; simp [hst, hpol, how, hidle]
    refine congrArg done ((whenDue_true hdue _ _).trans ?_)
    have hget : (updClamp c (fun k => { k with idle := 0 }) s).cc.get c = { s.cc.get c with idle := 0 } := by
      unfold updClamp; rw [PerClamp.get_upd, if_pos rfl]
    have hneed := clampNeed_released (s := updClamp c (fun k => { k with idle := 0 }) s) (c := c) hm
      (by rw [hget]; simp [hpol]) (by rw [hget]; exact hst)
    unfold idleClampStep
    rw [hneed]
    unfold updClamp
    dsimp only
    rw [PerClamp.upd_upd]
  case timeout =>
    have hdue : (s.cc.get c).op.due = true := by unfold Timer.due; simp [hon, hlim]
    obtain ⟨rfl, rfl, rfl⟩ | ⟨rfl, rfl, rfl⟩ := hrow
    · exact congrArg done (whenDue_true (show releaseDue s c = true by unfold releaseDue; simp [hst, hdue]) _ _)
    · exact congrArg done (whenDue_true (show clampDue s c = true by unfold clampDue; simp [hst, hdue]) _ _)

/-- Settles O37. -/
theorem pumpAndSpindleTimersRunOut : Obligations.PumpAndSpindleTimersRunOut := by
  intro s
  refine ⟨fun hon hlim => ?pump, fun hst hon hlim hraw => ?start, fun hl hr hd ht => ?overload, fun hr hd ht => ?oil⟩
  case pump => exact congrArg done (whenDue_true (show Timer.due _ = true by unfold Timer.due; simp [hon, hlim]) _ _)
  case start =>
    have hrise : supplyLow 0 s = raiseStop .hydPressureLow 0 0
        (setRaw .hydPressureLow true { s with hs.st := .low, hs.startT := .stopped }) := by
      unfold supplyLow riseStop
      exact if_neg (fun e => Bool.false_ne_true (hraw.symm.trans e))
    rw [← hrise]
    exact congrArg done (whenDue_true (show startDue s = true by unfold startDue Timer.due; simp [hst, hon, hlim]) _ _)
  case overload =>
    exact congrArg done (whenDue_true (show overloadDue s = true by unfold overloadDue; simp [hl, hr, hd, ht]) _ _)
  case oil => exact congrArg done (whenDue_true (show oilDue s = true by unfold oilDue; simp [hr, hd, ht]) _ _)

end Sys2Proof.Machine
end

section
/-! SUPPORT and CLAIMS. Requests that a free link takes in a still state, and those that change one thing. -/

namespace Sys2Proof.Machine

/-- A free link's request whose service leaves a still state ends its event with the reply in the slot. -/
theorem exec_taken {s t : State} {c : Instr} {tag : Nat} {r : Request} {a : Answer} (hc : requestOf c = some (tag, r))
    (hfree : LinkFree s) (hserve : serve r (linkCleared s) = (a, linkCleared t)) (ht : Still t) :
    exec c s = .next (transmit (replied (requestKind r) tag a t)) := by
  rw [exec_request hc]
  exact done_accept_of_linkFree hfree tag hserve ((ht.resting.replied _ _ _).still ht.2)

/-! ## What the receiver and the FIFO play no part in -/

theorem setRaw_linkCleared (c : Cond) (b : Bool) (s : State) :
    setRaw c b (linkCleared s) = linkCleared (setRaw c b s) := rfl

theorem latch_linkCleared (c : Cond) (q : Nat) (v : Int) (s : State) :
    latch c q v (linkCleared s) = linkCleared (latch c q v s) := by
  unfold latch; rw [← queueReport_linkCleared]; rfl

theorem fall_linkCleared (c : Cond) (s : State) : fall c (linkCleared s) = linkCleared (fall c s) := by
  unfold fall; rw [apply_ite linkCleared, ← queueReport_linkCleared]; rfl

theorem startLineTest_linkCleared (s : State) : startLineTest (linkCleared s) = linkCleared (startLineTest s) := by
  unfold startLineTest setPend; rw [← fall_linkCleared, ← queueReport_linkCleared]; rfl

/-- Settles O44: each request is served by one update, which no closing rule reads. -/
theorem smallRequestsDoOneThing : Obligations.SmallRequestsDoOneThing := by
  intro s tag h hfree
  have hr := h.resting
  refine ⟨exec_taken (r := .meshTableClear) rfl hfree rfl (Resting.still { hr with } h.2), fun i cs hcs => ?text,
    fun kind => exec_taken (r := .unknown kind) rfl hfree rfl h, exec_taken (r := .restart) rfl hfree rfl h⟩
  case text =>
    refine exec_taken (r := .pendantText (i.val + 1) cs) (t := { s with pp.lines := s.pp.lines.set i ⟨cs, true⟩ }) rfl
      hfree ?_ (Resting.still { hr with } h.2)
    have hline : 1 ≤ i.val + 1 ∧ i.val + 1 ≤ 4 := ⟨by omega, by omega⟩
    have hall : (cs.all fun c => decide (0x20 ≤ c ∧ c ≤ 0x7E)) = true := by simpa using hcs
    show servePendantText _ _ _ = _
    unfold servePendantText
    rw [dif_pos hline, if_pos hall]
    simp only [Nat.add_sub_cancel]
    rfl

/-! ## The line test (R178, R179) -/

theorem mem_allAxes (a : Axis) : a ∈ allAxes := by cases a <;> decide

theorem not_owner {s : State} {o : Owner} (h : anyOwner s o = false) (a : Axis) : (s.ax.get a).owner ≠ o := by
  unfold anyOwner at h
  have ha := List.any_eq_false.1 h a (mem_allAxes a)
  simpa using ha

/-- A pendant that is none of any axis: the closing rules read nothing of it. -/
theorem Resting.unjogged {s : State} (h : Resting s) (p : Pendant) (hp : anyOwner s .pendant = false) :
    Resting { s with pp := p } :=
  { h with giveBack := fun a e => not_owner hp a e.1 }

/-- In TESTING no jog is permitted, and none is once it has ended, so an axis is given back no sooner. -/
theorem still_testEnd {s : State} (h : Still s) (hp : s.pp.st = .testing) (r : LtResult) :
    Still (endLineTest r s) := by
  have hno : jogPermitted s = false := by unfold jogPermitted; rw [hp]; rfl
  have hr : Resting
      { s with pp.st := .absent, pp.ltLast := some r, pp.ltPhase := .none, pp.ltT := .stopped, pp.power := true } :=
    { h.resting with
      giveBack := fun a e => h.resting.giveBack a ⟨e.1, e.2.1, e.2.2.1, .inr hno⟩ }
  refine Resting.still ((hr.queueReport _).queueReport _) ?_
  show (queueReport _ (queueReport _ _)).pp.answerDue = false
  rw [queueReport_pp, queueReport_pp]; exact h.2

/-- Settles O53. -/
theorem lineTestRuns : Obligations.LineTestRuns := by
  intro s h
  have hr := h.resting
  refine ⟨fun tag hfree hst hown => ?request, fun hw ht => ?wait, fun hl ht => ?listen, fun hp row r hrow => ?ends⟩
  case request =>
    have hstart : startLineTest s = fall .pendantEnableMismatch
        (queueReport (.pendantState .testing s.pp.st .testStart)
          { s with pp.st := .testing, pp.armed := false, pp.freshT := .stopped, pp.mismT := .stopped, pp.power := false,
                   pp.ltPhase := .wait, pp.ltT := ⟨true, 0, 300⟩, pp.rx := .hunting }) := by
      unfold startLineTest setPend; rw [← h.2]; rfl
    have hserve : serve .lineTest (linkCleared s) = (⟨.ok, []⟩, linkCleared (startLineTest s)) := by
      rw [← startLineTest_linkCleared]
      exact if_neg (fun e => e.elim hst (fun e => Bool.false_ne_true (hown.symm.trans e)))
    rw [← hstart]
    refine exec_taken (r := .lineTest) rfl hfree hserve ?_
    rw [hstart]
    refine Resting.still (((hr.unjogged _ hown).queueReport _).fall ⟨by decide, by decide⟩) ?_
    rw [fall_pp, queueReport_pp]; exact h.2
  case wait =>
    have hdue : waitDue s = true := by unfold waitDue; simp [hw, ht]
    exact (congrArg done (whenDue_true hdue _ s)).trans (done_still (Resting.still { hr with } h.2))
  case listen =>
    have hdue : listenDue s = true := by unfold listenDue; simp [hl, ht]
    exact (congrArg done (whenDue_true hdue _ s)).trans (done_still (Resting.still { hr with } h.2))
  case ends =>
    have hend : exec row s = done (endLineTest r s) := by
      obtain ⟨rfl, hph, rfl⟩ | ⟨rfl, hph, rfl⟩ | ⟨ns, inv, rfl, hph, hin, rfl⟩ := hrow
      · exact congrArg done (whenDue_true (by rw [hph]; rfl) _ s)
      · exact congrArg done (whenDue_true (by rw [hph]; rfl) _ s)
      · exact congrArg done (whenDue_true (by unfold echoInWindow echoDistance; simp [hph, hin]) _ s)
    have hfin : endLineTest r s = queueReport (.lineTestDone r) (queueReport (.pendantState .absent .testing .testEnd)
        { s with pp.st := .absent, pp.ltLast := some r, pp.ltPhase := .none, pp.ltT := .stopped, pp.power := true }) := by
      unfold endLineTest setPend; rw [← hp]
    rw [hend, done_still (still_testEnd h hp r), hfin]
end Sys2Proof.Machine
end

section
/-! SUPPORT and CLAIMS. The input filter (R184), the analog channels and their comparators (R188 to R190). -/

namespace Sys2Proof.Machine

/-! ## Inputs -/

theorem aside_filterStep_due {s : State} {n : Fin 32} (hd : s.inp[n].due = true) :
    aside (filterStep n s) = aside (updInp n (fun i => { i with filt := i.raw, settled := true }) s) := by
  unfold filterStep; rw [if_pos hd, aside_deliver]

theorem aside_finish_parts (s : State) :
    (finish s).cs = s.cs ∧ (finish s).inp = s.inp ∧ (finish s).am = s.am ∧ (finish s).pending = s.pending ∧
      (finish s).hlp.slot = s.hlp.slot := by
  obtain ⟨hp, hcs, hinp, ham, hl, -⟩ := whatFollowsACommand s
  exact ⟨hcs, hinp, ham, hp, by have := congrArg HostLink.slot hl; exact this⟩

/-- A changed raw level alone is read by no closing rule. -/
theorem still_rawLevel {s : State} (h : Still s) (n : Fin 32) (level : Bool) :
    Still (updInp n (fun i => { i with raw := level, t := 0 }) s) := by
  refine (h.resting.inputs fun m => ?_).still h.2
  show (s.inp.set n.val { s.inp[n] with raw := level, t := 0 })[m.val].filt = s.inp[m.val].filt
  rw [Vector.getElem_set]
  split
  · next e => simp only [← e]; rfl
  · rfl

/-- Settles O55. -/
theorem inputsFilter : Obligations.InputsFilter := by
  intro s n
  refine ⟨fun level h hne hft => ?raw, fun h => ?same, fun hft hdiff => ?filter⟩
  case raw =>
    have hraw : rawChange n level s = updInp n (fun i => { i with raw := level, t := 0 }) s := by
      unfold rawChange filterStep
      have hpos : s.inp[n.val].ft ≠ 0 := (Nat.ne_of_gt hft)
      rw [if_neg hne, if_neg]
      simp [updInp, InputCh.due, hpos]
    show done (rawChange n level s) = _
    rw [hraw, done_still (still_rawLevel h n level)]; rfl
  case same =>
    show done (rawChange n _ s) = _
    rw [show rawChange n s.inp[n].raw s = s from if_pos rfl, done_still h]
  case filter =>
    have hdue : s.inp[n].due = true := by
      unfold InputCh.due
      rw [decide_eq_true hft, Bool.true_and]; simpa using hdiff
    have hside := aside_filterStep_due hdue
    simp only [aside, Prod.mk.injEq] at hside
    obtain ⟨hp, hcs, hinp, ham, hl⟩ := hside
    obtain ⟨fcs, finp, fam, fp, fslot⟩ := aside_finish_parts (filterStep n s)
    exact ⟨_, rfl, finp.trans hinp, fcs.trans hcs, fam.trans ham, fp.trans hp,
      fslot.trans (congrArg HostLink.slot hl)⟩

/-! ## Conversions -/

/-- The comparators of distinct indices each take the sample, and nothing else changes. -/
theorem foldl_cmpWork (v : Nat) {l : List (Fin 7)} (hl : l.Nodup) (s : State) :
    (l.foldl (cmpWork v) s).am.next = s.am.next ∧ (l.foldl (cmpWork v) s).am.chans = s.am.chans ∧
      (l.foldl (cmpWork v) s).inp = s.inp ∧ (l.foldl (cmpWork v) s).cs = s.cs ∧
      ∀ i : Fin 7, (l.foldl (cmpWork v) s).am.cmps[i] = if i ∈ l then cmpStep s.am.cmps[i] v else s.am.cmps[i] := by
  induction l generalizing s with
  | nil => exact ⟨rfl, rfl, rfl, rfl, fun i => by simp⟩
  | cons j l ih =>
    obtain ⟨hj, hl⟩ := List.nodup_cons.1 hl
    obtain ⟨hn, hc, hi, hb, hk⟩ := ih hl (cmpWork v s j)
    refine ⟨hn, hc, hi, hb, fun i => ?_⟩
    have hset : (cmpWork v s j).am.cmps[i] = if j = i then cmpStep s.am.cmps[i] v else s.am.cmps[i] := by
      show (s.am.cmps.set j.val _)[i.val] = _
      rw [Vector.getElem_set]
      by_cases e : j = i
      · subst e; simp
      · rw [if_neg e, if_neg (fun h => e (Fin.ext h))]; rfl
    rw [List.foldl_cons, hk i, hset]
    by_cases e : j = i
    · subst e; simp [hj]
    · simp [e, Ne.symm e]

theorem channelCmps_nodup (ch : Fin 7) : (channelCmps ch).Nodup := by
  revert ch; decide

theorem aside_conversion (counts : Nat) (s : State) :
    aside (conversion counts s) = aside ((channelCmps s.am.next).foldl
      (cmpWork (scaleCounts s.am.chans[s.am.next] counts))
      { s with
        am.chans := s.am.chans.set s.am.next
          { s.am.chans[s.am.next] with counts := counts, scaled := scaleCounts s.am.chans[s.am.next] counts }
        am.next := s.am.next + 1 }) := by
  unfold conversion
  dsimp only
  split
  · rw [aside_tscSample, aside_foldl _ fun u i => aside_deliverCmp i u]
  · rw [aside_foldl _ fun u i => aside_deliverCmp i u]

/-! ## Scaling (R189) -/

theorem scaleCounts_le (k : AnalogCh) (counts : Nat) : scaleCounts k counts ≤ k.span := by
  have h := clampInt_range (show (0 : Int) ≤ k.span by omega)
    (divFloor (((counts : Int) - k.zero) * k.span) (4095 - k.zero))
  unfold scaleCounts; omega

theorem scaleCounts_of_ge {k : AnalogCh} {counts : Nat} (hz : k.zero < 4095) (hc : counts ≤ 4095)
    (h : k.zero ≤ counts) : scaleCounts k counts = (counts - k.zero) * k.span / (4095 - k.zero) := by
  have hquot : divFloor (((counts : Int) - k.zero) * k.span) (4095 - k.zero) =
      ((counts - k.zero) * k.span / (4095 - k.zero) : Nat) := by
    unfold divFloor
    rw [Int.fdiv_eq_ediv_of_nonneg _ (by omega)]
    push_cast [h, hz.le]; rfl
  have hle : (counts - k.zero) * k.span / (4095 - k.zero) ≤ k.span :=
    Nat.div_le_of_le_mul (Nat.mul_le_mul_right _ (by omega))
  unfold scaleCounts
  rw [hquot, clampInt_of_mem (Int.natCast_nonneg _) (by exact_mod_cast hle)]
  rfl

theorem scaleCounts_of_le {k : AnalogCh} {counts : Nat} (hz : k.zero < 4095) (h : counts ≤ k.zero) :
    scaleCounts k counts = 0 := by
  have hneg : ((counts : Int) - k.zero) * k.span ≤ 0 := mul_nonpos_of_nonpos_of_nonneg (by omega) (by omega)
  have hquot : divFloor (((counts : Int) - k.zero) * k.span) (4095 - k.zero) ≤ 0 := by
    unfold divFloor
    rw [Int.fdiv_eq_ediv_of_nonneg _ (by omega)]
    exact Int.ediv_nonpos_of_nonpos_of_neg hneg (by omega)
  unfold scaleCounts clampInt
  omega

/-! ## Comparators (R190) -/

/-- Samples on the other side count, up to one less than `confirm`. -/
theorem foldl_cmpStep_counts {l : List Nat} {c : Cmp} (hl : ∀ v ∈ l, decide (c.thr ≤ v) ≠ c.above)
    (hc : c.cnt + l.length < c.conf) : l.foldl cmpStep c = { c with cnt := c.cnt + l.length } := by
  induction l generalizing c with
  | nil => rfl
  | cons v l ih =>
    have hv := hl v List.mem_cons_self
    have hstep : cmpStep c v = { c with cnt := c.cnt + 1 } := by
      unfold cmpStep; rw [if_neg hv, if_neg (by simp only [List.length_cons] at hc; omega)]
    have hrest := ih (c := { c with cnt := c.cnt + 1 }) (fun w hw => hl w (List.mem_cons_of_mem _ hw))
      (by simp only [List.length_cons] at hc; dsimp only; omega)
    rw [List.foldl_cons, hstep, hrest]
    simp only [List.length_cons, Cmp.mk.injEq, true_and, and_true]
    omega

/-- Settles O56. -/
theorem conversionsScaleAndCompare : Obligations.ConversionsScaleAndCompare := by
  refine ⟨fun s counts hc => ?conversion, fun k counts hz hc => ?scale, fun c l h0 h1 hl => ?compare⟩
  case conversion =>
    have hmin : min 4095 counts = counts := by omega
    obtain ⟨fcs, finp, fam, -, -⟩ := aside_finish_parts (conversion counts s)
    have hside := aside_conversion counts s
    simp only [aside, Prod.mk.injEq] at hside
    obtain ⟨-, hcs, hinp, ham, -⟩ := hside
    obtain ⟨kn, kc, ki, kb, kk⟩ := foldl_cmpWork (scaleCounts s.am.chans[s.am.next] counts)
      (channelCmps_nodup s.am.next)
      { s with
        am.chans := s.am.chans.set s.am.next
          { s.am.chans[s.am.next] with counts := counts, scaled := scaleCounts s.am.chans[s.am.next] counts }
        am.next := s.am.next + 1 }
    refine ⟨finish (conversion counts s), ?_, ?_, ?_, fun i => ?_, ?_, ?_⟩
    · show done (conversion (min 4095 counts) s) = _
      rw [hmin]; rfl
    · rw [fam, ham]; exact kn
    · rw [fam, ham]; exact kc
    · rw [fam, ham]; exact kk i
    · rw [finp, hinp]; exact ki
    · rw [fcs, hcs]; exact kb
  case scale =>
    refine ⟨scaleCounts_le k counts, ?_, scaleCounts_of_le hz, scaleCounts_of_ge hz hc⟩
    rw [scaleCounts_of_ge hz le_rfl hz.le]
    exact Nat.mul_div_cancel_left _ (by omega)
  case compare =>
    refine ⟨fun hlen => by rw [foldl_cmpStep_counts hl (by omega)], fun hlen => ?_⟩
    obtain rfl | ⟨init, last, rfl⟩ := List.eq_nil_or_concat l
    · simp at hlen; omega
    · simp only [List.concat_eq_append, List.length_append, List.length_singleton] at hlen hl ⊢
      have hlast := hl last (by simp)
      rw [List.foldl_append, foldl_cmpStep_counts (fun v hv => hl v (by simp [hv])) (by omega)]
      simp only [List.foldl_cons, List.foldl_nil]
      unfold cmpStep
      rw [if_neg hlast, if_pos (by dsimp only; omega)]

end Sys2Proof.Machine
end

section
/-! CLAIMS. The coolant's and the pendant's timers at their limits, and the FLOOD press. -/

namespace Sys2Proof.Machine

/-! ## The FLOOD press (7.1) -/

theorem floodPress_eq {s : State} (h : s.cn.machine ≠ .tripped) :
    floodPress s = if s.cu.floodDem then floodOff { s with cu.floodDem := false }
      else floodFresh { s with cu.floodDem := true } := by
  unfold floodPress coolantWrite
  rw [if_neg h]
  cases s.cu.floodDem <;> rfl

/-- A fresh flood demand touches the flood circuit of CU alone. -/
theorem floodFresh_cu (s : State) : (floodFresh s).cu.floodDem = s.cu.floodDem ∧
    (floodFresh s).cu.tscDem = s.cu.tscDem ∧ (floodFresh s).cu.mistDem = s.cu.mistDem ∧
    (floodFresh s).cu.setP = s.cu.setP ∧ (floodFresh s).cu.tsc = s.cu.tsc := by
  have hfault : (floodFault 3 s).cu = { s.cu with flood := .fault, proveT := .stopped, floodDryT := .stopped } := by
    unfold floodFault; rw [raiseHold_cu]
  unfold floodFresh
  cases s.cu.flood with
  | off | fault =>
    dsimp only
    split
    · exact ⟨rfl, rfl, rfl, rfl, rfl⟩
    · rw [hfault]; exact ⟨rfl, rfl, rfl, rfl, rfl⟩
  | proving | on => exact ⟨rfl, rfl, rfl, rfl, rfl⟩

/-- Settles O47. -/
theorem floodPressToggles : Obligations.FloodPressToggles := by
  intro s
  refine ⟨fun h => if_pos h, fun h => ?_⟩
  rw [floodPress_eq h]
  cases hd : s.cu.floodDem with
  | true => exact ⟨rfl, rfl, rfl, rfl, rfl, rfl⟩
  | false => exact ⟨(floodFresh_cu _).1, rfl, (floodFresh_cu _).2⟩

/-! ## The coolant timers -/

theorem endAllJogs_noJog {s : State} (h : noJog s) (e : EndStep) : endAllJogs e s = s := by
  have hj : s.pp.jogs.map (fun a j => endJogOf e (s.ax.get a).setpoint j) = s.pp.jogs :=
    PerAxis.ext_get fun a => by
      rw [PerAxis.get_map]; unfold endJogOf; rw [h a]
  unfold endAllJogs; rw [hj]

/-- Settles O48. -/
theorem coolantTimersRunOut : Obligations.CoolantTimersRunOut := by
  intro s
  refine ⟨fun row v hrow => ?flood, fun row v hrow => ?tsc, fun c q v _ hrun hret hjog => ?raise,
    fun h hst hdue => ?keep, fun h hst hdue hon => ?purge⟩
  case flood =>
    obtain ⟨rfl, rfl, hdue⟩ | ⟨rfl, rfl, hdue⟩ := hrow <;> exact congrArg done (whenDue_true hdue _ s)
  case tsc =>
    obtain ⟨rfl, rfl, hdue⟩ | ⟨rfl, rfl, hdue⟩ := hrow <;> exact congrArg done (whenDue_true hdue _ s)
  case raise =>
    have hhold : sqHold (latch c q v s) = latch c q v s := by
      unfold sqHold; rw [latch_sq, if_neg (by simp [hrun, hret])]
    have hno : noJog (latch c q v s) := by unfold noJog; rw [latch_pp]; exact hjog
    unfold raiseHold
    dsimp only
    rw [hhold, endAllJogs_noJog hno, ite_self]
  case keep =>
    refine (congrArg done (whenDue_true hdue _ s)).trans (done_still (Resting.still ?_ h.2))
    exact { h.resting with }
  case purge =>
    have hdone : purgeDone s = { s with cu.tsc := .off, cu.purgeT := .stopped } := by
      unfold purgeDone
      simp [hst, hon]
    refine (congrArg done (whenDue_true hdue _ s)).trans ?_
    rw [hdone]
    refine done_still (Resting.still (h.resting.coolant h.resting.flood rfl ?_) h.2)
    exact ⟨rfl, by rw [hst]; rfl, rfl, by rw [hst]; rfl⟩

/-! ## The pendant's timers -/

/-- Settles O51. -/
theorem pendantTimersEnd : Obligations.PendantTimersEnd := by
  intro s h
  have hr := h.resting
  refine ⟨fun hdue hseen f hf => ?seen, fun hdue hseen => ?unseen, fun hdue => ?refuse, fun hdue => ?clip,
    done_still (Resting.still { hr with } h.2)⟩
  case refuse =>
    exact (congrArg done (whenDue_true hdue _ s)).trans (done_still (Resting.still { hr with } h.2))
  case clip =>
    exact (congrArg done (whenDue_true hdue _ s)).trans (done_still (Resting.still { hr with } h.2))
  case seen =>
    have hstart : startInterval s =
        { s with pp.intT := ⟨true, 0, 20⟩, pp.intCount := 0, pp.clipped := false, pp.intAxis := f.sel, pp.intMult := f.mult,
                 pp.intLimit := (f.sel.map fun a =>
                   max 1 ((s.ax.get a).p.hwSpeed * 20 / (1000 * f.mult.num))).getD 1 } := by
      unfold startInterval selected intervalLimit
      rw [hseen, hf]
      cases hsel : f.sel <;> simp [hsel] <;> rfl
    refine (congrArg done (whenDue_true hdue _ s)).trans ?_
    rw [hstart]
    exact done_still (Resting.still { hr with } h.2)
  case unseen =>
    have hstart : startInterval s =
        { s with pp.intT := ⟨true, 0, 20⟩, pp.intCount := 0, pp.clipped := false, pp.intAxis := none, pp.intMult := .m1,
                 pp.intLimit := 1 } := by
      unfold startInterval; rw [hseen]; rfl
    refine (congrArg done (whenDue_true hdue _ s)).trans ?_
    rw [hstart]
    exact done_still (Resting.still { hr with } h.2)

/-- Settles O52. -/
theorem pendantLossAndMismatch : Obligations.PendantLossAndMismatch := by
  intro s f hf
  refine ⟨fun hst hdue => ?lost, fun hdue hraw => ?mismatch⟩
  case lost =>
    have hfresh : freshDue s = true := by unfold freshDue; simp [hst, hdue]
    refine (congrArg done (whenDue_true hfresh _ s)).trans ?_
    unfold pendantLost setPend
    rw [hf]
    simp only [hst, beq_iff_eq]
    rfl
  case mismatch =>
    have hmis : mismatchDue s = true := by unfold mismatchDue; simp [hdue, hraw]
    refine (congrArg done (whenDue_true hmis _ s)).trans ?_
    unfold mismatchRaise riseHold
    rw [hf]
    exact congrArg done (if_neg (fun e => Bool.false_ne_true (hraw.symm.trans e)))

end Sys2Proof.Machine
end

section
/-! SUPPORT and CLAIMS. Requests by their answers: a refused one leaves the state, and its answer is the same whatever
the receiver and the FIFO hold; one that only reads leaves the state and is answered OK. -/

namespace Sys2Proof.Machine

/-! ## Answers -/

/-- Two services of a request, in states that differ in the link: both take it, or both refuse it alike. -/
def AlikeBy {α : Type} (code : α → Code) (s t : State) (x y : α × State) : Prop :=
  (code x.1 = .ok ∧ code y.1 = .ok) ∨ (x = (x.1, s) ∧ y = (x.1, t))

/-- Two services by their answers. -/
abbrev Alike : State → State → Answer × State → Answer × State → Prop := AlikeBy Answer.code

section
variable {α : Type} {code : α → Code} {s t : State}

theorem alike_ok {x y : α × State} (hx : code x.1 = .ok) (hy : code y.1 = .ok) : AlikeBy code s t x y := .inl ⟨hx, hy⟩

theorem alike_refused {a : α} : AlikeBy code s t (a, s) (a, t) := .inr ⟨rfl, rfl⟩

theorem alike_ite {p q : Prop} [Decidable p] [Decidable q] {x x' y y' : α × State} (h : p ↔ q)
    (h1 : AlikeBy code s t x y) (h2 : AlikeBy code s t x' y') :
    AlikeBy code s t (if p then x else x') (if q then y else y') := by
  by_cases hp : p
  · rw [if_pos hp, if_pos (h.1 hp)]; exact h1
  · rw [if_neg hp, if_neg (fun hq => hp (h.2 hq))]; exact h2

end

theorem alike_append (s : State) (n : Nat) (l : List RawRec) :
    Alike s (linkCleared s) (serveAppend n l s) (serveAppend n l (linkCleared s)) := by
  unfold serveAppend
  refine alike_ite Iff.rfl alike_refused (alike_ite Iff.rfl alike_refused (alike_ite Iff.rfl alike_refused
    (alike_ite Iff.rfl alike_refused ?_)))
  cases l.findIdx? fun r => (recOf r).isNone with
  | some i => exact alike_refused
  | none => exact alike_ok rfl rfl

theorem alike_ack (s : State) (n : Nat) (l : List (Nat × Nat)) :
    Alike s (linkCleared s) (serveAck n l s) (serveAck n l (linkCleared s)) := by
  unfold serveAck
  refine alike_ite Iff.rfl (alike_ok rfl rfl) (alike_ite Iff.rfl alike_refused ?_)
  cases l.findIdx? fun p => (condOf p.1 p.2).isNone with
  | some i => exact alike_refused
  | none => exact alike_ok rfl rfl

theorem alike_setParam (s : State) (i n : Nat) (v : Int) :
    Alike s (linkCleared s) (serveSetParam i n v s) (serveSetParam i n v (linkCleared s)) := by
  have href : ∀ p, writeRefusal (linkCleared s) p v = writeRefusal s p v := fun p => by cases p <;> rfl
  have hrange : ∀ p, paramRange (linkCleared s) p = paramRange s p := fun p => by cases p <;> rfl
  unfold serveSetParam
  cases paramOf i n with
  | none => exact alike_refused
  | some p =>
    refine alike_ite (by rw [hrange]) alike_refused ?_
    rw [href]
    cases writeRefusal s p v with
    | some c => exact alike_refused
    | none => exact alike_ok rfl rfl

/-- A START's or a RESUME's answer is its code. -/
theorem alike_plain {s t : State} {x y : Code × State} (h : AlikeBy id s t x y) :
    Alike s t (plain x.1 x.2) (plain y.1 y.2) := by
  obtain ⟨hx, hy⟩ | ⟨hx, hy⟩ := h
  · exact alike_ok hx hy
  · rw [hx, hy]; exact alike_refused

theorem alike_resume (s : State) : AlikeBy id s (linkCleared s) (resumeRequest s) (resumeRequest (linkCleared s)) :=
  alike_ite Iff.rfl alike_refused (alike_ite Iff.rfl alike_refused (alike_ite Iff.rfl alike_refused
    (alike_ite Iff.rfl alike_refused (alike_ok rfl rfl))))

theorem alike_start (s : State) : AlikeBy id s (linkCleared s) (startRequest s) (startRequest (linkCleared s)) := by
  unfold startRequest
  rw [show (linkCleared s).sq = s.sq from rfl]
  cases s.sq.st with
  | idle =>
    exact alike_ite Iff.rfl alike_refused (alike_ite Iff.rfl alike_refused (alike_ite Iff.rfl alike_refused
      (alike_ite Iff.rfl alike_refused (alike_ok rfl rfl))))
  | held => exact alike_resume s
  | running | returning => exact alike_ok rfl rfl
  | holding | stopping => exact alike_refused

theorem alike_clampSet (s : State) (n a : Nat) :
    Alike s (linkCleared s) (serveClampSet n a s) (serveClampSet n a (linkCleared s)) := by
  unfold serveClampSet serveClamp serveRelease
  split
  · cases clampOf a with
    | none => exact alike_refused
    | some c =>
      exact alike_ite Iff.rfl alike_refused (alike_ite Iff.rfl alike_refused (alike_ite Iff.rfl alike_refused
        (alike_ok rfl rfl)))
  · cases clampOf a with
    | none => exact alike_refused
    | some c => exact alike_ite Iff.rfl alike_refused (alike_ite Iff.rfl alike_refused (alike_ok rfl rfl))
  · exact alike_ok rfl rfl
  · exact alike_refused

theorem alike_spindleStop (s : State) :
    Alike s (linkCleared s) (serveSpindleStop s) (serveSpindleStop (linkCleared s)) :=
  alike_ite Iff.rfl (alike_ok rfl rfl) (alike_ite Iff.rfl alike_refused (alike_ok rfl rfl))

theorem alike_spindleSet (s : State) (n v d : Nat) :
    Alike s (linkCleared s) (serveSpindleSet n v d s) (serveSpindleSet n v d (linkCleared s)) := by
  unfold serveSpindleSet serveSpindleRun
  split
  · exact alike_ite Iff.rfl alike_refused (alike_ite Iff.rfl (alike_spindleStop s) (alike_ite Iff.rfl alike_refused
      (alike_ite Iff.rfl alike_refused (alike_ite Iff.rfl alike_refused (alike_ite Iff.rfl alike_refused
        (alike_ok rfl rfl))))))
  · exact alike_spindleStop s
  · exact alike_ok rfl rfl
  · exact alike_refused

/-- A request is taken or refused alike whatever the receiver and the FIFO hold. -/
theorem alike_serve (r : Request) (s : State) : Alike s (linkCleared s) (serve r s) (serve r (linkCleared s)) := by
  cases r with
  | identify | status | restart | hold | stop | queueStatus | meshTableRead | meshTableClear | pendantStatus
  | inputRead | analogRead => exact alike_ok rfl rfl
  | unknown k | badLength k | reserved k => exact alike_refused
  | ackConditions n l => exact alike_ack s n l
  | resetTrip =>
    exact alike_ite Iff.rfl alike_refused (alike_ite Iff.rfl alike_refused (alike_ok rfl rfl))
  | setParam i n v => exact alike_setParam s i n v
  | getParam i n =>
    show Alike s _ (serveGetParam i n s) (serveGetParam i n _)
    unfold serveGetParam
    cases paramOf i n with
    | none => exact alike_refused
    | some p => exact alike_ok rfl rfl
  | append n l => exact alike_append s n l
  | start => exact alike_plain (alike_start s)
  | resume => exact alike_plain (alike_resume s)
  | flush => exact alike_ite Iff.rfl (alike_ok rfl rfl) alike_refused
  | setOverride f r p o =>
    show Alike s _ (serveOverride f r p o s) (serveOverride f r p o _)
    unfold serveOverride
    exact alike_ite Iff.rfl alike_refused (alike_ite Iff.rfl alike_refused (alike_ok rfl rfl))
  | home i =>
    show Alike s _ (serveHome i s) (serveHome i _)
    unfold serveHome
    cases axisOf i with
    | none => exact alike_refused
    | some a =>
      exact alike_ite Iff.rfl alike_refused (alike_ite Iff.rfl alike_refused (alike_ite Iff.rfl alike_refused
        (alike_ite Iff.rfl alike_refused (alike_ite Iff.rfl alike_refused (alike_ok rfl rfl)))))
  | axisStatus i =>
    show Alike s _ (serveAxisStatus i s) (serveAxisStatus i _)
    unfold serveAxisStatus
    cases axisOf i with
    | none => exact alike_refused
    | some a => exact alike_ok rfl rfl
  | compLoad i f l =>
    show Alike s _ (serveCompLoad i f l s) (serveCompLoad i f l _)
    unfold serveCompLoad
    cases axisOf i with
    | none => exact alike_refused
    | some a =>
      refine alike_ite Iff.rfl alike_refused ?_
      cases l.findIdx? fun v => !pointOk v with
      | some i => exact alike_refused
      | none => exact alike_ite Iff.rfl alike_refused (alike_ok rfl rfl)
  | compCommit i c o p m k =>
    show Alike s _ (serveCompCommit i c o p m k s) (serveCompCommit i c o p m k _)
    unfold serveCompCommit
    cases axisOf i with
    | none => exact alike_refused
    | some a =>
      refine alike_ite Iff.rfl alike_refused (alike_ite Iff.rfl alike_refused ?_)
      show Alike s _ _ (match firstMissing (s.cs.get a) c with | some i => _ | none => _)
      cases firstMissing (s.cs.get a) c with
      | some i => exact alike_refused
      | none => exact alike_ite Iff.rfl alike_refused (alike_ok rfl rfl)
  | compClear i =>
    show Alike s _ (serveCompClear i s) (serveCompClear i _)
    unfold serveCompClear
    cases axisOf i with
    | none => exact alike_refused
    | some a => exact alike_ok rfl rfl
  | compRead i f n =>
    show Alike s _ (serveCompRead i f n s) (serveCompRead i f n _)
    unfold serveCompRead
    cases axisOf i with
    | none => exact alike_refused
    | some a => exact alike_ite Iff.rfl alike_refused (alike_ok rfl rfl)
  | clampSet n a => exact alike_clampSet s n a
  | spindleSet n v d => exact alike_spindleSet s n v d
  | gearSelect i =>
    show Alike s _ (serveGearSelect i s) (serveGearSelect i _)
    unfold serveGearSelect
    cases rangeOf i with
    | none => exact alike_refused
    | some r =>
      exact alike_ite Iff.rfl alike_refused (alike_ite Iff.rfl alike_refused (alike_ite Iff.rfl alike_refused
        (alike_ite Iff.rfl alike_refused (alike_ite Iff.rfl (alike_ok rfl rfl) (alike_ok rfl rfl)))))
  | coolantSet f t m p =>
    show Alike s _ (serveCoolant f t m p s) (serveCoolant f t m p _)
    unfold serveCoolant
    cases demOf f <;> cases demOf t <;> cases demOf m
    case some.some.some => exact alike_ite Iff.rfl alike_refused (alike_ok rfl rfl)
    all_goals exact alike_refused
  | pendantText n l =>
    show Alike s _ (servePendantText n l s) (servePendantText n l _)
    unfold servePendantText
    split
    · exact alike_ite Iff.rfl (alike_ok rfl rfl) alike_refused
    · exact alike_refused
  | lineTest => exact alike_ite Iff.rfl alike_refused (alike_ok rfl rfl)

/-- A refused request leaves the state, and is refused alike whatever the receiver and the FIFO hold. -/
theorem serve_refused {r : Request} {s : State} (h : (serve r s).1.code ≠ .ok) :
    (serve r s).2 = s ∧ serve r (linkCleared s) = ((serve r s).1, linkCleared s) := by
  obtain ⟨hok, -⟩ | ⟨hx, hy⟩ := alike_serve r s
  · exact absurd hok h
  · exact ⟨congrArg Prod.snd hx, hy⟩

theorem exec_refused {s : State} {c : Instr} {tag : Nat} {r : Request} (h : Still s) (hfree : LinkFree s)
    (hc : requestOf c = some (tag, r)) (hr : (serve r s).1.code ≠ .ok) :
    exec c s = .next (transmit (replied (requestKind r) tag (serve r s).1 s)) :=
  exec_taken hc hfree (serve_refused hr).2 h

/-- Settles O13. -/
theorem refusedRequestsChangeNothing : Obligations.RefusedRequestsChangeNothing :=
  ⟨fun _ _ h => (serve_refused h).1, fun _ _ _ _ h hfree hc hr => exec_refused h hfree hc hr⟩

/-! ## Requests that only read -/

theorem axisOf_isSome {i : Nat} (h : i < 5) : ∃ a, axisOf i = some a := by
  interval_cases i <;> exact ⟨_, rfl⟩

/-- A request that only reads is answered OK, leaves the state, and reads nothing of the receiver and the FIFO. -/
theorem serve_query {r : Request} (h : isQuery r = true) (s : State) :
    (serve r s).1.code = .ok ∧ serve r (linkCleared s) = ((serve r s).1, linkCleared s) := by
  cases r with
  | identify | status | queueStatus | meshTableRead | pendantStatus | inputRead | analogRead => exact ⟨rfl, rfl⟩
  | getParam i n =>
    have hv : ∀ p, paramValue (linkCleared s) p = paramValue s p := fun p => by cases p <;> rfl
    obtain ⟨p, hp⟩ := Option.isSome_iff_exists.1 h
    show (serveGetParam i n s).1.code = .ok ∧ serveGetParam i n (linkCleared s) = ((serveGetParam i n s).1, _)
    unfold serveGetParam
    rw [hp]
    dsimp only
    rw [hv]
    exact ⟨rfl, rfl⟩
  | axisStatus i =>
    have hi : i < 5 := of_decide_eq_true h
    show (serveAxisStatus i s).1.code = .ok ∧ serveAxisStatus i (linkCleared s) = ((serveAxisStatus i s).1, _)
    unfold serveAxisStatus
    obtain ⟨a, ha⟩ := axisOf_isSome hi
    rw [ha]; exact ⟨rfl, rfl⟩
  | compRead i f n =>
    obtain ⟨hi, hf, hn, hfn⟩ := of_decide_eq_true h
    show (serveCompRead i f n s).1.code = .ok ∧ serveCompRead i f n (linkCleared s) = ((serveCompRead i f n s).1, _)
    unfold serveCompRead
    obtain ⟨a, ha⟩ := axisOf_isSome hi
    have hrange : ¬(127 < f ∨ 32 < n ∨ 128 < f + n) := by omega
    rw [ha]
    dsimp only
    rw [if_neg hrange, if_neg hrange]
    exact ⟨rfl, rfl⟩
  | clampSet n a =>
    obtain rfl : n = 2 := by
      unfold isQuery at h; split at h <;> simp_all
    exact ⟨rfl, rfl⟩
  | spindleSet n v d =>
    obtain rfl : n = 2 := by
      unfold isQuery at h; split at h <;> simp_all
    exact ⟨rfl, rfl⟩
  | _ => cases h

/-- Settles O12. -/
theorem queriesOnlyReply : Obligations.QueriesOnlyReply := fun s _ _ _ h hfree hc hq =>
  ⟨(serve_query hq s).1, exec_taken hc hfree (serve_query hq s).2 h⟩

end Sys2Proof.Machine
end

section
/-! SUPPORT and CLAIMS. The host link: frames read back, discarded frames, requests that wait, and frames that have been
sent (R209 to R213). -/

namespace Sys2Proof.Machine

/-! ## Frames (R209) -/

theorem toNat_byteOf {n : Nat} (h : n < 256) : (byteOf n).toNat = n := by
  unfold byteOf; rw [BitVec.toNat_ofNat]; exact Nat.mod_eq_of_lt h

theorem crcBit_lt (c : Nat) : crcBit c < 65536 := by
  unfold crcBit
  split
  · exact Nat.xor_lt_two_pow (n := 16) (Nat.mod_lt _ (by decide)) (by decide)
  · omega

theorem crcByte_lt (c : Nat) (b : Byte) : crcByte c b < 65536 := by
  unfold crcByte
  rw [Nat.repeat]; exact crcBit_lt _

theorem crc16_lt (l : List Byte) : crc16 l < 65536 := by
  unfold crc16
  cases l using List.reverseRecOn with
  | nil => rw [List.foldl_nil]; omega
  | append_singleton l b => rw [List.foldl_append, List.foldl_cons, List.foldl_nil]; exact crcByte_lt _ _

theorem crcMatches_own (l : List Byte) : crcMatches l (byteOf (crc16 l / 256)) (byteOf (crc16 l)) = true := by
  have h := crc16_lt l
  unfold crcMatches byteOf
  simp only [BitVec.toNat_ofNat, beq_iff_eq]
  omega

/-- A frame whole in its length, whose CRC matches or not. -/
theorem frameRead_whole (len kind tag hi lo : Byte) (body : List Byte) (s : State) (hlen : body.length + 2 = len.toNat) :
    frameRead (len :: kind :: tag :: (body ++ [hi, lo])) s =
      if len.toNat < 2 ∨ 250 < len.toNat then discardFrame 0 { s with hlp.rx := .hunting }
      else if crcMatches (len :: kind :: tag :: body) hi lo = false then discardFrame 2 { s with hlp.rx := .hunting }
      else if kind.toNat < 1 ∨ 0x3F < kind.toNat then discardFrame 4 { s with hlp.rx := .hunting }
      else accept tag.toNat (parseRequest kind.toNat body) s := by
  have hsub : len.toNat - 2 = body.length := by omega
  unfold frameRead
  simp only [List.length_append, List.length_cons, List.length_nil, hlen, if_true, hsub, List.take_left',
    List.drop_left']
  rfl

/-- A frame built as R209 says is read back as its request. -/
theorem frameRead_frameOf {kind tag : Nat} {body : List Byte} (s : State) (h1 : 1 ≤ kind) (h63 : kind ≤ 63)
    (ht : tag < 256) (hb : body.length ≤ 248) :
    frameRead (frameOf kind tag body).tail s = accept tag (parseRequest kind body) s := by
  have hlen : (byteOf (body.length + 2)).toNat = body.length + 2 := toNat_byteOf (by omega)
  have hkind : (byteOf kind).toNat = kind := toNat_byteOf (by omega)
  show frameRead (byteOf (body.length + 2) :: byteOf kind :: byteOf tag :: (body ++ [_, _])) s = _
  rw [frameRead_whole _ _ _ _ _ _ _ hlen.symm, crcMatches_own, hlen, hkind, toNat_byteOf ht,
    if_neg (by omega), if_neg (by decide), if_neg (by omega)]

theorem finish_hlp (s : State) : (finish s).hlp = { s.hlp with tx := (finish s).hlp.tx } :=
  congrArg Steady.hlp (steady_finish s)

theorem serve_hlp (r : Request) (s : State) : (serve r s).2.hlp = s.hlp := congrArg Prod.snd (linked_serve s r)

/-- What the slot, the FIFO and the receiver hold at the end of the event in which a free link takes a request. -/
theorem finish_accept_of_linkFree {s : State} (h : LinkFree s) (tag : Nat) (r : Request) :
    (finish (accept tag r s)).hlp.rx = .hunting ∧ (finish (accept tag r s)).hlp.fifo = [] ∧
      (finish (accept tag r s)).hlp.slot = some ⟨requestKind r, tag, (serve r (linkCleared s)).1⟩ := by
  have hserve := serve_hlp r (linkCleared s)
  rw [finish_hlp, accept_of_linkFree h]
  exact ⟨congrArg HostLink.rx hserve, congrArg HostLink.fifo hserve, rfl⟩

theorem accept_of_waiting {s : State} (h : s.hlp.slot ≠ none) (tag : Nat) (r : Request) :
    accept tag r s = if s.hlp.fifo.length < 4 then
        { s with hlp.rx := .hunting, hlp.fifo := s.hlp.fifo ++ [⟨tag, r⟩] }
      else latch .frameDiscarded 0 3 { s with hlp.rx := .hunting } := by
  obtain ⟨x, hx⟩ := Option.ne_none_iff_exists'.1 h
  unfold accept takeNext discardFrame
  by_cases hf : s.hlp.fifo.length < 4
  · rw [if_pos hf, if_neg (by omega)]; simp only [hx]
  · rw [if_neg hf, if_pos (by omega)]

/-- Settles O8. -/
theorem framesAreReadBack : Obligations.FramesAreReadBack := by
  refine ⟨fun kind tag body c s h1 h63 ht hb hc => ?row, fun kind tag body s h1 h63 ht hb => ⟨fun hfree => ?free,
    fun hslot hfifo => ?waits⟩⟩
  case row =>
    rw [exec_request hc]; exact congrArg done (frameRead_frameOf s h1 h63 ht hb)
  case free =>
    have hexec : exec (.hostFrameReceived (frameOf kind tag body).tail) s =
        .next (finish (accept tag (parseRequest kind body) s)) := congrArg done (frameRead_frameOf s h1 h63 ht hb)
    have hclear : linkCleared s = { s with hlp.rx := .hunting } := by unfold linkCleared; rw [← hfree.2]
    obtain ⟨hrx, hfifo, hslot⟩ := finish_accept_of_linkFree hfree tag (parseRequest kind body)
    rw [requestKind_parse, hclear] at hslot
    refine ⟨_, hexec, hrx, hfifo, hslot, fun hstill hr => ?_⟩
    have hdone := done_accept_of_linkFree hfree tag (serve_refused hr).2
      ((hstill.resting.replied _ _ _).still hstill.2)
    rw [requestKind_parse] at hdone
    exact Host.Outcome.next.inj hdone
  case waits =>
    refine (congrArg done (frameRead_frameOf s h1 h63 ht hb)).trans ?_
    rw [accept_of_waiting hslot, if_pos hfifo]; rfl

/-! ## Discards and waiting requests -/

/-- A discarded frame latches its condition and leaves the receiver as it says. -/
theorem done_discard {s : State} (h : Still s) (v : Int) (rx : RxState) :
    done (discardFrame v { s with hlp.rx := rx }) = .next (transmit (latch .frameDiscarded 0 v { s with hlp.rx := rx })) := by
  have hr : Resting { s with hlp.rx := rx } := { h.resting with }
  exact done_still ((hr.latch ..).still (by rw [latch_pp]; exact h.2))

/-- Settles O9. -/
theorem discardedFrames : Obligations.DiscardedFrames := by
  intro s h
  refine ⟨fun next => done_discard h 1 _, fun len hlen => ?length, fun len kind tag hi lo body h2 h250 hlen =>
    ⟨fun hcrc => ?crc, fun hcrc hkind => ?kind⟩⟩
  case length =>
    exact (congrArg done (if_pos hlen)).trans (done_discard h 0 _)
  case crc =>
    refine (congrArg done (frameRead_whole len kind tag hi lo body s hlen)).trans ?_
    rw [if_neg (by omega), if_pos (by unfold crcMatches; simpa using hcrc)]
    exact done_discard h 2 _
  case kind =>
    refine (congrArg done (frameRead_whole len kind tag hi lo body s hlen)).trans ?_
    rw [if_neg (by omega), if_neg (by unfold crcMatches; simpa using hcrc), if_pos hkind]
    exact done_discard h 4 _

/-- Settles O10. -/
theorem requestsWaitBehindAReply : Obligations.RequestsWaitBehindAReply := by
  intro s c tag r h hslot hc
  rw [exec_request hc, accept_of_waiting hslot]
  split
  · exact done_still (Resting.still { h.resting with } h.2)
  · exact done_discard h 3 _

/-! ## Sent frames -/

/-- Settles O11. -/
theorem sentFramesLeave : Obligations.SentFramesLeave := by
  refine ⟨fun s b htx hwait => ?reply, fun s b e es htx hrq => ?report⟩
  case reply =>
    have hdone : exec .replySent s = done (takeNext { s with hlp.tx := none, hlp.slot := none }) := by
      show done (replyDone s) = _
      unfold replyDone; rw [htx]; dsimp only; rw [hwait]; rfl
    refine ⟨fun hf => ?_, fun e es hf => ?_⟩
    · rw [hdone]; unfold takeNext; simp only [hf]; rfl
    · have htake : takeNext { s with hlp.tx := none, hlp.slot := none } =
          { (serve e.req { s with hlp.tx := none, hlp.slot := none, hlp.fifo := es }).2 with
            hlp.slot := some ⟨requestKind e.req, e.tag,
              (serve e.req { s with hlp.tx := none, hlp.slot := none, hlp.fifo := es }).1⟩ } := by
        unfold takeNext; simp only [hf]
      have hserve := serve_hlp e.req { s with hlp.tx := none, hlp.slot := none, hlp.fifo := es }
      refine ⟨_, hdone, ?_, ?_⟩
      · rw [finish_hlp, htake]; exact congrArg HostLink.fifo hserve
      · rw [finish_hlp, htake]
  case report =>
    show done (reportDone s) = _
    unfold reportDone; rw [htx]; dsimp only; rw [hrq]; rfl

end Sys2Proof.Machine
end

section
/-! SUPPORT and CLAIMS. The condition table as a list: the order of its entries, STATUS's top condition (R203),
ACK_CONDITIONS (R202) and the reports of IDENTIFY and QUEUE_STATUS. -/

namespace Sys2Proof.Machine

/-! ## The entries in order -/

theorem map_place_allConds : allConds.map Cond.place = List.range 62 := by decide

theorem allConds_place (c : Cond) : allConds[c.place]? = some c := by
  have hp : (allConds.map Cond.place)[c.place]? = some c.place := by
    rw [map_place_allConds, List.getElem?_range c.place_lt]
  rw [List.getElem?_map, Option.map_eq_some_iff] at hp
  obtain ⟨d, hd, hplace⟩ := hp
  rw [hd, Cond.place_inj hplace]

theorem mem_allConds (c : Cond) : c ∈ allConds := List.mem_of_getElem? (allConds_place c)

theorem pairwise_place_allConds : allConds.Pairwise fun c d => c.place < d.place := by
  rw [← List.pairwise_map, map_place_allConds]; exact List.pairwise_lt_range

/-- The entry found first stands before every other one that fits. -/
theorem find?_place_le {p : Cond → Bool} {c d : Cond} (hc : allConds.find? p = some c) (hd : p d = true) :
    c.place ≤ d.place := by
  obtain ⟨-, as, bs, hl, has⟩ := List.find?_eq_some_iff_append.1 hc
  have hmem := mem_allConds d
  have hpw := pairwise_place_allConds
  rw [hl] at hmem hpw
  obtain h | h := List.mem_append.1 hmem
  · have := has d h; simp [hd] at this
  obtain rfl | h := List.mem_cons.1 h
  · exact le_rfl
  · exact ((List.pairwise_cons.1 (List.pairwise_append.1 hpw).2.1).1 d h).le

/-! ## The top condition (R203) -/

theorem topOf_some {s : State} {k : Class} {c : Cond} (h : topOf s k = some c) :
    c.cls = k ∧ (condEntry s c).latched = true ∧
      ∀ d, d.cls = k → (condEntry s d).latched = true → c.place ≤ d.place := by
  have hp := List.find?_some h
  simp only [Bool.and_eq_true, beq_iff_eq] at hp
  exact ⟨hp.1, hp.2, fun d hk hd => find?_place_le h (by simp [hk, hd])⟩

theorem topOf_none {s : State} {k : Class} (h : topOf s k = none) {d : Cond} (hk : d.cls = k) :
    (condEntry s d).latched = false := by
  have := List.find?_eq_none.1 h d (mem_allConds d)
  simpa [hk] using this

/-- The class of the top condition is the first one that has an entry latched. -/
theorem topCond_cases (s : State) :
    (topCond s = none ∧ ∀ d, (condEntry s d).latched = false) ∨
      ∃ k, topCond s = topOf s k ∧ (topOf s k).isSome = true ∧
        ∀ d, d.cls.rank < k.rank → (condEntry s d).latched = false := by
  unfold topCond
  cases ht : topOf s .trip with
  | some c => exact .inr ⟨.trip, by rw [ht]; rfl, by rw [ht]; rfl, fun d h => absurd h (Nat.not_lt_zero _)⟩
  | none =>
  have htrip := @topOf_none s .trip ht
  cases hs : topOf s .stop with
  | some c =>
    exact .inr ⟨.stop, by rw [hs]; rfl, by rw [hs]; rfl, fun d h => by
      cases hd : d.cls <;> simp [hd, Class.rank] at h
      exact htrip hd⟩
  | none =>
  have hstop := @topOf_none s .stop hs
  cases hh : topOf s .hold with
  | some c =>
    exact .inr ⟨.hold, by rw [hh]; rfl, by rw [hh]; rfl, fun d h => by
      cases hd : d.cls <;> simp [hd, Class.rank] at h
      · exact htrip hd
      · exact hstop hd⟩
  | none =>
  have hhold := @topOf_none s .hold hh
  cases hn : topOf s .note with
  | some c =>
    exact .inr ⟨.note, by rw [hn]; rfl, by rw [hn]; rfl, fun d h => by
      cases hd : d.cls <;> simp [hd, Class.rank] at h
      · exact htrip hd
      · exact hstop hd
      · exact hhold hd⟩
  | none =>
    exact .inl ⟨rfl, fun d => by
      cases hd : d.cls with
      | trip => exact htrip hd
      | stop => exact hstop hd
      | hold => exact hhold hd
      | note => exact topOf_none hn hd⟩

theorem topCond_eq_none (s : State) : topCond s = none ↔ ∀ d, (condEntry s d).latched = false := by
  obtain ⟨h, hall⟩ | ⟨k, h, hsome, -⟩ := topCond_cases s
  · exact ⟨fun _ => hall, fun _ => h⟩
  · obtain ⟨c, hc⟩ := Option.isSome_iff_exists.1 hsome
    rw [h, hc]
    exact ⟨fun e => (nomatch e), fun e => absurd (topOf_some hc).2.1 (by rw [e c]; decide)⟩

theorem topCond_eq_some {s : State} {c : Cond} (h : topCond s = some c) : (condEntry s c).latched = true ∧
    ∀ d, (condEntry s d).latched = true →
      c.cls.rank < d.cls.rank ∨ (c.cls.rank = d.cls.rank ∧ c.place ≤ d.place) := by
  obtain ⟨hn, -⟩ | ⟨k, hk, -, hbefore⟩ := topCond_cases s
  · rw [hn] at h; cases h
  obtain ⟨rfl, hl, hfirst⟩ := topOf_some (hk ▸ h)
  refine ⟨hl, fun d hd => ?_⟩
  obtain hlt | heq | hgt := lt_trichotomy c.cls.rank d.cls.rank
  · exact .inl hlt
  · refine .inr ⟨heq, hfirst d ?_ hd⟩
    cases hc : c.cls <;> cases hd' : d.cls <;> simp_all [Class.rank]
  · exact absurd hd (by rw [hbefore d hgt]; decide)

/-! ## STATUS, IDENTIFY and QUEUE_STATUS -/

theorem latchedOf_eq (s : State) (k : Class) :
    latchedOf s k = allConds.countP fun d => d.cls == k && (condEntry s d).latched :=
  List.countP_eq_length_filter.symm

theorem flag_eq (b : Bool) : flag b = .u8 b.toNat := by cases b <;> rfl

theorem flatten_map_singletons {α β : Type} (f : α → β) (l : List α) : (l.map fun a => [f a]).flatten = l.map f := by
  induction l with
  | nil => rfl
  | cons a l ih => rw [List.map_cons, List.flatten_cons, ih]; rfl

/-- Settles O19. -/
theorem statusShowsTheTopCondition : Obligations.StatusShowsTheTopCondition := by
  intro s
  refine ⟨topCond_eq_none s, fun c h => topCond_eq_some h, rfl, rfl, rfl, rfl, ?status, rfl, rfl, ?queue⟩
  case status =>
    show _ :: _ = _
    simp only [latchedOf_eq]
    cases hm : s.cn.machine <;> cases ht : topCond s <;> cases hg : s.sgu.gear <;>
      simp [optGroup, condFields, flag_eq, rangeNum, engagedRange, hg, MState.num]
  case queue =>
    show _ ++ _ = _
    have hempty : flag (decide (s.sq.recs.length = 0) && (currentRec s).isNone && allAtRest s) =
        .u8 (decide (s.sq.recs.length = 0 ∧ currentRec s = none ∧ allAtRest s = true)).toNat := by
      rw [flag_eq]; congr 2; rw [Bool.eq_iff_iff]; simp [and_assoc]
    rw [hempty, flag_eq]
    cases hc : currentRec s with
    | none => simp [optField, listField, flatten_map_singletons]
    | some r =>
      obtain ⟨q, b⟩ := r
      cases b with
      | move m => cases hm : s.pi.move <;> simp [optField, listField, flatten_map_singletons, shownPhase, hm]
      | _ => simp [optField, listField, flatten_map_singletons, shownPhase]

/-! ## ACK_CONDITIONS (R202) -/

/-- Acknowledging entries changes the table alone. -/
theorem foldl_ackEntry_eq (l : List Cond) (s : State) : ∃ t, l.foldl ackEntry s = { s with cn.table := t } := by
  induction l generalizing s with
  | nil => exact ⟨_, rfl⟩
  | cons c l ih =>
    obtain ⟨t, ht⟩ := ih (ackEntry s c)
    exact ⟨t, ht⟩

/-- Of the table it changes the latched flags of the entries that have fallen. -/
theorem condEntry_foldl_ackEntry (l : List Cond) (s : State) (d : Cond) :
    condEntry (l.foldl ackEntry s) d = { condEntry s d with
      latched := (condEntry s d).latched && ((condEntry s d).raw || !decide (d ∈ l)) } := by
  induction l generalizing s with
  | nil => simp
  | cons c l ih =>
    rw [List.foldl_cons, ih (ackEntry s c)]
    unfold ackEntry
    rw [condEntry_updCond]
    by_cases hc : c = d
    · subst hc; cases hr : (condEntry s c).raw <;> simp [hr]
    · simp [hc, Ne.symm hc]

theorem foldl_ackEntry_linkCleared (l : List Cond) (s : State) :
    l.foldl ackEntry (linkCleared s) = linkCleared (l.foldl ackEntry s) := by
  induction l generalizing s with
  | nil => rfl
  | cons c l ih => rw [List.foldl_cons, List.foldl_cons, ← ih]; rfl

theorem still_ack {s : State} (h : Still s) (l : List Cond) : Still (l.foldl ackEntry s) := by
  have hraw : ∀ d, rawOf (l.foldl ackEntry s) d = rawOf s d := fun d => by
    unfold rawOf; rw [condEntry_foldl_ackEntry]
  obtain ⟨t, ht⟩ := foldl_ackEntry_eq l s
  rw [ht] at hraw ⊢
  exact (h.resting.table (hraw _) (hraw _) rfl).still h.2

theorem foldl_ackEntry_cn (l : List Cond) (s : State) :
    { l.foldl ackEntry s with cn := s.cn } = s ∧ (l.foldl ackEntry s).cn.machine = s.cn.machine := by
  obtain ⟨t, ht⟩ := foldl_ackEntry_eq l s
  rw [ht]; exact ⟨rfl, rfl⟩

/-- The pairs of Table 10-1 are the codes and instances of its entries. -/
theorem condOf_code_inst (d : Cond) : condOf d.code d.inst = some d :=
  (by decide : ∀ c ∈ allConds, condOf c.code c.inst = some c) d (mem_allConds d)

theorem condOf_eq_some {a b : Nat} {d : Cond} : condOf a b = some d ↔ (a, b) = (d.code, d.inst) := by
  refine ⟨fun h => ?_, fun h => ?_⟩
  · have := List.find?_some h
    simp only [Bool.and_eq_true, beq_iff_eq] at this
    rw [← this.1, ← this.2]
  · rw [Prod.mk.injEq] at h
    rw [h.1, h.2]; exact condOf_code_inst d

/-- Settles O17. -/
theorem ackClearsWhatHasFallen : Obligations.AckClearsWhatHasFallen := by
  intro s tag h hfree
  have hack : ∀ (n : Nat) (pairs : List (Nat × Nat)) (l : List Cond),
      serve (.ackConditions n pairs) (linkCleared s) =
        (⟨.ok, [.u8 (latchedCount (l.foldl ackEntry (linkCleared s)))]⟩, l.foldl ackEntry (linkCleared s)) →
      exec (.ackConditions tag n pairs) s = .next (transmit (replied 0x03 tag
        ⟨.ok, [.u8 (latchedCount (l.foldl ackEntry s))]⟩ (l.foldl ackEntry s))) := by
    intro n pairs l hserve
    rw [foldl_ackEntry_linkCleared] at hserve
    exact exec_taken (r := .ackConditions n pairs) rfl hfree hserve (still_ack h l)
  refine ⟨⟨allConds.foldl ackEntry s, hack 1 [] allConds rfl, fun d => ?_,
    foldl_ackEntry_cn allConds s⟩, fun pairs h1 h16 hpairs => ?list⟩
  · rw [condEntry_foldl_ackEntry]; simp [mem_allConds]
  case list =>
    have hmem : ∀ d, d ∈ (pairs.filterMap fun p => condOf p.1 p.2) ↔ (d.code, d.inst) ∈ pairs := fun d => by
      simp only [List.mem_filterMap, condOf_eq_some, Prod.mk.eta]
      exact ⟨fun ⟨p, hp, e⟩ => e ▸ hp, fun hp => ⟨_, hp, rfl⟩⟩
    have hnone : (pairs.findIdx? fun p => (condOf p.1 p.2).isNone) = none := by
      rw [List.findIdx?_eq_none_iff]
      exact fun p hp => by rw [Option.isNone_eq_false_iff]; exact hpairs p hp
    refine ⟨(pairs.filterMap fun p => condOf p.1 p.2).foldl ackEntry s, hack 0 pairs _ ?_, fun d => ?_,
      foldl_ackEntry_cn _ s⟩
    · show serveAck 0 pairs _ = _
      unfold serveAck
      rw [if_neg (by decide), if_neg (by omega), hnone]
    · rw [condEntry_foldl_ackEntry]; simp only [hmem, List.contains_eq_mem]

end Sys2Proof.Machine
end

section
/-! SUPPORT. The settings: every parameter, and of each axis its setpoint and its encoder position. The closing rules, the
reactions and the deliveries of the inputs keep them. -/

namespace Sys2Proof.Machine

/-- What of an axis channel a reaction or a delivery keeps. -/
def setCh (k : AxisCh) := (k.setpoint, k.enc, k.p)

/-- What of a clamp they keep. -/
def setCl (k : Clamp) := (k.policy, k.delay, k.releaseTime, k.clampTime)

/-- The parameters, and the axes' setpoints and encoder positions. -/
def settings (s : State) :=
  ((keptSq s.sq, keptPi s.pi, keptHs s.hs, s.sgu.p, s.cu.p, s.pp.lineVf), s.ax.map fun _ k => setCh k,
    s.cc.map fun _ k => setCl k, s.cs, s.inp, s.am)

/-- They are a part of what the closing rules keep. -/
def settingsOf (k : Steady) :=
  ((k.sq, k.pi, k.hs, k.sgu.1, k.cu, k.pp.2.2.2.2.2.2.2.2.2.2.2),
    k.ax.map fun _ v => (v.1, v.2.2.1, v.2.2.2.2.2.2.2.2.2.2.1),
    k.cc.map fun _ v => (v.2.1, v.2.2.1, v.2.2.2.1, v.2.2.2.2), k.cs, k.inp, k.am)

theorem settings_eq (s : State) : settings s = settingsOf (steady s) := by
  unfold settings settingsOf steady keptAx keptCc
  rfl

theorem settings_of_steady {s t : State} (h : steady t = steady s) : settings t = settings s := by
  rw [settings_eq, settings_eq, h]

theorem settings_finish (s : State) : settings (finish s) = settings s := by
  have hvf : (pendantSend (quiesce s)).pp.lineVf = s.pp.lineVf := by
    obtain ⟨tx, lines, due, h, -⟩ := pendantSend_pp (quiesce s)
    rw [h]
    exact congrArg (fun k => k.pp.2.2.2.2.2.2.2.2.2.2.2) (steady_quiesce s)
  rw [settings_eq, settings_eq, steady_finish]
  simp only [settingsOf, steady, keptPp, hvf]

theorem setpoint_of_settings {s t : State} (h : settings t = settings s) (a : Axis) :
    (t.ax.get a).setpoint = (s.ax.get a).setpoint ∧ (t.ax.get a).enc = (s.ax.get a).enc ∧
      (t.ax.get a).p = (s.ax.get a).p := by
  have ha : setCh (t.ax.get a) = setCh (s.ax.get a) := by
    have := congrArg (fun v => v.2.1.get a) h
    simpa only [settings, PerAxis.get_map] using this
  simpa only [setCh, Prod.mk.injEq] using ha

theorem paramValue_of_settings {s t : State} (h : settings t = settings s) (p : Param) :
    paramValue t p = paramValue s p := by
  have hax := setpoint_of_settings h
  have hcc : ∀ c, setCl (t.cc.get c) = setCl (s.cc.get c) := fun c => by
    have := congrArg (fun v => v.2.2.1.get c) h
    simpa only [settings, PerClamp.get_map] using this
  simp only [settings, keptSq, keptPi, keptHs, Prod.mk.injEq] at h
  obtain ⟨⟨⟨hhigh, hlow⟩, ⟨-, -, -, -, hpath, hhold, hstop, hret⟩, ⟨hoff, hstart⟩, hsgu, hcu, hvf⟩, -, -, hcs, hinp, ham⟩ := h
  cases p with
  | axis f a => show f.get _ = f.get _; rw [(hax a).2.2]
  | clamp f c =>
    have hc := hcc c
    simp only [setCl, Prod.mk.injEq] at hc
    cases f <;> simp [paramValue, ClampField.get, hc]
  | _ => simp only [paramValue, hhigh, hlow, hpath, hhold, hstop, hret, hoff, hstart, hsgu, hcu, hvf, hcs, hinp, ham]

/-! ## Updates -/

theorem settings_updAx {a : Axis} {f : AxisCh → AxisCh} {s : State} (h : ∀ k, setCh (f k) = setCh k) :
    settings (updAx a f s) = settings s := by
  have hax : (s.ax.upd a f).map (fun _ k => setCh k) = s.ax.map fun _ k => setCh k :=
    PerAxis.ext_get fun b => by
      simp only [PerAxis.get_map, PerAxis.get_upd]; split
      · exact h _
      · rfl
  unfold settings updAx; dsimp only; rw [hax]

theorem settings_mapAx {f : Axis → AxisCh → AxisCh} {s : State} (h : ∀ a k, setCh (f a k) = setCh k) :
    settings (mapAx f s) = settings s := by
  have hax : (s.ax.map f).map (fun _ k => setCh k) = s.ax.map fun _ k => setCh k :=
    PerAxis.ext_get fun b => by simp only [PerAxis.get_map]; exact h _ _
  unfold settings mapAx; dsimp only; rw [hax]

theorem settings_updClamp {c : ClampAxis} {f : Clamp → Clamp} {s : State} (h : ∀ k, setCl (f k) = setCl k) :
    settings (updClamp c f s) = settings s := by
  have hcc : (s.cc.upd c f).map (fun _ k => setCl k) = s.cc.map fun _ k => setCl k :=
    PerClamp.ext_get fun d => by
      simp only [PerClamp.get_map, PerClamp.get_upd]; split
      · exact h _
      · rfl
  unfold settings updClamp; dsimp only; rw [hcc]

theorem settings_foldl {α : Type} {f : State → α → State} (h : ∀ s a, settings (f s a) = settings s) (l : List α)
    (s : State) : settings (l.foldl f s) = settings s := by
  induction l generalizing s with
  | nil => rfl
  | cons a l ih => rw [List.foldl_cons, ih, h]

theorem settings_queueReport (k : Report) (s : State) : settings (queueReport k s) = settings s :=
  settings_of_steady (steady_queueReport ..)

theorem settings_fall (c : Cond) (s : State) : settings (fall c s) = settings s := settings_of_steady (steady_fall ..)

/-! ## The TRIP reaction (R200) -/

theorem settings_tripClamp (k : Clamp) : setCl (tripClamp k) = setCl k := by
  unfold tripClamp; split
  · rfl
  · split <;> rfl

theorem settings_clampsTrip (s : State) : settings (clampsTrip s) = settings s := by
  have hcc : (s.cc.map fun _ k => tripClamp k).map (fun _ k => setCl k) = s.cc.map fun _ k => setCl k :=
    PerClamp.ext_get fun d => by simp only [PerClamp.get_map]; exact settings_tripClamp _
  unfold settings clampsTrip; dsimp only; rw [hcc]; rfl

theorem settings_sqTrip (s : State) : settings (sqTrip s) = settings s := by
  unfold sqTrip; split
  · exact settings_of_steady (steady_piDrop s)
  · exact settings_of_steady (steady_flushIdle s)

theorem settings_axesTrip (s : State) : settings (axesTrip s) = settings s := by
  unfold axesTrip
  exact (settings_foldl (fun u a => settings_fall _ u) _ _).trans (settings_mapAx fun _ _ => rfl)

theorem settings_sguTrip (s : State) : settings (sguTrip s) = settings s := by
  have habandon : ∀ u : State, settings (abandonShift u) = settings u := fun u =>
    settings_of_steady (steady_abandonShift u)
  unfold sguTrip
  dsimp only
  rw [settings_fall]
  split
  · rw [habandon]; rfl
  · rw [settings_of_steady (steady_spindleOff _), habandon]; rfl

theorem settings_homeTrip (s : State) (a : Axis) : settings (homeTrip s a) = settings s := by
  unfold homeTrip
  split
  · rfl
  · exact settings_of_steady (steady_homeOk a s)
  · exact settings_of_steady (steady_homeClose a s)
  · rw [settings_of_steady (steady_homeClose a _), settings_of_steady (steady_homeFail a _ s)]

theorem settings_jogsDrop (s : State) : settings (jogsDrop s) = settings s := by
  unfold jogsDrop
  exact settings_mapAx fun _ _ => by split <;> rfl

theorem settings_tripDeliveries (s : State) : settings (tripDeliveries s) = settings s := by
  have hcoolant : ∀ u : State, settings (coolantTrip u) = settings u := fun _ => rfl
  unfold tripDeliveries
  dsimp only
  rw [settings_foldl settings_homeTrip, settings_jogsDrop, hcoolant, settings_sguTrip, settings_fall,
    settings_clampsTrip, settings_axesTrip, settings_sqTrip]

theorem settings_raiseTrip (c : Cond) (q : Nat) (v : Int) (s : State) : settings (raiseTrip c q v s) = settings s := by
  have hl : settings (latch c q v s) = settings s := settings_of_steady (steady_latch ..)
  unfold raiseTrip
  dsimp only
  split
  · exact hl
  · rw [settings_foldl fun u a => settings_of_steady (steady_homeReport u a), settings_tripDeliveries]; exact hl

theorem settings_riseTrip (c : Cond) (q : Nat) (v : Int) (s : State) : settings (riseTrip c q v s) = settings s := by
  unfold riseTrip; split
  · rfl
  · rw [settings_raiseTrip]; rfl

/-! ## The deliveries of the inputs (R184) -/

theorem settings_armStep (s : State) : settings (armStep s) = settings s := by
  unfold armStep; split
  · split <;> rfl
  · rfl

theorem settings_mismatchStep (s : State) : settings (mismatchStep s) = settings s := by
  unfold mismatchStep; split
  · split
    · rw [settings_fall]; rfl
    split <;> rfl
  · rfl

theorem settings_contactChanged (s : State) : settings (contactChanged s) = settings s := by
  have h1 : settings (mismatchStep (armStep s)) = settings s := (settings_mismatchStep _).trans (settings_armStep s)
  unfold contactChanged; dsimp only; split
  · exact h1
  · exact (settings_of_steady (steady_endAllJogs ..)).trans h1

theorem settings_riseStop (c : Cond) (q : Nat) (v : Int) (s : State) : settings (riseStop c q v s) = settings s :=
  settings_of_steady (steady_riseStop ..)

theorem settings_driveLost (s : State) : settings (driveLost s) = settings s := by
  have hrise : settings (riseStop .spindleDriveFault 0 s.sgu.st.num { s with sgu.faultFrom := s.sgu.st }) = settings s :=
    settings_riseStop ..
  unfold driveLost fprDriveLost
  split
  · dsimp only
    split
    · rw [settings_of_steady (steady_raiseHold ..)]; split <;> exact hrise
    · split <;> exact hrise
  · rfl

theorem settings_homeSwitchChanged (a : Axis) (s : State) : settings (homeSwitchChanged a s) = settings s := by
  have h1 : settings (searchSwitch a s) = settings s := by
    obtain ⟨-, -, e⟩ | e := searchSwitch_cases a s
    · rw [e]; exact settings_updAx fun k => rfl
    · rw [e]
  unfold homeSwitchChanged latchSwitch
  dsimp only
  split
  · split
    · split
      · exact (settings_updAx (by intro _; rfl)).trans h1
      · exact h1
    · split
      · exact h1
      · exact (settings_updAx (by intro _; rfl)).trans h1
    · exact h1
  · exact h1

theorem settings_clampSensorChanged (c : ClampAxis) (b : Bool) (s : State) :
    settings (clampSensorChanged c b s) = settings s := by
  have h1 : settings (clampCheck c s) = settings s := by
    unfold clampCheck; split
    · rfl
    · exact settings_updClamp fun k => rfl
  unfold clampSensorChanged clampLost
  dsimp only
  split
  · split
    · exact h1
    split
    · exact (settings_of_steady (steady_raiseStop ..)).trans ((settings_updClamp (by intro _; rfl)).trans h1)
    split
    · exact (settings_of_steady (steady_raiseStop ..)).trans ((settings_of_steady (steady_hydWithdraw ..)).trans
        ((settings_updClamp (by intro _; rfl)).trans h1))
    · exact h1
  · exact h1

theorem settings_gearFirstRead (s : State) : settings (gearFirstRead s) = settings s := by
  unfold gearFirstRead; split
  · rfl
  · dsimp only; split <;> rfl

theorem settings_deliver (n : Fin 32) (s : State) : settings (deliver n s) = settings s := by
  have htrip : ∀ c b, settings (tripInput c b s) = settings s := fun c b => by
    unfold tripInput; split
    · exact settings_fall ..
    · exact settings_riseTrip ..
  have hlimit : ∀ a, settings (limitChanged a s) = settings s := fun a => by
    unfold limitChanged hardLimitTest; split
    · rfl
    split
    · exact settings_riseStop ..
    · exact settings_fall ..
  unfold deliver
  dsimp only
  split
  case h_1 | h_2 => exact htrip ..
  case h_3 =>
    unfold spindleReadyChanged; split
    · exact settings_fall ..
    · exact settings_driveLost s
  case h_4 => exact settings_contactChanged s
  case h_5 | h_6 | h_7 | h_8 | h_9 | h_10 | h_11 | h_12 => exact hlimit _
  case h_13 | h_14 | h_15 | h_16 | h_17 => exact settings_homeSwitchChanged ..
  case h_18 | h_19 | h_20 | h_21 | h_22 | h_23 | h_24 | h_25 => exact settings_clampSensorChanged ..
  case h_26 | h_27 | h_28 | h_29 => exact settings_gearFirstRead s
  case h_30 =>
    unfold hydOverloadChanged; split
    · exact settings_of_steady (steady_supplyLow ..)
    · rfl
  case h_31 =>
    unfold floodOverloadChanged; split
    · exact settings_of_steady (steady_floodFault ..)
    · rfl
  case h_32 =>
    unfold tscOverloadChanged; split
    · exact settings_of_steady (steady_tscFault ..)
    · rfl

end Sys2Proof.Machine
end

section
/-! SUPPORT and CLAIMS. SET_PARAM (R214): the write as a store of one parameter with what it brings, and the value that
is read back. -/

namespace Sys2Proof.Machine

/-! ## The fields -/

theorem AxisField.get_set {f : AxisField} {k p : AxisParams} {a : Axis} {v : Int} (h : (axisRange k a f).1 ≤ v) :
    f.get (f.set p v) = v := by
  cases f with
  | softMin | softMax | homePosition => rfl
  | _ => exact Int.toNat_of_nonneg (le_trans (by simp [axisRange]) h)

theorem AxisField.get_set_ne {f g : AxisField} (h : g ≠ f) (p : AxisParams) (v : Int) : g.get (f.set p v) = g.get p := by
  cases f <;> cases g <;> first | rfl | exact absurd rfl h

theorem SguField.get_set {f : SguField} {p : SguParams} {v : Int} (h : (sguRange f).1 ≤ v) :
    f.get (f.set p v.toNat) = v := by
  cases f <;> exact Int.toNat_of_nonneg (le_trans (by decide) h)

theorem SguField.get_set_ne {f g : SguField} (h : g ≠ f) (p : SguParams) (v : Nat) : g.get (f.set p v) = g.get p := by
  cases f <;> cases g <;> first | rfl | exact absurd rfl h

theorem CuField.get_set {f : CuField} {p q : CuParams} {v : Int} (h : (cuRange q f).1 ≤ v) :
    f.get (f.set p v.toNat) = v := by
  cases f with
  | faultBand => exact Int.toNat_of_nonneg (by have := le_trans (le_max_left _ _) h; omega)
  | _ => exact Int.toNat_of_nonneg (le_trans (by simp [cuRange]) h)

theorem CuField.get_set_ne {f g : CuField} (h : g ≠ f) (p : CuParams) (v : Nat) : g.get (f.set p v) = g.get p := by
  cases f <;> cases g <;> first | rfl | exact absurd rfl h

/-- A spindle or gear parameter leaves the ranges' parameters. -/
theorem SguField.set_ranges (f : SguField) (p : SguParams) (v : Nat) :
    (f.set p v).rangeMax = p.rangeMax ∧ (f.set p v).rangeRatio = p.rangeRatio := by
  cases f <;> exact ⟨rfl, rfl⟩

theorem num_policyOf {v : Int} (h0 : 0 ≤ v) (h2 : v ≤ 2) : ((policyOf v).num : Int) = v := by
  unfold policyOf
  split
  · next e => rw [e]; rfl
  split
  · next e => rw [e]; rfl
  · show (2 : Int) = v; omega

/-! ## The store -/

/-- The clamp's parameter stored. -/
def storeClamp (f : ClampField) (v : Int) (k : Clamp) : Clamp :=
  match f with
  | .policy => { k with policy := policyOf v }
  | .delay => { k with delay := v.toNat }
  | .releaseTime => { k with releaseTime := v.toNat }
  | .clampTime => { k with clampTime := v.toNat }

/-- The parameter stored, without what its write brings. -/
def storeParam (p : Param) (v : Int) (s : State) : State :=
  match p with
  | .flowHigh => { s with sq.flowHigh := v.toNat }
  | .flowLow => { s with sq.flowLow := v.toNat }
  | .clamp f c => updClamp c (storeClamp f v) s
  | .rangeMax r => { s with sgu.p.rangeMax := s.sgu.p.rangeMax.set r v.toNat }
  | .sgu f => { s with sgu.p := f.set s.sgu.p v.toNat }
  | .filter n => updInp n (fun i => { i with ft := v.toNat }) s
  | p => writeParam p v s

theorem settings_updClamp_congr {c : ClampAxis} {f g : Clamp → Clamp} {s : State} (h : ∀ k, setCl (f k) = setCl (g k)) :
    settings (updClamp c f s) = settings (updClamp c g s) := by
  have hcc : (s.cc.upd c f).map (fun _ k => setCl k) = (s.cc.upd c g).map fun _ k => setCl k :=
    PerClamp.ext_get fun d => by
      simp only [PerClamp.get_map, PerClamp.get_upd]; split
      · exact h _
      · rfl
  unfold settings updClamp; dsimp only; rw [hcc]

theorem settings_writeClamp (f : ClampField) (c : ClampAxis) (v : Int) (s : State) :
    settings (writeClamp f c v s) = settings (updClamp c (storeClamp f v) s) := by
  cases f with
  | policy => exact settings_updClamp_congr fun _ => rfl
  | delay =>
    show settings (writeDelay c v.toNat s) = settings (updClamp c (fun k => { k with delay := v.toNat }) s)
    unfold writeDelay
    dsimp only
    split
    · exact (settings_of_steady (steady_clampNeed ..)).trans (settings_updClamp (by intro _; rfl))
    · rfl
  | releaseTime | clampTime => rfl

/-- A write keeps the settings that its store gives, the filtered states of an input apart. -/
theorem settings_writeParam {p : Param} (hp : ∀ n, p ≠ .filter n) (v : Int) (s : State) :
    settings (writeParam p v s) = settings (storeParam p v s) := by
  cases p with
  | flowHigh | flowLow => exact settings_of_steady (steady_flowEval _)
  | clamp f c => exact settings_writeClamp f c v s
  | rangeMax r =>
    show settings (if engagedRange s = some r then retarget _ else _) = _
    split
    · exact settings_of_steady (steady_retarget _)
    · rfl
  | sgu f => cases f <;> rfl
  | filter n => exact absurd rfl (hp n)
  | _ => rfl

/-! ## Values behind a store -/

/-- An input's filter time is all that `paramValue` reads of it. -/
theorem paramValue_inp {s : State} {v : Vector InputCh 32} (h : ∀ m : Fin 32, v[m].ft = s.inp[m].ft) (q : Param) :
    paramValue { s with inp := v } q = paramValue s q := by
  cases q with
  | filter m => exact congrArg Nat.cast (h m)
  | _ => rfl

theorem ft_updInp (n : Fin 32) {f : InputCh → InputCh} (hf : ∀ i, (f i).ft = i.ft) (s : State) (m : Fin 32) :
    (updInp n f s).inp[m].ft = s.inp[m].ft := by
  show (s.inp.set n.val (f s.inp[n]))[m.val].ft = s.inp[m.val].ft
  rw [Vector.getElem_set]
  split
  · next e => simp only [← e]; exact hf _
  · rfl

/-- A filter step keeps every parameter, setpoint and encoder position. -/
theorem filterStep_keeps (n : Fin 32) (s : State) : (∀ q, paramValue (filterStep n s) q = paramValue s q) ∧
    ∀ a, ((filterStep n s).ax.get a).setpoint = (s.ax.get a).setpoint ∧
      ((filterStep n s).ax.get a).enc = (s.ax.get a).enc := by
  unfold filterStep
  split
  · have hd := settings_deliver n (updInp n (fun i => { i with filt := i.raw, settled := true }) s)
    refine ⟨fun q => ?_, fun a => ?_⟩
    · rw [paramValue_of_settings hd]
      exact paramValue_inp (v := (updInp n (fun i => { i with filt := i.raw, settled := true }) s).inp)
        (ft_updInp n (by intro _; rfl) s) q
    · obtain ⟨h1, h2, -⟩ := setpoint_of_settings hd a
      exact ⟨h1, h2⟩
  · exact ⟨fun _ => rfl, fun _ => ⟨rfl, rfl⟩⟩

/-- A write reads back as its store does, and moves no axis. -/
theorem writeParam_keeps (p : Param) (v : Int) (s : State) :
    (∀ q, paramValue (writeParam p v s) q = paramValue (storeParam p v s) q) ∧
      ∀ a, ((writeParam p v s).ax.get a).setpoint = (s.ax.get a).setpoint ∧
        ((writeParam p v s).ax.get a).enc = (s.ax.get a).enc := by
  have hstore : ∀ a, ((storeParam p v s).ax.get a).setpoint = (s.ax.get a).setpoint ∧
      ((storeParam p v s).ax.get a).enc = (s.ax.get a).enc := fun a => by
    cases p with
    | axis f b =>
      show ((updAx b _ s).ax.get a).setpoint = _ ∧ ((updAx b _ s).ax.get a).enc = _
      unfold updAx
      dsimp only
      rw [PerAxis.get_upd]; split <;> exact ⟨rfl, rfl⟩
    | _ => exact ⟨rfl, rfl⟩
  by_cases hp : ∃ n, p = .filter n
  · obtain ⟨n, rfl⟩ := hp
    obtain ⟨hval, hpos⟩ := filterStep_keeps n (storeParam (.filter n) v s)
    exact ⟨hval, fun a => ⟨(hpos a).1.trans (hstore a).1, (hpos a).2.trans (hstore a).2⟩⟩
  · have hs := settings_writeParam (fun n e => hp ⟨n, e⟩) v s
    refine ⟨paramValue_of_settings hs, fun a => ?_⟩
    obtain ⟨h1, h2, -⟩ := setpoint_of_settings hs a
    exact ⟨h1.trans (hstore a).1, h2.trans (hstore a).2⟩

theorem ClampField.get_store {f : ClampField} {v : Int} (h1 : (clampRange f).1 ≤ v) (h2 : v ≤ (clampRange f).2)
    (k : Clamp) : f.get (storeClamp f v k) = v := by
  cases f with
  | policy => exact num_policyOf h1 h2
  | _ => exact Int.toNat_of_nonneg (le_trans (by decide) h1)

theorem ClampField.get_store_ne {f g : ClampField} (h : g ≠ f) (v : Int) (k : Clamp) :
    g.get (storeClamp f v k) = g.get k := by
  cases f <;> cases g <;> first | rfl | exact absurd rfl h

/-- What has been stored is read back. -/
theorem paramValue_store {s : State} {p : Param} {v : Int} (h1 : (paramRange s p).1 ≤ v) (h2 : v ≤ (paramRange s p).2) :
    paramValue (storeParam p v s) p = v := by
  cases p with
  | axis f a =>
    show f.get ((updAx a _ s).ax.get a).p = v
    unfold updAx
    dsimp only
    rw [PerAxis.get_upd, if_pos rfl]; exact AxisField.get_set h1
  | compSlew a =>
    show (((s.cs.upd a _).get a).slew : Int) = v
    rw [PerAxis.get_upd, if_pos rfl]; exact Int.toNat_of_nonneg (le_trans (by simp [paramRange]) h1)
  | clamp f c =>
    show f.get ((s.cc.upd c _).get c) = v
    rw [PerClamp.get_upd, if_pos rfl]; exact ClampField.get_store h1 h2 _
  | rangeMax r | rangeRatio r =>
    show ((PerRange.get (PerRange.set _ r v.toNat) r : Nat) : Int) = v
    rw [PerRange.get_set, if_pos rfl]; exact Int.toNat_of_nonneg (le_trans (by simp [paramRange]) h1)
  | sgu f => exact SguField.get_set h1
  | cu f => exact CuField.get_set h1
  | filter n =>
    show (((s.inp.set n.val { s.inp[n] with ft := v.toNat })[n.val].ft : Nat) : Int) = v
    rw [Vector.getElem_set_self]; exact Int.toNat_of_nonneg h1
  | zero n =>
    show (((s.am.chans.set n.val { s.am.chans[n] with zero := v.toNat })[n.val].zero : Nat) : Int) = v
    rw [Vector.getElem_set_self]; exact Int.toNat_of_nonneg h1
  | span n =>
    show (((s.am.chans.set n.val { s.am.chans[n] with span := v.toNat })[n.val].span : Nat) : Int) = v
    rw [Vector.getElem_set_self]; exact Int.toNat_of_nonneg (le_trans (by simp [paramRange]) h1)
  | threshold n =>
    show (((s.am.cmps.set n.val { s.am.cmps[n] with thr := v.toNat })[n.val].thr : Nat) : Int) = v
    rw [Vector.getElem_set_self]; exact Int.toNat_of_nonneg h1
  | confirm n =>
    show (((s.am.cmps.set n.val { s.am.cmps[n] with conf := v.toNat })[n.val].conf : Nat) : Int) = v
    rw [Vector.getElem_set_self]; exact Int.toNat_of_nonneg (le_trans (by simp [paramRange]) h1)
  | flowHigh => exact Int.toNat_of_nonneg (by have := le_trans (le_max_left _ _) h1; omega)
  | _ => exact Int.toNat_of_nonneg (le_trans (by simp [paramRange]) h1)

/-- A field of an entry after another one, or the same one with that field kept, has been set. -/
theorem field_set {α β : Type} {k : Nat} (v : Vector α k) (n m : Fin k) (x : α) (g : α → β)
    (h : n = m → g x = g v[m]) : g (v.set n.val x)[m.val] = g v[m.val] := by
  rw [Vector.getElem_set]
  split
  · next e => exact h (Fin.ext e)
  · rfl

/-- No other parameter is touched. -/
theorem paramValue_store_ne {p q : Param} (h : q ≠ p) (v : Int) (s : State) :
    paramValue (storeParam p v s) q = paramValue s q := by
  cases p with
  | axis f a =>
    cases q with
    | axis g b =>
      show g.get ((updAx a _ s).ax.get b).p = g.get (s.ax.get b).p
      unfold updAx
      dsimp only
      rw [PerAxis.get_upd]
      split
      · next e => subst e; exact AxisField.get_set_ne (fun e => h (by rw [e])) _ _
      · rfl
    | _ => rfl
  | compSlew a =>
    cases q with
    | compSlew b =>
      show (((s.cs.upd a _).get b).slew : Int) = _
      rw [PerAxis.get_upd, if_neg (fun e => h (by rw [e]))]; rfl
    | _ => rfl
  | clamp f c =>
    cases q with
    | clamp g d =>
      show g.get ((s.cc.upd c (storeClamp f v)).get d) = g.get (s.cc.get d)
      rw [PerClamp.get_upd]
      split
      · next e => subst e; exact ClampField.get_store_ne (fun e => h (by rw [e])) _ _
      · rfl
    | _ => rfl
  | rangeMax r =>
    cases q with
    | rangeMax t =>
      show ((PerRange.get (PerRange.set _ r v.toNat) t : Nat) : Int) = _
      rw [PerRange.get_set, if_neg (fun e => h (by rw [e]))]; rfl
    | sgu g => cases g <;> rfl
    | _ => rfl
  | rangeRatio r =>
    cases q with
    | rangeRatio t =>
      show ((PerRange.get (PerRange.set _ r v.toNat) t : Nat) : Int) = _
      rw [PerRange.get_set, if_neg (fun e => h (by rw [e]))]; rfl
    | sgu g => cases g <;> rfl
    | _ => rfl
  | sgu f =>
    obtain ⟨hmax, hratio⟩ := SguField.set_ranges f s.sgu.p v.toNat
    cases q with
    | sgu g => exact SguField.get_set_ne (fun e => h (by rw [e])) _ _
    | rangeMax t => exact congrArg (fun r : PerRange Nat => ((r.get t : Nat) : Int)) hmax
    | rangeRatio t => exact congrArg (fun r : PerRange Nat => ((r.get t : Nat) : Int)) hratio
    | _ => rfl
  | cu f =>
    cases q with
    | cu g => exact CuField.get_set_ne (fun e => h (by rw [e])) _ _
    | _ => rfl
  | filter n =>
    cases q with
    | filter m =>
      show (((s.inp.set n.val _)[m.val].ft : Nat) : Int) = _
      rw [Vector.getElem_set_ne _ _ (fun e => h (by rw [Fin.ext e]))]; rfl
    | _ => rfl
  | zero n =>
    cases q with
    | zero m => exact congrArg Nat.cast (field_set _ n m _ AnalogCh.zero fun e => absurd (by rw [e]) h)
    | span m => exact congrArg Nat.cast (field_set _ n m _ AnalogCh.span fun e => by rw [e])
    | _ => rfl
  | span n =>
    cases q with
    | zero m => exact congrArg Nat.cast (field_set _ n m _ AnalogCh.zero fun e => by rw [e])
    | span m => exact congrArg Nat.cast (field_set _ n m _ AnalogCh.span fun e => absurd (by rw [e]) h)
    | _ => rfl
  | threshold n =>
    cases q with
    | threshold m => exact congrArg Nat.cast (field_set _ n m _ Cmp.thr fun e => absurd (by rw [e]) h)
    | confirm m => exact congrArg Nat.cast (field_set _ n m _ Cmp.conf fun e => by rw [e])
    | _ => rfl
  | confirm n =>
    cases q with
    | threshold m => exact congrArg Nat.cast (field_set _ n m _ Cmp.thr fun e => by rw [e])
    | confirm m => exact congrArg Nat.cast (field_set _ n m _ Cmp.conf fun e => absurd (by rw [e]) h)
    | _ => rfl
  | _ => cases q <;> first | rfl | exact absurd rfl h

/-- Settles O20. -/
theorem setParamIsReadBack : Obligations.SetParamIsReadBack := by
  intro s tag id inst v p hfree hp h1 h2 hr
  have hr' : writeRefusal (linkCleared s) p v = none := by rw [← hr]; cases p <;> rfl
  have hrange : paramRange (linkCleared s) p = paramRange s p := by cases p <;> rfl
  obtain ⟨hval, hpos⟩ := writeParam_keeps p v (linkCleared s)
  have hread : paramValue (writeParam p v (linkCleared s)) p = v := by
    rw [hval, paramValue_store (by rw [hrange]; exact h1) (by rw [hrange]; exact h2)]
  have hserve : serve (.setParam id inst v) (linkCleared s) = (⟨.ok, [.i32 v]⟩, writeParam p v (linkCleared s)) := by
    show serveSetParam id inst v _ = _
    unfold serveSetParam
    rw [hp]
    dsimp only
    rw [if_neg (by rw [hrange]; omega), hr']
    dsimp only
    rw [hread]
  have hacc : accept tag (.setParam id inst v) s =
      { writeParam p v (linkCleared s) with hlp.slot := some ⟨0x06, tag, ⟨.ok, [.i32 v]⟩⟩ } := by
    rw [accept_of_linkFree hfree, hserve]; rfl
  have hset : settings (finish (accept tag (.setParam id inst v) s)) = settings (writeParam p v (linkCleared s)) := by
    rw [settings_finish, hacc]; rfl
  have hslot := (finish_accept_of_linkFree hfree tag (.setParam id inst v)).2.2
  rw [hserve] at hslot
  refine ⟨_, rfl, hslot, ?_, fun q hq => ?_, fun a => ?_⟩
  · show (serveGetParam id inst _).1 = _
    unfold serveGetParam
    rw [hp]
    dsimp only
    rw [paramValue_of_settings hset, hread]
  · rw [paramValue_of_settings hset, hval, paramValue_store_ne hq]; cases q <;> rfl
  · obtain ⟨e1, e2, -⟩ := setpoint_of_settings hset a
    exact ⟨e1.trans (hpos a).1, e2.trans (hpos a).2⟩

end Sys2Proof.Machine
end

section
/-! CLAIMS. SET_OVERRIDE (R36) and the requests of the compensation banks (R80 to R82). -/

namespace Sys2Proof.Machine

/-! ## SET_OVERRIDE -/

@[simp] theorem setSpindle_pi (st : SpindleState) (s : State) : (setSpindle st s).pi = s.pi := by
  unfold setSpindle
  dsimp only
  split
  · rw [raiseHold_pi]
  · rfl

@[simp] theorem spindleStart_pi (s : State) : (spindleStart s).pi = s.pi := setSpindle_pi _ _

/-- Forming the target again moves the spindle, and the interpolator keeps its overrides and its path. -/
@[simp] theorem retarget_pi (s : State) : (retarget s).pi = s.pi := by
  unfold retarget
  dsimp only
  (repeat' split) <;> simp only [setSpindle_pi, spindleStart_pi]

theorem serve_override {feed rapid spindle source : Option Nat} {s : State} (hsource : ∀ v, source = some v → v ≤ 1)
    (hfeed : feed ≠ none →
      (source.map fun v => if v = 0 then FeedSource.host else .pendant).getD s.pi.source = .host) :
    serve (.setOverride feed rapid spindle source) s =
      (let t := applyOverride feed rapid spindle
        ((source.map fun v => if v = 0 then FeedSource.host else .pendant).getD s.pi.source) s
       (⟨.ok, overrideFields t⟩, t)) := by
  have hany : ¬ source.any (fun v => decide (1 < v)) = true := by
    cases source with
    | none => decide
    | some v => have := hsource v rfl; simp; omega
  show serveOverride feed rapid spindle source s = _
  unfold serveOverride
  rw [if_neg hany]
  cases source with
  | none =>
    dsimp only [Option.map_none, Option.getD_none] at hfeed ⊢
    rw [if_neg (fun e => by rw [hfeed (Option.isSome_iff_ne_none.1 e.1)] at e; exact absurd e.2 (by decide))]
  | some v =>
    dsimp only [Option.map_some, Option.getD_some] at hfeed ⊢
    rw [if_neg (fun e => by rw [hfeed (Option.isSome_iff_ne_none.1 e.1)] at e; exact absurd e.2 (by decide))]

theorem applyOverride_pi (feed rapid spindle : Option Nat) (src : FeedSource) (s : State) :
    (applyOverride feed rapid spindle src s).pi = { s.pi with
      source := src, feed := (feed.map (min 150)).getD s.pi.feed, rapid := (rapid.map (min 100)).getD s.pi.rapid,
      spindleOvr := (spindle.map fun v => max 50 (min 120 v)).getD s.pi.spindleOvr } := by
  unfold applyOverride
  dsimp only
  split
  · rfl
  · rw [retarget_pi]

/-- Settles O27. -/
theorem setOverrideStoresClamped : Obligations.SetOverrideStoresClamped := by
  intro s tag feed rapid spindle source hfree hsource src hfeed f r o
  have hserve := serve_override (rapid := rapid) (spindle := spindle) (s := linkCleared s) hsource hfeed
  set u := applyOverride feed rapid spindle src (linkCleared s) with hu
  have hpi : u.pi = { s.pi with source := src, feed := f, rapid := r, spindleOvr := o } :=
    applyOverride_pi feed rapid spindle src (linkCleared s)
  have hserve' : serve (.setOverride feed rapid spindle source) (linkCleared s) =
      (⟨.ok, [.u8 f, .u8 r, .u8 o, .u8 src.num]⟩, u) := by
    rw [hserve]
    show ((⟨.ok, overrideFields u⟩ : Answer), u) = _
    unfold overrideFields; rw [hpi]
  refine ⟨?taken, fun h hnone => ?still⟩
  case taken =>
    have hslot := (finish_accept_of_linkFree hfree tag (.setOverride feed rapid spindle source)).2.2
    rw [hserve'] at hslot
    obtain ⟨-, -, -, -, -, -, ⟨k1, k2, k3, k4, -⟩, -⟩ :=
      whatFollowsACommand (accept tag (.setOverride feed rapid spindle source) s)
    have hacc : (accept tag (.setOverride feed rapid spindle source) s).pi = u.pi := by
      rw [accept_of_linkFree hfree, hserve']
    rw [hacc, hpi] at k1 k2 k3 k4
    exact ⟨_, rfl, k4, k1, k2, k3, hslot⟩
  case still =>
    subst hnone
    have hlink : u = linkCleared { s with pi.source := src, pi.feed := f, pi.rapid := r } := by
      rw [hu]; unfold applyOverride; exact if_pos rfl
    rw [hlink] at hserve'
    exact exec_taken (r := .setOverride feed rapid none source) rfl hfree hserve'
      (Resting.still { h.resting with } h.2)

/-! ## The banks (R80 to R82) -/

theorem transmit_eq (s : State) : transmit s = { s with hlp := (transmit s).hlp } := by
  unfold transmit
  (repeat' split) <;> rfl

/-- No closing rule reads the banks. -/
theorem Resting.banks {s : State} (h : Resting s) (cs : PerAxis Bank) : Resting { s with cs := cs } := { h with }

/-- A request that a free link takes and that changes one bank: the bank, the reply and nothing else. -/
theorem exec_bank {s : State} {c : Instr} {tag : Nat} {r : Request} {ans : Answer} {a : Axis} {f : Bank → Bank}
    (hc : requestOf c = some (tag, r)) (hfree : LinkFree s)
    (hserve : serve r (linkCleared s) = (ans, updBank a f (linkCleared s))) :
    ∃ t : State, exec c s = .next t ∧ (∀ o, o ≠ a → t.cs.get o = s.cs.get o) ∧ t.cs.get a = f (s.cs.get a) ∧
      t.hlp.slot = some ⟨requestKind r, tag, ans⟩ ∧ (Still s → { t with cs := s.cs, hlp := s.hlp } = s) := by
  have hslot := (finish_accept_of_linkFree hfree tag r).2.2
  have hcs : (finish (accept tag r s)).cs = s.cs.upd a f := by
    rw [(aside_finish_parts _).1, accept_of_linkFree hfree, hserve]
    rfl
  rw [hserve] at hslot
  refine ⟨finish (accept tag r s), exec_request hc s, fun o ho => ?_, ?_, hslot, fun h => ?still⟩
  · rw [hcs, PerAxis.get_upd, if_neg ho.symm]
  · rw [hcs, PerAxis.get_upd, if_pos rfl]
  case still =>
    have hnext := exec_taken hc hfree (t := updBank a f s) hserve ((h.resting.banks _).still h.2)
    rw [exec_request hc] at hnext
    have hfin : finish (accept tag r s) = transmit (replied (requestKind r) tag ans (updBank a f s)) := by
      injection hnext
    rw [hfin, transmit_eq]
    rfl

/-- A point of a bank after a load (R80). -/
theorem loadPoints_get (first : Nat) (vs : List Int) (pts : Vector (Option Int) 128) (n : Fin 128) :
    (loadPoints first vs pts)[n] =
      if first ≤ n.val ∧ n.val < first + vs.length then vs[n.val - first]? else pts[n] := by
  show (Vector.ofFn _)[n.val] = _
  rw [Vector.getElem_ofFn]
  by_cases hfirst : first ≤ n.val
  · by_cases hlast : n.val < first + vs.length
    · have hin : n.val - first < vs.length := by omega
      simp [hfirst, hlast, List.getElem?_eq_getElem hin]
    · have hout : vs.length ≤ n.val - first := by omega
      simp [hfirst, hlast, List.getElem?_eq_none hout]
  · simp [hfirst]

theorem serve_compLoad {i : Nat} {a : Axis} (ha : axisOf i = some a) {first : Nat} {vs : List Int}
    (hlen : 1 ≤ vs.length ∧ vs.length ≤ 32 ∧ first ≤ 127 ∧ first + vs.length ≤ 128)
    (hpts : ∀ v ∈ vs, -5000 ≤ v ∧ v ≤ 5000) {s : State} (hst : (s.cs.get a).st ≠ .active) :
    let f : Bank → Bank := fun b =>
      { b with st := .loading, pts := loadPoints first vs (if b.st = .empty then Vector.replicate 128 none else b.pts) }
    serve (.compLoad i first vs) s = (⟨.ok, [.u8 1, .u8 (writtenCount (f (s.cs.get a)))]⟩, updBank a f s) := by
  intro f
  have hok : (vs.findIdx? fun v => !pointOk v) = none := by
    rw [List.findIdx?_eq_none_iff]
    intro v hv
    simp [pointOk, hpts v hv]
  show serveCompLoad i first vs s = _
  unfold serveCompLoad
  rw [ha]
  dsimp only
  rw [if_neg (by omega), hok]
  dsimp only
  rw [if_neg hst]
  have hget : ((updBank a f s).cs.get a) = f (s.cs.get a) := by
    show (s.cs.upd a f).get a = _
    rw [PerAxis.get_upd, if_pos rfl]
  rw [← hget]
  rfl

theorem serve_compCommit {i : Nat} {a : Axis} (ha : axisOf i = some a) {count : Nat} {origin spacing : Int}
    {mode check : Nat} (hcount : 2 ≤ count ∧ count ≤ 128) (horigin : -2000000000 ≤ origin ∧ origin ≤ 2000000000)
    (hspacing : 1 ≤ spacing ∧ spacing ≤ 1000000) (hmode : mode ≤ 1 ∧ check ≤ 65535) {s : State}
    (hst : (s.cs.get a).st = .loading) (hpts : ∀ n : Fin 128, n.val < count → (s.cs.get a).pts[n] ≠ none)
    (hsum : pointSum (s.cs.get a) count = check) :
    serve (.compCommit i count origin spacing mode check) s =
      (⟨.ok, []⟩, updBank a (commitBank ⟨count, origin, spacing, if mode = 0 then .step else .linear, check⟩) s) := by
  have hend : endOk origin = true := by unfold endOk; simp; omega
  have hmiss : firstMissing (s.cs.get a) count = none := by
    unfold firstMissing
    rw [List.find?_eq_none]
    intro n hn
    have hlt : n < count := List.mem_range.1 hn
    obtain ⟨v, hv⟩ := Option.ne_none_iff_exists'.1 (hpts ⟨n, by omega⟩ hlt)
    have hv' : (s.cs.get a).pts[n]? = some (some v) := by
      rw [Vector.getElem?_eq_getElem (by omega)]
      exact congrArg some hv
    rw [hv']
    simp
  show serveCompCommit i count origin spacing mode check s = _
  unfold serveCompCommit
  rw [ha]
  dsimp only
  rw [if_neg (by rw [hend]; simp; omega), if_neg (fun h => h hst), hmiss]
  dsimp only
  rw [if_neg (fun h => h hsum)]
  rfl

theorem serve_compClear {i : Nat} {a : Axis} (ha : axisOf i = some a) (s : State) :
    serve (.compClear i) s =
      (⟨.ok, []⟩, updBank a (fun b => { b with st := .empty, pts := Vector.replicate 128 none, geom := none }) s) := by
  show serveCompClear i s = _
  unfold serveCompClear
  rw [ha]
  rfl

/-- Settles O32: each request changes its bank by one function, and the bank is the function's value. -/
theorem compBanksChange : Obligations.CompBanksChange := by
  intro s tag i a hfree ha
  refine ⟨fun first vs h1 h2 h3 h4 hpts hst => ?load,
    fun count origin spacing mode check h1 h2 h3 h4 h5 h6 h7 h8 hst hpts hsum => ?commit, ?clear⟩
  case load =>
    obtain ⟨t, ht, hother, hbank, hslot, hstill⟩ := exec_bank (c := .compLoad tag i first vs) rfl hfree
      (serve_compLoad ha ⟨h1, h2, h3, h4⟩ hpts hst)
    refine ⟨t, ht, hother, ?_, ?_, fun n => ?_, ?_, hstill⟩
    · rw [hbank]
    · rw [hbank]
    · rw [hbank]
      dsimp only
      rw [loadPoints_get]
      split
      · rfl
      · split
        · exact Vector.getElem_replicate _
        · rfl
    · rw [hbank]; exact hslot
  case commit =>
    obtain ⟨t, ht, hother, hbank, hslot, hstill⟩ :=
      exec_bank (c := .compCommit tag i count origin spacing mode check) rfl hfree
        (serve_compCommit ha ⟨h1, h2⟩ ⟨h3, h4⟩ ⟨h5, h6⟩ ⟨h7, h8⟩ hst hpts hsum)
    refine ⟨t, ht, hother, ?_, ?_, fun n => ?_, ?_, ?_, hslot, hstill⟩ <;> rw [hbank]
    · rfl
    · rfl
    · exact Vector.getElem_ofFn _
    · rfl
    · rfl
  case clear =>
    obtain ⟨t, ht, hother, hbank, hslot, hstill⟩ := exec_bank (c := .compClear tag i) rfl hfree (serve_compClear ha _)
    refine ⟨t, ht, hother, ?_, ?_, fun n => ?_, ?_, ?_, hslot, hstill⟩ <;> rw [hbank]
    exact Vector.getElem_replicate _

end Sys2Proof.Machine
end

section
/-! CLAIMS. The mesh table's learning (R131, R132) and the corrections of the maps (R84 to R86). -/

namespace Sys2Proof.Machine

/-! ## Learning -/

theorem meshNear_eq_true {cpr tol angle : Nat} {k : MeshKey} {e : MeshEntry} :
    meshNear cpr tol k angle e = true ↔ e.key = k ∧ circDist cpr e.angle angle ≤ tol := by
  unfold meshNear
  rw [Bool.and_eq_true, beq_iff_eq, decide_eq_true_iff]

theorem meshNearest_eq_none {cpr angle : Nat} {l : List MeshEntry} : meshNearest cpr angle l = none ↔ l = [] := by
  cases l with
  | nil => simp [meshNearest]
  | cons m ms =>
    unfold meshNearest
    (repeat' split) <;> simp

/-- The learned entry stands in front of the entries that are not near; a table without a near one loses its twelfth. -/
theorem meshLearn_eq (cpr tol stamp : Nat) (k : MeshKey) (angle : Nat) (t : List MeshEntry) :
    ∃ m : MeshEntry, m.key = k ∧ m.angle = angle ∧ m.misses = 0 ∧ 1 ≤ m.hits ∧ m.hits ≤ 255 ∧ m.stamp = stamp ∧
      meshLearn cpr tol stamp k angle t =
        m :: if ∃ e ∈ t, meshNear cpr tol k angle e = true then t.filter fun e => !meshNear cpr tol k angle e
          else t.take 11 := by
  unfold meshLearn
  dsimp only
  split
  next m hm =>
    have hsome : ∃ e ∈ t, meshNear cpr tol k angle e = true := by
      have hne : t.filter (meshNear cpr tol k angle) ≠ [] := fun h => by rw [h] at hm; cases hm
      obtain ⟨e, he⟩ := List.exists_mem_of_ne_nil _ hne
      exact ⟨e, List.mem_filter.1 he⟩
    rw [if_pos hsome]
    exact ⟨_, rfl, rfl, rfl, by dsimp only; omega, by dsimp only; omega, rfl, rfl⟩
  next hm =>
    have hnone : ¬∃ e ∈ t, meshNear cpr tol k angle e = true := by
      rintro ⟨e, he, hnear⟩
      have := List.mem_filter.2 ⟨he, hnear⟩
      rw [meshNearest_eq_none.1 hm] at this
      cases this
    rw [if_neg hnone]
    exact ⟨_, rfl, rfl, rfl, le_refl 1, by dsimp only; omega, rfl, rfl⟩

/-- What stands behind the learned entry: a sublist of the table without a near entry, of 11 at most. -/
theorem meshRest {cpr tol : Nat} {k : MeshKey} {angle : Nat} {t : List MeshEntry} (hlen : t.length ≤ 12) :
    let rest := if ∃ e ∈ t, meshNear cpr tol k angle e = true then t.filter fun e => !meshNear cpr tol k angle e
      else t.take 11
    rest.Sublist t ∧ rest.length ≤ 11 ∧ ∀ e ∈ rest, meshNear cpr tol k angle e = false := by
  intro rest
  by_cases h : ∃ e ∈ t, meshNear cpr tol k angle e = true
  · have hrest : rest = t.filter fun e => !meshNear cpr tol k angle e := if_pos h
    obtain ⟨e, he, hnear⟩ := h
    have hlt : (t.filter fun e => !meshNear cpr tol k angle e).length < t.length :=
      List.length_filter_lt_length_iff_exists.2 ⟨e, he, by simp [hnear]⟩
    rw [hrest]
    exact ⟨List.filter_sublist, by omega, fun e he => by simpa using (List.mem_filter.1 he).2⟩
  · have hrest : rest = t.take 11 := if_neg h
    rw [hrest]
    refine ⟨List.take_sublist _ _, by simp, fun e he => ?_⟩
    by_contra hnear
    exact h ⟨e, List.mem_of_mem_take he, by simpa using hnear⟩

/-- Settles O43: the learned entry is put before entries that are all further away than the tolerance. -/
theorem learningKeepsTheMeshApart : Obligations.LearningKeepsTheMeshApart := by
  rintro cpr tol stamp angle k t ⟨hlen, hapart⟩
  obtain ⟨m, hkey, hangle, hmiss, hhits, hhits', hstamp, hlearn⟩ := meshLearn_eq cpr tol stamp k angle t
  obtain ⟨hsub, hshort, hfar⟩ := meshRest (cpr := cpr) (tol := tol) (k := k) (angle := angle) hlen
  rw [hlearn]
  set rest := if ∃ e ∈ t, meshNear cpr tol k angle e = true then t.filter fun e => !meshNear cpr tol k angle e
    else t.take 11 with hrest
  refine ⟨⟨by simp; omega, List.pairwise_cons.2 ⟨fun e he hk => ?apart, hapart.sublist hsub⟩⟩,
    ⟨m, rest, rfl, hkey, hangle, hmiss, hhits, hhits', hstamp, hsub⟩, fun hshort e he hne => ?others, ?tail⟩
  case apart =>
    have hn := hfar e he
    rw [← Bool.not_eq_true, meshNear_eq_true] at hn
    rw [hangle, circDist_comm]
    by_contra hle
    exact hn ⟨hk.symm.trans hkey, Nat.not_lt.1 hle⟩
  case others =>
    refine List.mem_cons_of_mem _ ?_
    rw [hrest]
    split
    · refine List.mem_filter.2 ⟨he, ?_⟩
      have hn : ¬meshNear cpr tol k angle e = true := fun h => hne (meshNear_eq_true.1 h).1
      simpa using hn
    · rwa [List.take_of_length_le hshort]
  case tail =>
    have hdec : ∀ e : MeshEntry, meshNear cpr tol k angle e = decide (e.key = k ∧ circDist cpr e.angle angle ≤ tol) :=
      fun e => Bool.eq_iff_iff.2 (by rw [meshNear_eq_true, decide_eq_true_iff])
    show rest = _
    rw [hrest]
    simp only [hdec, decide_eq_true_eq]

/-! ## Rounding -/

theorem divRound_neg (a : Int) (b : Nat) : divRound (-a) b = -divRound a b := by
  unfold divRound
  rcases lt_trichotomy a 0 with h | rfl | h
  · rw [if_pos (by omega), if_neg (by omega), neg_neg]
  · have hb : ((b : Int)) / (2 * b) = 0 := by
      rcases Nat.eq_zero_or_pos b with rfl | hb
      · rfl
      · exact Int.ediv_eq_zero_of_lt (by omega) (by omega)
    simp [hb]
  · rw [if_neg (by omega), if_pos (by omega), neg_neg]

/-- The defining inequality of rounding to nearest, of a number that is not negative. -/
theorem divRound_of_nonneg {a : Int} {b : Nat} (ha : 0 ≤ a) (hb : 0 < b) :
    2 * (divRound a b * b) ≤ 2 * a + b ∧ 2 * a < 2 * (divRound a b * b) + b := by
  have hq : divRound a b = (2 * a + b) / (2 * b : Int) := if_pos ha
  have hdiv := Int.mul_ediv_add_emod (2 * a + b) (2 * b)
  have hlow := Int.emod_nonneg (2 * a + b) (b := 2 * (b : Int)) (by omega)
  have hhigh := Int.emod_lt_of_pos (2 * a + b) (b := 2 * (b : Int)) (by omega)
  rw [← hq, mul_assoc, mul_comm (b : Int)] at hdiv
  constructor <;> omega

/-- The quotient is the nearest whole number, and of two equally near the one further from zero. -/
theorem divRound_near (a : Int) {b : Nat} (hb : 0 < b) :
    2 * |divRound a b * b - a| ≤ b ∧ (2 * |divRound a b * b - a| = b → |a| < |divRound a b * b|) := by
  simp only [abs_eq_max_neg]
  rcases le_total 0 a with ha | ha
  · obtain ⟨h1, h2⟩ := divRound_of_nonneg ha hb
    constructor <;> omega
  · obtain ⟨h1, h2⟩ := divRound_of_nonneg (a := -a) (by omega) hb
    rw [divRound_neg, neg_mul] at h1 h2
    constructor <;> omega

/-- A share of a way lies on the way. -/
theorem divRound_between {d x : Int} {b : Nat} (hb : 0 < b) (hx : 0 ≤ x) (hxb : x ≤ b) :
    min 0 d ≤ divRound (d * x) b ∧ divRound (d * x) b ≤ max 0 d := by
  have key : ∀ e : Int, 0 ≤ e → 0 ≤ divRound (e * x) b ∧ divRound (e * x) b ≤ e := by
    intro e he
    have hex : 0 ≤ e * x := mul_nonneg he hx
    have hle : e * x ≤ e * b := mul_le_mul_of_nonneg_left hxb he
    obtain ⟨h1, h2⟩ := divRound_of_nonneg hex hb
    constructor
    · by_contra hneg
      have : divRound (e * x) b * b ≤ -1 * b := mul_le_mul_of_nonneg_right (by omega) (by omega)
      omega
    · by_contra hgt
      have : (e + 1) * b ≤ divRound (e * x) b * b := mul_le_mul_of_nonneg_right (by omega) (by omega)
      rw [add_mul] at this
      omega
  rcases le_total 0 d with hd | hd
  · obtain ⟨h1, h2⟩ := key d hd
    omega
  · obtain ⟨h1, h2⟩ := key (-d) (by omega)
    rw [neg_mul, divRound_neg] at h1 h2
    omega

/-! ## Corrections -/

theorem compStep_target (b : Bank) (refd : Bool) (z : Int) : (compStep b refd z).target = compTarget b refd z := rfl

theorem compStep_c (b : Bank) (refd : Bool) (z : Int) :
    (compStep b refd z).c = approach b.c (compStep b refd z).target b.slew := rfl

theorem compTarget_active {b : Bank} {g : Geom} (hst : b.st = .active) (hg : b.geom = some g) (z : Int) :
    compTarget b true z = bankTarget b g z := by
  unfold compTarget; rw [hst, hg]; rfl

/-- Within the map the target is read from the point below and, in LINEAR, the one above (R84). -/
theorem bankTarget_inside {b : Bank} {g : Geom} (hspacing : 1 ≤ g.spacing) {i : Nat} {f : Int} (hi : i + 1 < g.count)
    (hf : 0 ≤ f) (hf' : f < g.spacing) (hz : 0 < i ∨ 0 < f) :
    bankTarget b g (g.origin + i * g.spacing + f) =
      match g.mode with
      | .step => b.point i
      | .linear => b.point i + divRound ((b.point (i + 1) - b.point i) * f) g.spacing.toNat := by
  have hpos : 0 ≤ (i : Int) * g.spacing := mul_nonneg (by omega) (by omega)
  have hlow : ¬g.origin + i * g.spacing + f ≤ g.origin := by
    rcases hz with hz | hz
    · have : 1 * g.spacing ≤ (i : Int) * g.spacing := mul_le_mul_of_nonneg_right (by omega) (by omega)
      omega
    · omega
  have hhigh : ¬g.origin + ((g.count : Int) - 1) * g.spacing ≤ g.origin + i * g.spacing + f := by
    have : ((i : Int) + 1) * g.spacing ≤ ((g.count : Int) - 1) * g.spacing :=
      mul_le_mul_of_nonneg_right (by omega) (by omega)
    rw [add_mul, one_mul] at this
    omega
  have hindex : (divFloor (g.origin + i * g.spacing + f - g.origin) g.spacing).toNat = i := by
    have : g.origin + i * g.spacing + f - g.origin = f + i * g.spacing := by ring
    unfold divFloor
    rw [this, Int.fdiv_eq_ediv_of_nonneg _ (by omega), Int.add_mul_ediv_right _ _ (by omega),
      Int.ediv_eq_zero_of_lt hf hf']
    omega
  have hrest : g.origin + i * g.spacing + f - g.origin - i * g.spacing = f := by ring
  unfold bankTarget
  rw [if_neg hlow, if_neg hhigh, hindex]
  cases g.mode <;> simp only [hrest]

theorem bankTarget_point {b : Bank} {g : Geom} (hspacing : 1 ≤ g.spacing) {i : Nat} (hi : i < g.count) :
    bankTarget b g (g.origin + i * g.spacing) = b.point i := by
  rcases Nat.eq_zero_or_pos i with rfl | hpos
  · unfold bankTarget; rw [if_pos (by simp)]
  by_cases hlast : i + 1 < g.count
  · have h := bankTarget_inside (b := b) hspacing hlast (le_refl 0) (by omega) (.inl hpos)
    rw [add_zero] at h
    rw [h]
    have hz : divRound 0 g.spacing.toNat = 0 := by
      have := divRound_between (d := 0) (x := 0) (b := g.spacing.toNat) (by omega) (le_refl 0) (by omega)
      simp only [mul_zero] at this
      omega
    cases g.mode with
    | step => rfl
    | linear => simp [hz]
  · have hcount : (g.count : Int) - 1 = i := by omega
    have hmul : 1 * g.spacing ≤ (i : Int) * g.spacing := mul_le_mul_of_nonneg_right (by omega) (by omega)
    unfold bankTarget
    rw [if_neg (by omega), if_pos (by rw [hcount])]
    congr 1
    omega

/-- Settles O33. -/
theorem correctionsSlewToTheMap : Obligations.CorrectionsSlewToTheMap := by
  intro b refd z
  refine ⟨fun h => ?up, fun h => ?down, fun h => ?none, fun g hst hg hcount hspacing => ?map⟩
  case up => rw [compStep_c]; unfold approach; split <;> omega
  case down => rw [compStep_c]; unfold approach; split <;> omega
  case none =>
    rw [compStep_target]
    unfold compTarget
    split
    next hst _ =>
      rcases h with rfl | h
      · rfl
      · exact absurd hst h
    next => rfl
  case map =>
    have htarget : ∀ y, (compStep b true y).target = bankTarget b g y := compTarget_active hst hg
    rw [htarget]
    refine ⟨fun h => if_pos h, fun h => ?last, fun i hi hz => by rw [hz]; exact bankTarget_point hspacing hi,
      fun i f hi hf hf' hz => ?between⟩
    case last =>
      have hmul : 1 * g.spacing ≤ ((g.count : Int) - 1) * g.spacing := mul_le_mul_of_nonneg_right (by omega) (by omega)
      unfold bankTarget
      rw [if_neg (by omega), if_pos h]
    case between =>
      rw [hz, bankTarget_inside hspacing hi (by omega) hf' (.inr hf)]
      refine ⟨fun hm => by rw [hm], fun hm => ?_⟩
      rw [hm]
      dsimp only
      obtain ⟨hnear, htie⟩ := divRound_near ((b.point (i + 1) - b.point i) * f) (b := g.spacing.toNat) (by omega)
      obtain ⟨hmin, hmax⟩ := divRound_between (d := b.point (i + 1) - b.point i) (x := f) (b := g.spacing.toNat)
        (by omega) (by omega) (by omega)
      rw [show ((g.spacing.toNat : Nat) : Int) = g.spacing by omega] at hnear htie
      rw [add_sub_cancel_left]
      exact ⟨hnear, htie, by omega, by omega⟩

end Sys2Proof.Machine
end

section
/-! SUPPORT/CLAIMS. The reactions of raises (R195, R197, R198, R200): what a STOP and a TRIP reaction do to each block,
and that the entry of the raise stays as it was latched. -/

namespace Sys2Proof.Machine

/-! ## The entries that a reaction leaves alone -/

/-- The machine state and one entry of the condition table. -/
def watched (d : Cond) (s : State) : MState × CondEntry := (s.cn.machine, condEntry s d)

theorem watched_queueReport (d : Cond) (k : Report) (s : State) : watched d (queueReport k s) = watched d s := by
  unfold watched; rw [condEntry_queueReport]; simp

theorem watched_latch {c d : Cond} (h : d ≠ c) (q : Nat) (v : Int) (s : State) :
    watched d (latch c q v s) = watched d s := by
  unfold watched; rw [condEntry_latch, if_neg h.symm]; simp

theorem watched_fall {c d : Cond} (h : d ≠ c) (s : State) : watched d (fall c s) = watched d s := by
  unfold watched; rw [condEntry_fall, if_neg h.symm]; simp

theorem watched_setQState {d : Cond} (h : d ≠ .queueStarved) (q : QState) (s : State) :
    watched d (setQState q s) = watched d s := by
  unfold watched; rw [setQState_machine, condEntry_setQState h]

theorem watched_flushIdle {d : Cond} (h : d ≠ .queueStarved) (s : State) :
    watched d (flushIdle s) = watched d s := by
  have hflow : ∀ u : State, watched d (flowEval u) = watched d u := fun u => by
    unfold watched condEntry; rw [flowEval_cn]
  unfold flushIdle
  rw [hflow, watched_setQState h]
  rfl

theorem watched_foldl {α : Type} {d : Cond} {f : State → α → State} (hf : ∀ s a, watched d (f s a) = watched d s)
    (l : List α) (s : State) : watched d (l.foldl f s) = watched d s := by
  induction l generalizing s with
  | nil => rfl
  | cons a l ih => rw [List.foldl_cons, ih, hf]

/-! ## SGU when the queue does not run -/

theorem setSpindle_of_not_running {s : State} (h : s.sq.st ≠ .running) (st : SpindleState) :
    setSpindle st s = { s with sgu.st := st } := by
  unfold setSpindle
  dsimp only
  exact if_neg fun e => h e.2.2.2.1

/-- The spindle's target is formed again: only SGU changes, and of it the target, the state and the start of the turn. -/
theorem retarget_of_not_running {s : State} (h : s.sq.st ≠ .running) :
    ∃ g : Sgu, retarget s = { s with sgu := g } ∧ g.target = formTarget s ∧ g.reqSpeed = s.sgu.reqSpeed ∧
      g.reqDir = s.sgu.reqDir ∧ g.shift = s.sgu.shift ∧ g.gear = s.sgu.gear ∧ g.mesh = s.sgu.mesh ∧
      g.shiftCount = s.sgu.shiftCount := by
  unfold retarget spindleStart
  dsimp only
  (repeat' split) <;> (try rw [setSpindle_of_not_running (by exact h)]) <;>
    exact ⟨_, rfl, rfl, rfl, rfl, rfl, rfl, rfl, rfl⟩

theorem spindleStopSpeed_of_not_running {s : State} (h : s.sq.st ≠ .running) :
    ∃ g : Sgu, spindleStopSpeed s = { s with sgu := g } ∧ g.reqSpeed = 0 ∧ g.shift = s.sgu.shift ∧
      g.gear = s.sgu.gear := by
  obtain ⟨g, heq, -, hreq, -, hshift, hgear, -, -⟩ := retarget_of_not_running (s := { s with sgu.reqSpeed := 0 }) h
  exact ⟨g, heq, hreq, hshift, hgear⟩

/-- A withdrawn and returned grant. -/
theorem hydWithdraw_return (s : State) (w : Requester) :
    ∃ y : Hyd, hydWithdraw w (hydReturn w s) = { s with hs := y } ∧ y.st = s.hs.st := by
  unfold hydReturn
  split
  · split <;> exact ⟨_, rfl, rfl⟩
  · exact ⟨_, rfl, rfl⟩

theorem spindleOff_of_not_running {s : State} (h : s.sq.st ≠ .running) :
    spindleOff s = { s with sgu.st := .off, sgu.out := 0, sgu.posMoving := false, sgu.positionT := .stopped } := by
  unfold spindleOff
  rw [setSpindle_of_not_running (by exact h)]

/-- The end of a teardown: the gear is ENGAGED or UNKNOWN and the shift is gone (R130 step 3). -/
theorem gearAfterAbandon_stopped (s : State) :
    ∃ (n : Nat) (g : Sgu), stopShiftTimers { gearAfterAbandon s with sgu.shift := none } =
        { s with free := n, sgu := g } ∧ g.reqSpeed = s.sgu.reqSpeed ∧ g.target = s.sgu.target ∧ g.shift = none ∧
      shifting { s with sgu := g } = false := by
  unfold gearAfterAbandon
  split <;> exact ⟨_, _, rfl, rfl, rfl, rfl, rfl⟩

theorem shiftTeardown_of_not_running {s : State} (h : s.sq.st ≠ .running) :
    ∃ (n : Nat) (y : Hyd) (g : Sgu), shiftTeardown s = { s with free := n, hs := y, sgu := g } ∧
      g.reqSpeed = s.sgu.reqSpeed ∧ g.target = s.sgu.target ∧ g.shift = none ∧ shifting { s with sgu := g } = false := by
  obtain ⟨y, hy, -⟩ := hydWithdraw_return s .gear
  unfold shiftTeardown
  dsimp only
  rw [hy]
  split
  · rw [spindleOff_of_not_running (by exact h)]
    obtain ⟨n, g, heq, hrest⟩ := gearAfterAbandon_stopped
      { s with hs := y, sgu.st := .off, sgu.out := 0, sgu.posMoving := false, sgu.positionT := .stopped }
    exact ⟨n, y, g, heq, hrest⟩
  · obtain ⟨n, g, heq, hrest⟩ := gearAfterAbandon_stopped { s with hs := y }
    exact ⟨n, y, g, heq, hrest⟩

theorem queueReport_eq (k : Report) (s : State) : queueReport k s = { s with rq := (queueReport k s).rq } := by
  unfold queueReport; split <;> rfl

/-- Abandoning a shift changes SGU and HS and queues a report; where a shift was in progress none is left. -/
theorem abandonShift_of_not_running {s : State} (h : s.sq.st ≠ .running) :
    ∃ (n : Nat) (y : Hyd) (g : Sgu) (rq : List RptEntry),
      abandonShift s = { s with free := n, hs := y, sgu := g, rq := rq } ∧ g.reqSpeed = s.sgu.reqSpeed ∧
      g.target = s.sgu.target ∧
      (s.sgu.shift ≠ none → shifting (abandonShift s) = false ∧ (shifting s = true → g.shift = none)) ∧
      (shifting s = false ∨ s.sgu.shift = none → abandonShift s = s) := by
  unfold abandonShift
  split
  next k hk =>
    split
    next hs =>
      obtain ⟨n, y, g, heq, hreq, htar, hnone, hshift⟩ := shiftTeardown_of_not_running h
      rw [heq, abortReport, queueReport_eq]
      refine ⟨n, y, g, _, rfl, hreq, htar, fun _ => ⟨hshift, fun _ => hnone⟩, fun e => ?_⟩
      rcases e with e | e
      · rw [e] at hs; cases hs
      · rw [e] at hk; cases hk
    next hs =>
      exact ⟨_, _, _, _, rfl, rfl, rfl, fun _ => ⟨by simpa using hs, fun e => absurd e hs⟩, fun _ => rfl⟩
  next hk => exact ⟨_, _, _, _, rfl, rfl, rfl, fun e => absurd hk e, fun _ => rfl⟩

/-! ## The STOP reaction, block by block -/

/-- The flush of R13: IDLE, without records, current record, move or hold record, and no axis QUEUE's. -/
theorem flushIdle_parts (s : State) :
    ((flushIdle s).sq.st = .idle ∧ (flushIdle s).sq.recs = [] ∧ (flushIdle s).sq.current = false ∧
      (flushIdle s).pi = (piDrop s).pi ∧ (flushIdle s).ax = (dropQueueOwners s).ax) ∧
    (flushIdle s).cc = s.cc ∧ (flushIdle s).hs = s.hs ∧ (flushIdle s).sgu = s.sgu ∧ (flushIdle s).pp = s.pp ∧
    (flushIdle s).inp = s.inp ∧ (flushIdle s).hlp = s.hlp := by
  unfold flushIdle
  simp [dropQueueOwners, piDrop, clearRecords]

/-- The states in which the path can move (R7). -/
def QueueMoves (s : State) : Prop := s.sq.st = .running ∨ s.sq.st = .holding ∨ s.sq.st = .returning

/-- What abandoning may do to a shift: none in progress is left of one that was, and one not in progress stays. -/
def ShiftLeft (s : State) (g : Sgu) : Prop :=
  (s.sgu.shift ≠ none → shifting { s with sgu := g } = false ∧ (shifting s = true → g.shift = none)) ∧
    (shifting s = false → g.shift = s.sgu.shift ∧ g.gear = s.sgu.gear)

theorem shiftLeft_of_eq {s : State} {g : Sgu} (h : s.sgu.shift = none ∨ shifting s = false) (hs : g.shift = s.sgu.shift)
    (hg : g.gear = s.sgu.gear) : ShiftLeft s g := by
  refine ⟨fun hne => ?_, fun _ => ⟨hs, hg⟩⟩
  rcases h with h | h
  · exact absurd h hne
  · exact ⟨by unfold shifting at h ⊢; dsimp only; rw [hg]; exact h, fun e => by rw [h] at e; cases e⟩

/-- SQ stops a moving path: STOPPING, a GEAR record's shift abandoned, and the flush where the rate is 0 (R12, R46). -/
theorem sqStop_of_moves {s : State} (h : QueueMoves s) :
    ∃ (n : Nat) (y : Hyd) (g : Sgu) (rq : List RptEntry),
      let v : State := { setQState .stopping s with free := n, hs := y, sgu := g, rq := rq }
      sqStop s = (if s.pi.r = 0 then flushIdle v else v) ∧ (g = s.sgu ∨ ShiftLeft s g) := by
  have hst : (setQState .stopping s).sq.st ≠ .running := by simp
  have hstop : sqStop s =
      (let v := if gearRecordCurrent (setQState .stopping s) then abandonShift (setQState .stopping s)
        else setQState .stopping s
       if v.pi.r = 0 then flushIdle v else v) := by
    unfold sqStop; rcases h with h | h | h <;> rw [h]
  rw [hstop]
  dsimp only
  split
  · obtain ⟨n, y, g, rq, heq, -, -, hshift, hkeep⟩ := abandonShift_of_not_running hst
    refine ⟨n, y, g, rq, ?_, .inr ⟨fun hne => ?_, fun he => ?_⟩⟩
    · rw [heq]; simp
    · have := hshift (by simpa using hne)
      rw [heq] at this
      simpa [shifting] using this
    · have := (heq.symm.trans (hkeep (.inl (by simpa [shifting] using he))))
      have hg : g = (setQState .stopping s).sgu := congrArg State.sgu this
      rw [hg]; simp
  · exact ⟨(setQState .stopping s).free, (setQState .stopping s).hs, (setQState .stopping s).sgu,
      (setQState .stopping s).rq, congrArg (fun p : PathInt => if p.r = 0 then
        flushIdle (setQState .stopping s) else setQState .stopping s) (setQState_pi .stopping s), .inl (by simp)⟩

theorem sqStop_cases (s : State) :
    (s.sq.st = .idle ∨ s.sq.st = .stopping) ∧ sqStop s = s ∨ s.sq.st = .held ∧ sqStop s = flushIdle s ∨
      QueueMoves s := by
  unfold sqStop QueueMoves
  cases s.sq.st <;> simp

/-- One homing under the STOP reaction (R74), with the reason of a failure. -/
def abortedCh (r : HomeReason) (k : AxisCh) : AxisCh :=
  if homeAbortable k.phase then { k with hFail := some (r, k.phase), phase := .ending } else k

theorem abortedCh_keeps (r : HomeReason) (k : AxisCh) :
    (abortedCh r k).owner = k.owner ∧ (abortedCh r k).setpoint = k.setpoint := by
  unfold abortedCh; split <;> exact ⟨rfl, rfl⟩

theorem homeAbort_eq (s : State) (a : Axis) : homeAbort s a = updAx a (abortedCh (homeReason s a .aborted)) s := by
  have hid : ∀ f : AxisCh → AxisCh, f (s.ax.get a) = s.ax.get a → updAx a f s = s := fun f hf => by
    have : s.ax.upd a f = s.ax := PerAxis.ext_get fun b => by
      rw [PerAxis.get_upd]; split
      · next h => subst h; exact hf
      · rfl
    unfold updAx; rw [this]
  have hpoint : ∀ f g : AxisCh → AxisCh, f (s.ax.get a) = g (s.ax.get a) → updAx a f s = updAx a g s := fun f g hf => by
    have : s.ax.upd a f = s.ax.upd a g := PerAxis.ext_get fun b => by
      rw [PerAxis.get_upd, PerAxis.get_upd]; split
      · next h => subst h; exact hf
      · rfl
    unfold updAx; rw [this]
  unfold homeAbort
  split
  · next h => exact hpoint _ _ (by unfold abortedCh; rw [if_pos h])
  · next h => exact (hid _ (by unfold abortedCh; rw [if_neg h])).symm

theorem foldl_homeAbort (s : State) :
    allAxes.foldl homeAbort s = mapAx (fun a => abortedCh (homeReason s a .aborted)) s := by
  simp only [allAxes, List.foldl_cons, List.foldl_nil, homeAbort_eq]
  rfl

/-- The demands are OFF after the STOP reaction's write (R141). -/
theorem coolantAllOff_eq (s : State) : ∃ c : Coolant, coolantAllOff s = { s with cu := c } ∧ c.floodDem = false ∧
    c.tscDem = false ∧ c.mistDem = false := by
  unfold coolantAllOff coolantWrite writeMist writeTsc writeFlood floodOff tscOff tscPurge
  dsimp only
  split <;> (try split) <;> exact ⟨_, rfl, rfl, rfl, rfl⟩

/-- The deliveries of a STOP behind SQ's part: PI, the queue, the clamps and the inputs stay as SQ left them. -/
theorem stopDeliveries_eq {s : State} (h : (sqStop s).sq.st ≠ .running) :
    ∃ (n : Nat) (y : Hyd) (g : Sgu) (c : Coolant) (rq : List RptEntry),
      stopDeliveries s = endAllJogs .panic (mapAx (fun a => abortedCh (homeReason (sqStop s) a .aborted))
        { sqStop s with free := n, hs := y, sgu := g, cu := c, rq := rq }) ∧
      g.reqSpeed = 0 ∧ ShiftLeft (sqStop s) g ∧ c.floodDem = false ∧ c.tscDem = false ∧ c.mistDem = false := by
  obtain ⟨g1, h1, hreq, hshift, hgear⟩ := spindleStopSpeed_of_not_running h
  obtain ⟨n, y, g, rq, h2, hreq2, -, hleft, hkeep⟩ := abandonShift_of_not_running (s := spindleStopSpeed (sqStop s))
    (by rw [h1]; exact h)
  obtain ⟨c, h3, hf, ht, hm⟩ := coolantAllOff_eq (abandonShift (spindleStopSpeed (sqStop s)))
  refine ⟨n, y, g, c, rq, ?_, ?_, ⟨fun hne => ?_, fun he => ?_⟩, hf, ht, hm⟩
  · unfold stopDeliveries
    dsimp only
    rw [foldl_homeAbort, h3, h2, h1]
    rfl
  · rw [hreq2, h1]; exact hreq
  · have := hleft (by rw [h1]; simpa [hshift] using hne)
    rw [h2, h1] at this
    simpa [shifting, hgear] using this
  · have := h2.symm.trans (hkeep (.inl (by rw [h1]; simpa [shifting, hgear] using he)))
    rw [h1] at this
    have hg : g = g1 := congrArg State.sgu this
    rw [hg]; exact ⟨hshift, hgear⟩

/-! ## The entries through the reactions -/

theorem watched_abandonShift {d : Cond} {s : State} (h : s.sq.st ≠ .running) :
    watched d (abandonShift s) = watched d s := by
  obtain ⟨n, y, g, rq, heq, -⟩ := abandonShift_of_not_running h
  rw [heq]; rfl

theorem watched_sqStop {d : Cond} (h : d ≠ .queueStarved) (s : State) : watched d (sqStop s) = watched d s := by
  rcases sqStop_cases s with ⟨-, heq⟩ | ⟨-, heq⟩ | hm
  · rw [heq]
  · rw [heq, watched_flushIdle h]
  · obtain ⟨n, y, g, rq, heq, -⟩ := sqStop_of_moves hm
    rw [heq]
    split
    · rw [watched_flushIdle h]; exact watched_setQState h _ s
    · exact watched_setQState h _ s

theorem sqStop_not_running (s : State) : (sqStop s).sq.st ≠ .running := by
  rcases sqStop_cases s with ⟨hst, heq⟩ | ⟨-, heq⟩ | hm
  · rw [heq]; rcases hst with hst | hst <;> rw [hst] <;> decide
  · rw [heq, (flushIdle_parts _).1.1]; decide
  · obtain ⟨n, y, g, rq, heq, -⟩ := sqStop_of_moves hm
    rw [heq]
    split
    · rw [(flushIdle_parts _).1.1]; decide
    · simp

theorem watched_stopDeliveries {d : Cond} (h : d ≠ .queueStarved) (s : State) :
    watched d (stopDeliveries s) = watched d s := by
  obtain ⟨n, y, g, c, rq, heq, -⟩ := stopDeliveries_eq (sqStop_not_running s)
  rw [heq, ← watched_sqStop h s]
  rfl

theorem watched_spindleOff {d : Cond} {s : State} (h : s.sq.st ≠ .running) : watched d (spindleOff s) = watched d s := by
  rw [spindleOff_of_not_running h]; rfl

theorem watched_sguTrip {d : Cond} {s : State} (hd : d ≠ .driveSaturated .spindle) (h : s.sq.st = .idle) :
    watched d (sguTrip s) = watched d s := by
  have hidle : ∀ u : State, u.sq.st = s.sq.st → u.sq.st ≠ .running := fun u hu => by rw [hu, h]; decide
  unfold sguTrip
  dsimp only
  rw [watched_fall hd]
  obtain ⟨n, y, g, rq, heq, -⟩ := abandonShift_of_not_running (hidle
    { s with sgu.reqSpeed := 0, sgu.target := 0, sgu.ramped := 0, sgu.out := 0, sgu.satCount := 0 } rfl)
  rw [heq]
  split
  · rfl
  · exact (watched_spindleOff (by exact hidle _ rfl)).trans rfl

theorem watched_homeTrip (d : Cond) (s : State) (a : Axis) : watched d (homeTrip s a) = watched d s := by
  unfold homeTrip
  split
  · rfl
  · exact watched_queueReport d _ _
  · rfl
  · rfl

theorem watched_clampsTrip (d : Cond) (s : State) : watched d (clampsTrip s) = watched d s := rfl
theorem watched_coolantTrip (d : Cond) (s : State) : watched d (coolantTrip s) = watched d s := rfl
theorem watched_jogsDrop (d : Cond) (s : State) : watched d (jogsDrop s) = watched d s := rfl
theorem clampsTrip_sq (s : State) : (clampsTrip s).sq = s.sq := rfl

theorem watched_axesTrip {d : Cond} (h : d.cls = .trip) (s : State) : watched d (axesTrip s) = watched d s := by
  have hfall : ∀ (u : State) (a : Axis), watched d (fall (.driveSaturated (.axis a)) u) = watched d u := fun u a =>
    watched_fall (fun e => by rw [e] at h; cases h) u
  unfold axesTrip
  rw [watched_foldl hfall]
  rfl

theorem watched_sqTrip {d : Cond} (h : d ≠ .queueStarved) (s : State) : watched d (sqTrip s) = watched d s := by
  unfold sqTrip
  split
  · rfl
  · exact watched_flushIdle h s

/-- The entry of a TRIP condition, and the machine state, through the TRIP reaction. -/
theorem watched_tripDeliveries {d : Cond} (h : d.cls = .trip) (s : State) :
    watched d (tripDeliveries s) = watched d s := by
  have hne : ∀ c : Cond, c.cls ≠ .trip → d ≠ c := fun c hc e => hc (e ▸ h)
  have hidle : (fall .hydPressureLow (clampsTrip (axesTrip (sqTrip s)))).sq.st = .idle := by
    rw [fall_sq, clampsTrip_sq, (axesTrip_keeps _).1]
    exact (sqTrip_spec s).1
  unfold tripDeliveries
  dsimp only
  rw [watched_foldl (watched_homeTrip d), watched_jogsDrop, watched_coolantTrip,
    watched_sguTrip (hne _ (by decide)) hidle, watched_fall (hne _ (by decide)), watched_clampsTrip,
    watched_axesTrip h, watched_sqTrip (hne _ (by decide))]

theorem watched_homeReport {d : Cond} (h : d.cls = .trip) (s : State) (a : Axis) :
    watched d (homeReport s a) = watched d s := by
  unfold homeReport
  split
  · rw [watched_queueReport, watched_latch (fun e => by rw [e] at h; cases h)]; rfl
  · rfl

/-! ## Raises -/

theorem raise_of_no_reaction {c : Cond} {s : State} (h : s.cn.machine = .tripped ∨ c.cls = .note) (q : Nat) (v : Int) :
    raise c q v s = latch c q v s := by
  unfold raise
  rcases h with h | h
  · cases c.cls
    case note => rfl
    case hold => exact if_pos h
    case stop =>
      show reactStop (latch c q v s) = _
      unfold reactStop; rw [latch_machine, h]
    case trip => exact if_pos h
  · rw [h]

theorem raise_of_stop {c : Cond} {s : State} (hc : c.cls = .stop) (h : s.cn.machine ≠ .tripped) (q : Nat) (v : Int) :
    raise c q v s = stopDeliveries { latch c q v s with cn.machine := .stopping } := by
  have hlatch : (latch c q v s).cn.machine = s.cn.machine := by simp
  unfold raise
  rw [hc]
  show reactStop (latch c q v s) = _
  unfold reactStop
  cases hm : s.cn.machine with
  | tripped => exact absurd hm h
  | ready => rw [hlatch, hm]
  | stopping =>
    rw [hlatch, hm]
    dsimp only
    rw [hm] at hlatch
    congr 1
    rw [← hlatch]

theorem raise_of_trip {c : Cond} {s : State} (hc : c.cls = .trip) (h : s.cn.machine ≠ .tripped) (q : Nat) (v : Int) :
    raise c q v s =
      allAxes.foldl homeReport (tripDeliveries { latch c q v s with cn.machine := .tripped }) := by
  unfold raise
  rw [hc]
  exact if_neg h

/-- Steps 1 to 3 of a raise stand whatever the reaction does (R195). -/
theorem watched_raise (c : Cond) (q : Nat) (v : Int) (s : State) :
    watched c (raise c q v s) = (machineAfter c.cls s.cn.machine,
      { condEntry s c with latched := true, last := some ⟨s.hlp.ms, q, fit32 v⟩ }) := by
  have hlatch : condEntry (latch c q v s) c =
      { condEntry s c with latched := true, last := some ⟨s.hlp.ms, q, fit32 v⟩ } := by
    rw [condEntry_latch, if_pos rfl]
  have hne : c.cls ≠ .note → c ≠ .queueStarved := fun h e => h (by rw [e]; rfl)
  by_cases hno : s.cn.machine = .tripped ∨ c.cls = .note
  · rw [raise_of_no_reaction hno]
    unfold watched
    rw [hlatch, latch_machine]
    rcases hno with h | h
    · rw [h]; cases c.cls <;> rfl
    · rw [h]; cases s.cn.machine <;> rfl
  · obtain ⟨hm, hnote⟩ := not_or.1 hno
    cases hc : c.cls with
    | note => exact absurd hc hnote
    | hold =>
      have hraise : raise c q v s = raiseHold c q v s := by unfold raise; rw [hc]
      rw [hraise]
      unfold watched
      rw [raiseHold_machine, condEntry_raiseHold (hne hnote)]
      cases s.cn.machine <;> rfl
    | stop =>
      rw [raise_of_stop hc hm, watched_stopDeliveries (hne hnote)]
      show (MState.stopping, condEntry (latch c q v s) c) = _
      rw [hlatch]
      cases hs : s.cn.machine
      case tripped => exact absurd hs hm
      all_goals rfl
    | trip =>
      rw [raise_of_trip hc hm, watched_foldl (watched_homeReport hc), watched_tripDeliveries hc]
      show (MState.tripped, condEntry (latch c q v s) c) = _
      rw [hlatch]
      cases s.cn.machine <;> rfl

end Sys2Proof.Machine
end

section
/-! CLAIMS. The STOP reaction and the TRIP reaction as the raises deliver them (R195, R198 to R200). -/

namespace Sys2Proof.Machine

/-! ## The STOP reaction -/

theorem get_dropQueueOwners (s : State) (a : Axis) : ((dropQueueOwners s).ax.get a).owner ≠ .queue := by
  unfold dropQueueOwners
  rw [mapAx_ax, PerAxis.get_map]
  split
  · exact fun e => by cases e
  · next h => exact h

/-- What the queue is after a STOP reaction (R12, R46). -/
theorem sqStop_queue (s : State) :
    (QueueMoves s → s.pi.r ≠ 0 →
      (sqStop s).sq.st = .stopping ∧ (sqStop s).sq.recs = s.sq.recs ∧ (sqStop s).pi.r = s.pi.r) ∧
    (QueueMoves s ∧ s.pi.r = 0 ∨ s.sq.st = .held →
      (sqStop s).sq.st = .idle ∧ (sqStop s).sq.recs = [] ∧ (sqStop s).sq.current = false ∧ (sqStop s).pi.move = none ∧
        (sqStop s).pi.hold = none ∧ ∀ a, ((sqStop s).ax.get a).owner ≠ .queue) ∧
    (s.sq.st = .idle ∨ s.sq.st = .stopping → (sqStop s).sq = s.sq) := by
  have hflush : ∀ u : State, (flushIdle u).sq.st = .idle ∧ (flushIdle u).sq.recs = [] ∧
      (flushIdle u).sq.current = false ∧ (flushIdle u).pi.move = none ∧ (flushIdle u).pi.hold = none ∧
      ∀ a, ((flushIdle u).ax.get a).owner ≠ .queue := fun u => by
    obtain ⟨⟨h1, h2, h3, h4, h5⟩, -⟩ := flushIdle_parts u
    rw [h4, h5]
    exact ⟨h1, h2, h3, rfl, rfl, get_dropQueueOwners u⟩
  refine ⟨fun hm hr => ?_, fun h => ?_, fun h => ?_⟩
  · obtain ⟨n, y, g, rq, heq, -⟩ := sqStop_of_moves hm
    rw [heq, if_neg hr]
    simp
  · rcases h with ⟨hm, hr⟩ | hheld
    · obtain ⟨n, y, g, rq, heq, -⟩ := sqStop_of_moves hm
      rw [heq, if_pos hr]
      exact hflush _
    · have heq : sqStop s = flushIdle s := by unfold sqStop; rw [hheld]
      rw [heq]
      exact hflush s
  · have heq : sqStop s = s := by unfold sqStop; rcases h with h | h <;> rw [h]
    rw [heq]

/-- SQ's part of a STOP leaves PP, the inputs and the setpoints alone, and a shift that it does not abandon. -/
theorem sqStop_rest (s : State) : (sqStop s).pp = s.pp ∧ (sqStop s).inp = s.inp ∧
    (∀ a, ∃ o, (sqStop s).ax.get a = { s.ax.get a with owner := o } ∧
      ((s.ax.get a).owner ≠ .queue → o = (s.ax.get a).owner)) ∧
    ((sqStop s).sgu = s.sgu ∨ ShiftLeft s (sqStop s).sgu) := by
  have hsame : ∀ a, ∃ o, s.ax.get a = { s.ax.get a with owner := o } ∧
      ((s.ax.get a).owner ≠ .queue → o = (s.ax.get a).owner) := fun a => ⟨_, rfl, fun _ => rfl⟩
  have hdrop : ∀ u : State, u.ax = s.ax → ∀ a, ∃ o, (flushIdle u).ax.get a = { s.ax.get a with owner := o } ∧
      ((s.ax.get a).owner ≠ .queue → o = (s.ax.get a).owner) := fun u hu a => by
    rw [(flushIdle_parts u).1.2.2.2.2]
    unfold dropQueueOwners
    rw [mapAx_ax, PerAxis.get_map, hu]
    split
    · next h => exact ⟨_, rfl, fun e => absurd h e⟩
    · exact hsame a
  rcases sqStop_cases s with ⟨-, heq⟩ | ⟨-, heq⟩ | hm
  · rw [heq]; exact ⟨rfl, rfl, hsame, .inl rfl⟩
  · rw [heq]
    obtain ⟨-, -, -, hsgu, hpp, hinp, -⟩ := flushIdle_parts s
    exact ⟨hpp, hinp, hdrop s rfl, .inl hsgu⟩
  · obtain ⟨n, y, g, rq, heq, hg⟩ := sqStop_of_moves hm
    have hq : (setQState .stopping s).pp = s.pp ∧ (setQState .stopping s).inp = s.inp ∧
        (setQState .stopping s).ax = s.ax := ⟨setQState_pp _ s, setQState_inp _ s, setQState_ax _ s⟩
    rw [heq]
    split
    · obtain ⟨-, -, -, hsgu, hpp, hinp, -⟩ := flushIdle_parts
        { setQState .stopping s with free := n, hs := y, sgu := g, rq := rq }
      exact ⟨hpp.trans hq.1, hinp.trans hq.2.1, hdrop _ hq.2.2, by rw [hsgu]; exact hg⟩
    · exact ⟨hq.1, hq.2.1, fun a => by rw [hq.2.2]; exact hsame a, hg⟩

theorem limitActive_of_inp {s t : State} (h : t.inp = s.inp) (a : Axis) : limitActive t a = limitActive s a := by
  have hon : ∀ n, inputOn t n = inputOn s n := fun n => by unfold inputOn; rw [h]
  cases a <;> simp only [limitActive, limitMinus, limitPlus, hon]

theorem shiftLeft_trans {s : State} {f g : Sgu} (h : f = s.sgu ∨ ShiftLeft s f) (k : ShiftLeft { s with sgu := f } g) :
    ShiftLeft s g := by
  rcases h with rfl | ⟨h1, h2⟩
  · exact k
  obtain ⟨k1, k2⟩ := k
  by_cases hs : shifting { s with sgu := f } = true
  · by_cases hsh : shifting s = true
    · by_cases hne : s.sgu.shift = none
      · exact ⟨fun e => absurd hne e, fun e => by rw [hsh] at e; cases e⟩
      · exact absurd hs (by rw [(h1 hne).1]; decide)
    · have hsh' : shifting s = false := by simpa using hsh
      obtain ⟨hshift, hgear⟩ := h2 hsh'
      exact absurd hs (by unfold shifting at hsh' ⊢; dsimp only; rw [hgear, hsh']; decide)
  · have hs' : shifting { s with sgu := f } = false := by simpa using hs
    obtain ⟨kshift, kgear⟩ := k2 hs'
    have hg : shifting { s with sgu := g } = false := by
      unfold shifting at hs' ⊢; dsimp only at hs' ⊢; rw [kgear]; exact hs'
    exact ⟨fun hne => ⟨hg, fun e => kshift.trans ((h1 hne).2 e)⟩,
      fun e => ⟨kshift.trans (h2 e).1, kgear.trans (h2 e).2⟩⟩

/-- The blocks behind SQ after a STOP reaction: SGU asks for no speed and has no shift under way, the demands are OFF,
each homing is ending, and each jog ends with the PANIC step. -/
theorem stopDeliveries_blocks (s : State) :
    let t := stopDeliveries s
    t.sq = (sqStop s).sq ∧ t.pi = (sqStop s).pi ∧ t.sgu.reqSpeed = 0 ∧ ShiftLeft s t.sgu ∧
    (t.cu.floodDem = false ∧ t.cu.tscDem = false ∧ t.cu.mistDem = false) ∧
    (∀ a, ∃ o, t.ax.get a =
        { abortedCh (if limitActive s a then .limit else .aborted) (s.ax.get a) with owner := o } ∧
      ((s.ax.get a).owner ≠ .queue → o = (s.ax.get a).owner)) ∧
    ∀ a, t.pp.jogs.get a = endJogOf .panic (s.ax.get a).setpoint (s.pp.jogs.get a) := by
  obtain ⟨n, y, g, c, rq, heq, hreq, hleft, hf, ht, hm⟩ := stopDeliveries_eq (sqStop_not_running s)
  obtain ⟨hpp, hinp, hax, hsgu⟩ := sqStop_rest s
  dsimp only
  rw [heq]
  have hget : ∀ a, ∃ o, (mapAx (fun a => abortedCh (homeReason (sqStop s) a .aborted)) (sqStop s)).ax.get a =
      { abortedCh (if limitActive s a then .limit else .aborted) (s.ax.get a) with owner := o } ∧
      ((s.ax.get a).owner ≠ .queue → o = (s.ax.get a).owner) := fun a => by
    obtain ⟨o, ho, hkeep⟩ := hax a
    refine ⟨o, ?_, hkeep⟩
    rw [mapAx_ax, PerAxis.get_map, ho]
    unfold homeReason abortedCh
    rw [limitActive_of_inp hinp]
    split <;> rfl
  refine ⟨rfl, rfl, hreq, shiftLeft_trans hsgu ?_, ⟨hf, ht, hm⟩, hget, fun a => ?_⟩
  · exact ⟨hleft.1, hleft.2⟩
  · obtain ⟨o, ho, -⟩ := hget a
    show ((sqStop s).pp.jogs.map fun a j => endJogOf .panic _ j).get a = _
    rw [PerAxis.get_map, hpp]
    have hset : ((mapAx (fun a => abortedCh (homeReason (sqStop s) a .aborted)) (sqStop s)).ax.get a).setpoint =
        (s.ax.get a).setpoint := by
      rw [ho]; exact (abortedCh_keeps _ _).2
    exact congrArg (fun z => endJogOf .panic z (s.pp.jogs.get a)) hset

/-- The STOP reaction on a state that reads as another one in the queue, the path, the axes, the jogs and SGU. -/
theorem stopDeliveries_summary {s w t : State} (heqt : t = stopDeliveries w) (hsq : w.sq = s.sq) (hpi : w.pi = s.pi)
    (hax : w.ax = s.ax) (hpp : w.pp = s.pp) (hsgu : w.sgu = s.sgu) :
    (QueueMoves s → s.pi.r ≠ 0 → t.sq.st = .stopping ∧ t.sq.recs = s.sq.recs ∧ t.pi.r = s.pi.r) ∧
    (QueueMoves s ∧ s.pi.r = 0 ∨ s.sq.st = .held →
      t.sq.st = .idle ∧ t.sq.recs = [] ∧ t.sq.current = false ∧ t.pi.move = none ∧ t.pi.hold = none ∧
        ∀ a, (t.ax.get a).owner ≠ .queue) ∧
    (s.sq.st = .idle ∨ s.sq.st = .stopping → t.sq = s.sq) ∧
    t.sgu.reqSpeed = 0 ∧ (s.sgu.shift ≠ none → shifting t = false ∧ (shifting s = true → t.sgu.shift = none)) ∧
    t.cu.floodDem = false ∧ t.cu.tscDem = false ∧ t.cu.mistDem = false ∧
    ∀ a, t.pp.jogs.get a = endJogOf .panic (s.ax.get a).setpoint (s.pp.jogs.get a) := by
  obtain ⟨hq1, hq2, hq3⟩ := sqStop_queue w
  have hblocks := stopDeliveries_blocks w
  dsimp only at hblocks
  rw [← heqt] at hblocks
  obtain ⟨tsq, tpi, hreq, hleft, ⟨hf, ht, hmist⟩, -, hjogs⟩ := hblocks
  have howner : ∀ a, (t.ax.get a).owner = ((sqStop w).ax.get a).owner := fun a => by
    obtain ⟨n, y, g, c', rq, heq, -⟩ := stopDeliveries_eq (sqStop_not_running w)
    rw [heqt, heq, endAllJogs_ax, mapAx_ax, PerAxis.get_map, (abortedCh_keeps _ _).1]
  have hmoves : QueueMoves w ↔ QueueMoves s := by unfold QueueMoves; rw [hsq]
  have hshift : shifting w = shifting s := by unfold shifting; rw [hsgu]
  rw [hmoves, hsq, hpi] at hq1 hq2
  rw [hsq] at hq3
  rw [hax, hpp] at hjogs
  have hleft1 := hleft.1
  rw [hshift, hsgu] at hleft1
  rw [tsq, tpi]
  exact ⟨hq1, fun h => by simp only [howner]; exact hq2 h, hq3, hreq, hleft1, hf, ht, hmist, hjogs⟩

theorem readyTest_iff (s : State) : readyTest s = true ↔
    s.sq.st = .idle ∧ s.sgu.st = .off ∧ shifting s = false ∧ ∀ a, (s.ax.get a).atRest = true := by
  have hall : allAtRest s = true ↔ ∀ a, (s.ax.get a).atRest = true := by
    unfold allAtRest
    rw [List.all_eq_true]
    exact ⟨fun h a => h a (mem_allAxes a), fun h a _ => h a⟩
  unfold readyTest
  simp only [Bool.and_eq_true, beq_iff_eq, Bool.not_eq_true', hall, and_assoc]

/-- Settles O14. -/
theorem raisesLatchAndReact : Obligations.RaisesLatchAndReact := by
  refine ⟨fun c q v s => ?latched, fun c q v s hc hm => ?stop, fun s => ?ready⟩
  case latched =>
    have h := watched_raise c q v s
    exact ⟨congrArg Prod.snd h, congrArg Prod.fst h, fun hno => raise_of_no_reaction hno q v⟩
  case stop =>
    obtain ⟨h1, h2, h3, h4, h5, h6, h7, h8, hjogs⟩ := stopDeliveries_summary
      (s := s) (raise_of_stop hc hm q v) (latch_sq c q v s) (latch_pi c q v s)
      (latch_ax c q v s) (latch_pp c q v s) (latch_sgu c q v s)
    refine ⟨h1, h2, h3, h4, h5, h6, h7, h8, fun a => ?_⟩
    rw [hjogs]
    generalize s.pp.jogs.get a = j
    obtain ⟨mode, dir, vel, rem, fin, wheel, brk⟩ := j
    cases mode with
    | none => rfl
    | wheel => rfl
    | button => unfold endJogOf; dsimp only; rw [ite_self]
  case ready =>
    exact ⟨fun ⟨h, hready⟩ => if_pos ⟨h, (readyTest_iff s).2 hready⟩,
      fun h => if_neg fun ⟨hm, hready⟩ => h ⟨hm, (readyTest_iff s).1 hready⟩⟩

/-! ## The TRIP reaction -/

theorem homeTrip_parts (s : State) (a b : Axis) :
    (homeTrip s a).pi = s.pi ∧ (homeTrip s a).hs = s.hs ∧ (homeTrip s a).sgu = s.sgu ∧
      ((s.ax.get b).owner ≠ .pendant → ((homeTrip s a).ax.get b).owner ≠ .pendant) := by
  have howner : ∀ (u : State) (f : AxisCh → AxisCh), (∀ k, (f k).owner = .none ∨ (f k).owner = k.owner) →
      (u.ax.get b).owner ≠ .pendant → ((updAx a f u).ax.get b).owner ≠ .pendant := fun u f hf hb => by
    show ((u.ax.upd a f).get b).owner ≠ _
    rw [PerAxis.get_upd]
    split
    · rcases hf (u.ax.get b) with h | h <;> rw [h]
      · decide
      · exact hb
    · exact hb
  have hclose : ∀ u : State, (u.ax.get b).owner ≠ .pendant → ((homeClose a u).ax.get b).owner ≠ .pendant :=
    fun u => howner u _ fun _ => .inl rfl
  unfold homeTrip
  split
  · exact ⟨rfl, rfl, rfl, id⟩
  · refine ⟨by simp [homeOk], by simp [homeOk], by simp [homeOk], fun h => ?_⟩
    unfold homeOk
    rw [queueReport_ax]
    exact howner s _ (fun _ => .inl rfl) h
  · exact ⟨rfl, rfl, rfl, hclose s⟩
  · exact ⟨rfl, rfl, rfl, fun h => hclose _ (howner s _ (fun _ => .inr rfl) h)⟩

theorem homeReport_parts (s : State) (a : Axis) : (homeReport s a).pi = s.pi ∧ (homeReport s a).hs = s.hs ∧
    (homeReport s a).sgu = s.sgu := by
  unfold homeReport
  split
  · exact ⟨by simp, by simp, by simp⟩
  · exact ⟨rfl, rfl, rfl⟩

/-- PI without path, SGU with the ramp at 0, the grant free, and no axis the pendant's. -/
structure Dropped (s : State) : Prop where
  rate : s.pi.r = 0
  move : s.pi.move = none
  ret : s.pi.ret = none
  hold : s.pi.hold = none
  ramped : s.sgu.ramped = 0
  holder : s.hs.holder = none
  fifo : s.hs.fifo = []
  owners : ∀ a, (s.ax.get a).owner ≠ .pendant

theorem Dropped.of_parts {s t : State} (h : Dropped s) (hpi : t.pi = s.pi) (hhs : t.hs = s.hs) (hsgu : t.sgu = s.sgu)
    (hown : ∀ a, (t.ax.get a).owner ≠ .pendant) : Dropped t :=
  ⟨hpi ▸ h.rate, hpi ▸ h.move, hpi ▸ h.ret, hpi ▸ h.hold, hsgu ▸ h.ramped, hhs ▸ h.holder, hhs ▸ h.fifo, hown⟩

theorem dropped_foldl {f : State → Axis → State} (hf : ∀ s a, Dropped s → Dropped (f s a)) (l : List Axis) :
    ∀ {s : State}, Dropped s → Dropped (l.foldl f s) := by
  induction l with
  | nil => exact id
  | cons a l ih => exact fun h => ih (hf _ a h)

theorem dropped_homeTrip (s : State) (a : Axis) (h : Dropped s) : Dropped (homeTrip s a) := by
  obtain ⟨h1, h2, h3, -⟩ := homeTrip_parts s a a
  exact h.of_parts h1 h2 h3 fun b => (homeTrip_parts s a b).2.2.2 (h.owners b)

theorem dropped_homeReport (s : State) (a : Axis) (h : Dropped s) : Dropped (homeReport s a) := by
  obtain ⟨h1, h2, h3⟩ := homeReport_parts s a
  exact h.of_parts h1 h2 h3 fun b => by rw [(homeReport_keeps s a b).1]; exact h.owners b

theorem dropped_tripDeliveries {s : State} (ht : s.cn.machine = .tripped) (hn : NeverInv s) :
    Dropped (tripDeliveries s) := by
  have hu := quelled_sguTrip ht hn
  unfold tripDeliveries
  dsimp only at hu ⊢
  generalize sguTrip (fall .hydPressureLow (clampsTrip (axesTrip (sqTrip s)))) = u at hu ⊢
  obtain ⟨q, -, -⟩ := hu
  refine dropped_foldl dropped_homeTrip _
    ⟨q.rate, q.move, q.ret, q.hold, q.ramped, q.holder, q.fifo, fun a => ?_⟩
  unfold jogsDrop
  rw [mapAx_ax, PerAxis.get_map]
  split
  · exact fun e => by cases e
  · next h => exact h

/-- The machine is off after a TRIP raise (R200). -/
theorem raise_trip_off {c : Cond} {q : Nat} {v : Int} {s : State} (hn : NeverInv s) (hc : c.cls = .trip)
    (hm : s.cn.machine ≠ .tripped) : Cold (raise c q v s) ∧ Dropped (raise c q v s) := by
  rw [raise_of_trip hc hm]
  generalize hw : ({ latch c q v s with cn.machine := .tripped } : State) = w
  have hcc : w.cc = s.cc := by rw [← hw]; exact latch_cc c q v s
  have ht : w.cn.machine = .tripped := by rw [← hw]
  have hn' : NeverInv w := by unfold NeverInv; rw [hcc]; exact hn
  exact ⟨cold_foldl (f := homeReport) (fun _ _ => cold_homeReport) allAxes (cold_tripDeliveries ht hn'),
    dropped_foldl dropped_homeReport allAxes (dropped_tripDeliveries ht hn')⟩

/-- The input of a TRIP condition that reads off leaves the machine TRIPPED (R65, R200). -/
theorem tripInput_off {c : Cond} (hc : c.cls = .trip) {s : State} (hraw : rawOf s c = false) :
    (tripInput c false s).cn.machine = .tripped := by
  have h := congrArg Prod.fst (watched_raise c 0 0 (setRaw c true s))
  rw [hc] at h
  have hraise : raise c 0 0 (setRaw c true s) = raiseTrip c 0 0 (setRaw c true s) := by unfold raise; rw [hc]
  unfold tripInput riseTrip
  rw [if_neg (by decide), if_neg (by rw [hraw]; decide), ← hraise]
  exact h.trans (by cases (setRaw c true s).cn.machine <;> rfl)

/-- Settles O15. -/
theorem tripTurnsEverythingOff : Obligations.TripTurnsEverythingOff := by
  refine ⟨fun c q v s hn hc hm => ?raise, fun s n hn hraw hfilt hft hnot => ?input⟩
  case raise =>
    obtain ⟨hcold, hdrop⟩ := raise_trip_off hn hc hm (q := q) (v := v)
    exact ⟨hcold.tripped, outputsOff_of_cold hcold, (trippedOff_iff _).2 fun _ => hcold, hdrop.ramped, hdrop.rate,
      hdrop.move, hdrop.ret, hdrop.hold, hdrop.holder, hdrop.fifo, hdrop.owners⟩
  case input =>
    set u : State := updInp n (fun i => { i with filt := i.raw, settled := true }) s with hu
    have hdue : s.inp[n].due = true := by
      unfold InputCh.due
      rw [hraw, hfilt, decide_eq_true hft]
      simp
    have hoff : inputOn u n = false := by
      show (s.inp.set n.val { s.inp[n] with filt := s.inp[n].raw, settled := true })[n.val].filt = false
      rw [Vector.getElem_set_self]
      exact hraw
    have hstep : filterStep n s = deliver n u := if_pos hdue
    have hdel : (deliver n u).cn.machine = .tripped := by
      have hcases : n.val = 0 ∨ n.val = 1 := by omega
      unfold deliver
      rw [hoff]
      rcases hcases with h | h <;> rw [h] at hnot ⊢
      · exact tripInput_off rfl hnot
      · exact tripInput_off rfl hnot
    refine ⟨finish (deliver n u), congrArg done hstep, ?_, ?_⟩
    · exact ((tame_finish (tame_refl (deliver n u))).machine).2 hdel
    · have hinp : (finish (deliver n u)).inp = u.inp := by
        rw [(aside_finish_parts _).2.1]
        have haside : aside (deliver n u) = aside u := aside_deliver n u
        exact congrArg (fun p => p.2.2.1) haside
      unfold inputOn at hoff ⊢
      rw [hinp]
      exact hoff

end Sys2Proof.Machine
end

section
/-! CLAIMS. APPEND (R3 to R5, R25). -/

namespace Sys2Proof.Machine

/-- The flow state is evaluated by comparisons on the record count alone (R25). -/
theorem flowEval_eq (s : State) : flowEval s =
    if s.sq.flow = .go ∧ s.sq.flowHigh ≤ s.sq.recs.length then
      queueReport (.flowStop s.sq.recs.length) { s with sq.flow := .stopped }
    else if s.sq.flow = .stopped ∧ s.sq.recs.length ≤ s.sq.flowLow then
      queueReport (.flowGo s.sq.recs.length) { s with sq.flow := .go }
    else s := by
  unfold flowEval
  cases s.sq.flow <;> simp

/-- Records behind a current one, or behind a queue that does not run, wake no closing rule. -/
theorem Resting.appended {s : State} (h : Resting s) (hrun : s.sq.st = .running → s.sq.current = true)
    (hcur : s.sq.current = true → s.sq.recs ≠ []) (rs : List QRec) :
    Resting { s with sq.recs := s.sq.recs ++ rs, sq.armed := true } := by
  have hrec : currentRec { s with sq.recs := s.sq.recs ++ rs, sq.armed := true } = currentRec s := by
    unfold currentRec
    dsimp only
    split
    next hc =>
      cases hq : s.sq.recs with
      | nil => exact absurd hq (hcur hc)
      | cons r l => rfl
    next => rfl
  have hqueue := h.queue
  have hrecord := h.record
  refine { h with record := ?_, queue := ?_ }
  · unfold recordRests at hrecord ⊢
    rw [hrec]
    exact hrecord
  · unfold queueRests inProgress at hqueue ⊢
    rw [hrec]
    dsimp only
    cases hst : s.sq.st <;> rw [hst] at hqueue
    case running => simp only [hrun hst, Bool.true_or]
    all_goals exact hqueue

theorem serve_append {s : State} {raws : List RawRec} {rs : List QRec} (hm : s.cn.machine ≠ .tripped)
    (hst : s.sq.st ≠ .stopping) (h1 : 1 ≤ raws.length) (h8 : raws.length ≤ 8)
    (hroom : s.sq.recs.length + raws.length ≤ 64) (hrecs : raws.map recOf = rs.map some) :
    serve (.append raws.length raws) s =
      (appendAnswer .ok none (quiesce (appendRecs rs s)), quiesce (appendRecs rs s)) := by
  have hall : raws.findIdx? (fun r => (recOf r).isNone) = none := by
    rw [List.findIdx?_eq_none_iff]
    intro r hr
    have hmem : recOf r ∈ rs.map some := hrecs ▸ List.mem_map_of_mem hr
    obtain ⟨q, -, hq⟩ := List.mem_map.1 hmem
    rw [← hq]
    rfl
  have hmap : raws.filterMap recOf = rs := by
    have h := congrArg (fun l => l.filterMap id) hrecs
    simpa [List.filterMap_map] using h
  show serveAppend raws.length raws s = _
  unfold serveAppend
  rw [if_neg hm, if_neg hst, if_neg (by omega), if_neg (by omega), hall, hmap]

/-- Settles O21. -/
theorem appendJoinsTheTail : Obligations.AppendJoinsTheTail := by
  intro s tag raws rs h hfree hm hst hrun hcur h1 h8 hroom hrecs u w
  have hu : Resting u := h.resting.appended hrun hcur rs
  have hw : w = flowEval u := (flowEval_eq u).symm
  have hcalm : Calm (linkCleared (flowEval u)) := (calm_iff _).2 { hu.flowEval with }
  have hserve := serve_append (s := linkCleared s) hm hst h1 h8 hroom hrecs
  have happ : quiesce (appendRecs rs (linkCleared s)) = linkCleared (flowEval u) := by
    have : appendRecs rs (linkCleared s) = linkCleared (flowEval u) := flowEval_linkCleared u
    rw [this, quiesce_calm hcalm]
  rw [happ] at hserve
  have hdue : (flowEval u).pp.answerDue = false := by rw [flowEval_pp]; exact h.2
  have hanswer : appendAnswer .ok none (linkCleared (flowEval u)) =
      ⟨.ok, [.u8 (64 - u.sq.recs.length), .u8 w.sq.flow.num, .u8 0]⟩ := by
    rw [hw, ← flowEval_recs u]
    rfl
  rw [hanswer] at hserve
  rw [hw] at hserve ⊢
  exact exec_taken rfl hfree hserve (hu.flowEval.still hdue)

end Sys2Proof.Machine
end

section
/-! CLAIMS. START and RESUME (R7, R8, R10, R51) and the end mark (R24). -/

namespace Sys2Proof.Machine

theorem currentRec_of_nil {s : State} (h : s.sq.recs = []) : currentRec s = none := by
  unfold currentRec; rw [h]; split <;> rfl

theorem currentRec_of_not_current {s : State} (h : s.sq.current = false) : currentRec s = none := by
  unfold currentRec; rw [h]; rfl

theorem recordRests_of_none {s : State} (h : currentRec s = none) : recordRests s = true := by
  unfold recordRests; rw [h]

/-! ## START in IDLE -/

/-- A change of queue state that QUEUE_STARVED does not end (R6, R41). -/
theorem setQState_of_ne {q : QState} {s : State} (h : s.sq.st ≠ q) (hq : ¬(q = .idle ∨ q = .holding ∨ q = .stopping)) :
    setQState q s = queueReport (.queueState q s.sq.st (curKey s) s.sq.recs.length) { s with sq.st := q } := by
  unfold setQState
  rw [if_neg h]
  exact if_neg hq

theorem startRequest_of_idle {s : State} (hst : s.sq.st = .idle) (hm : s.cn.machine = .ready)
    (hhold : anyRaw s .hold = false) (hstop : anyRaw s .stop = false) (hpen : anyOwner s .pendant = false)
    (hhom : anyOwner s .homing = false) : startRequest s = (.ok, takeStart s) := by
  unfold startRequest
  rw [hst]
  simp [hm, hhold, hstop, hpen, hhom]

theorem resumeRequest_of_held {s : State} (hst : s.sq.st = .held) (hm : s.cn.machine = .ready)
    (hhold : anyRaw s .hold = false) (hstop : anyRaw s .stop = false) (htrip : anyRaw s .trip = false)
    (hpen : anyOwner s .pendant = false) : resumeRequest s = (.ok, takeResume s) := by
  unfold resumeRequest
  simp [hst, hm, hhold, hstop, htrip, hpen]

theorem takeStart_of_empty {s : State} (hst : s.sq.st = .idle) (hrecs : s.sq.recs = []) (hcur : s.sq.current = false) :
    takeStart s = queueReport (.queueState .running .idle none 0)
      { s with sq.st := .running
               ax := s.ax.map fun _ k => if k.owner = .none then { k with owner := .queue } else k } := by
  have hkey : ∀ u : State, u.sq = s.sq → setQState .running u =
      queueReport (.queueState .running .idle none 0) { u with sq.st := .running } := fun u hu => by
    rw [setQState_of_ne (by rw [hu, hst]; decide) (by decide)]
    unfold curKey currentRec
    rw [hu, hcur, hst, hrecs]
    rfl
  exact hkey _ rfl

/-- The queue runs without a record, and the free axes are its own: no closing rule has anything to do. -/
theorem Resting.started {s : State} (h : Resting s) (hm : s.cn.machine = .ready) (hrecs : s.sq.recs = [])
    (hcur : s.sq.current = false) (hpen : anyOwner s .pendant = false) (hidle : ∀ c, (s.cc.get c).idle = 0) :
    Resting { s with sq.st := .running
                     ax := s.ax.map fun _ k => if k.owner = .none then { k with owner := .queue } else k } := by
  have hch : ∀ a, ∃ o, (s.ax.map fun _ k => if k.owner = .none then { k with owner := .queue } else k).get a =
      { s.ax.get a with owner := o } ∧ o ≠ .none := fun a => by
    rw [PerAxis.get_map]
    split
    next => exact ⟨_, rfl, by decide⟩
    next he => exact ⟨_, rfl, he⟩
  refine { h with clamp := fun c => ?_, home := fun a => ?_, giveBack := fun a => ?_, record := ?_, queue := ?_,
                  machine := fun e => ?_ }
  · obtain ⟨h1, h2, h3, h4, h5⟩ := h.clamp c
    refine ⟨h1, h2, h3, fun e => ?_, fun _ => hidle c⟩
    obtain ⟨o, ho, hne⟩ := hch (clampAxis c)
    have hruns := e.1
    unfold idleRuns at hruns
    dsimp only at hruns
    rw [ho] at hruns
    simp [hne] at hruns
  · obtain ⟨o, ho, -⟩ := hch a
    have := h.home a
    unfold homeRests at this ⊢
    dsimp only
    rw [ho]
    exact this
  · obtain ⟨o, ho, -⟩ := hch a
    rintro ⟨e1, -⟩
    have hown : o = .pendant := by
      have : ((s.ax.map fun _ k => if k.owner = .none then { k with owner := .queue } else k).get a).owner = .pendant := e1
      rw [ho] at this
      exact this
    rw [PerAxis.get_map] at ho
    split at ho
    · have : Owner.queue = o := congrArg AxisCh.owner ho
      rw [hown] at this
      cases this
    · have : (s.ax.get a).owner = o := congrArg AxisCh.owner ho
      exact not_owner hpen a (this.trans hown)
  · exact recordRests_of_none (currentRec_of_not_current hcur)
  · unfold queueRests
    dsimp only
    rw [hrecs]
    simp
  · have : s.cn.machine = .stopping := e.1
    rw [hm] at this
    cases this

/-! ## RESUME -/

theorem resumeRun_of_empty {s : State} (hst : s.sq.st = .held) (hrecs : s.sq.recs = []) :
    resumeRun s = queueReport (.queueState .running .held none 0)
      { s with sq.st := .running, sq.waiting := false, pi.hold := none, pi.ret := none, pi.r := 0 } := by
  have hset : setQState .running s = queueReport (.queueState .running .held none 0) { s with sq.st := .running } := by
    rw [setQState_of_ne (by rw [hst]; decide) (by decide)]
    unfold curKey
    rw [currentRec_of_nil hrecs, hst, hrecs]
    rfl
  unfold resumeRun
  dsimp only
  rw [hset, currentRec_of_nil (by rw [queueReport_sq]; exact hrecs)]
  unfold queueReport
  dsimp only
  split <;> rfl

theorem takeResume_of_displaced {s : State} (hst : s.sq.st = .held) (hd : displacedAxes s ≠ []) :
    takeResume s = queueReport (.queueState .returning .held (curKey s) s.sq.recs.length)
      { s with sq.st := .returning, pi.r := 0, pi.ret := some (returnMove s) } := by
  unfold takeResume
  rw [if_neg (by simpa [List.isEmpty_iff] using hd), setQState_of_ne (by show s.sq.st ≠ _; rw [hst]; decide) (by decide)]
  show queueReport (.queueState .returning s.sq.st (curKey s) s.sq.recs.length) _ = _
  rw [hst]

/-- A HELD queue that runs again without a record wakes no closing rule. -/
theorem Resting.resumed {s : State} (h : Resting s) (hm : s.cn.machine = .ready)
    (hpen : anyOwner s .pendant = false) (hrecs : s.sq.recs = []) :
    Resting { s with sq.st := .running, sq.waiting := false, pi.hold := none, pi.ret := none, pi.r := 0 } := by
  refine { h with giveBack := fun a e => not_owner hpen a e.1, record := ?_, queue := ?_, machine := fun e => ?_ }
  · exact recordRests_of_none (currentRec_of_nil hrecs)
  · unfold queueRests
    dsimp only
    rw [hrecs]
    simp
  · have : s.cn.machine = .stopping := e.1
    rw [hm] at this
    cases this

/-- A queue that returns wakes no closing rule: no record completes in RETURNING. -/
theorem Resting.returning {s : State} (h : Resting s) (hm : s.cn.machine = .ready)
    (hpen : anyOwner s .pendant = false) (ret : Option ActiveMove) :
    Resting { s with sq.st := .returning, pi.r := 0, pi.ret := ret } := by
  refine { h with giveBack := fun a e => not_owner hpen a e.1, record := ?_, queue := rfl, machine := fun e => ?_ }
  · unfold recordRests nonMoveRuns
    split <;> rfl
  · have : s.cn.machine = .stopping := e.1
    rw [hm] at this
    cases this

/-! ## The return move (R51) -/

theorem le_foldl_max {α : Type} (f : α → Nat) (l : List α) (z : Nat) :
    z ≤ l.foldl (fun n a => max n (f a)) z ∧ (∀ a ∈ l, f a ≤ l.foldl (fun n a => max n (f a)) z) ∧
      (l.foldl (fun n a => max n (f a)) z = z ∨ ∃ a ∈ l, l.foldl (fun n a => max n (f a)) z = f a) := by
  induction l generalizing z with
  | nil => exact ⟨le_refl z, fun _ h => (nomatch h), .inl rfl⟩
  | cons b l ih =>
    obtain ⟨h1, h2, h3⟩ := ih (max z (f b))
    rw [List.foldl_cons]
    refine ⟨le_trans (le_max_left _ _) h1, fun a ha => ?_, ?_⟩
    · rcases List.mem_cons.1 ha with rfl | ha
      · exact le_trans (le_max_right _ _) h1
      · exact h2 a ha
    · rcases h3 with h3 | ⟨a, ha, h3⟩
      · rcases le_total (f b) z with hle | hle
        · exact .inl (by rw [h3, max_eq_left hle])
        · exact .inr ⟨b, List.mem_cons_self, by rw [h3, max_eq_right hle]⟩
      · exact .inr ⟨a, List.mem_cons_of_mem _ ha, h3⟩

theorem divCeil_spec (a : Nat) {b : Nat} (hb : 0 < b) : a ≤ divCeil a b * b ∧ (divCeil a b - 1) * b < a + 1 ∧
    (0 < a → (divCeil a b - 1) * b < a) := by
  unfold divCeil
  have hdiv := Nat.div_add_mod (a + b - 1) b
  have hlt := Nat.mod_lt (a + b - 1) hb
  rw [mul_comm] at hdiv
  rw [Nat.sub_mul, one_mul]
  refine ⟨by omega, by omega, fun ha => by omega⟩

/-- The duration of the return move is the least number of periods in which every displaced axis gets back at
return_speed, and at least one. -/
theorem returnPeriods_spec {s : State} {h : HoldRec} (hh : s.pi.hold = some h) (hspeed : 1000 ≤ s.pi.returnSpeed) :
    1 ≤ returnPeriods s ∧
    (∀ a, h.displaced.get a = true →
      (h.pos.get a - (s.ax.get a).setpoint).natAbs ≤ returnPeriods s * (s.pi.returnSpeed / 1000)) ∧
    (returnPeriods s = 1 ∨ ∃ a, h.displaced.get a = true ∧
      (returnPeriods s - 1) * (s.pi.returnSpeed / 1000) < (h.pos.get a - (s.ax.get a).setpoint).natAbs) := by
  have hpace : 0 < s.pi.returnSpeed / 1000 := by omega
  have hmem : ∀ a, a ∈ displacedAxes s ↔ h.displaced.get a = true := fun a => by
    unfold displacedAxes; rw [hh]; simp [mem_allAxes]
  have hpos : ∀ a, holdPos s a = h.pos.get a := fun a => by unfold holdPos; rw [hh]
  obtain ⟨h1, h2, h3⟩ := le_foldl_max
    (fun a => divCeil (holdPos s a - (s.ax.get a).setpoint).natAbs (s.pi.returnSpeed / 1000)) (displacedAxes s) 1
  refine ⟨h1, fun a ha => ?_, ?_⟩
  · have hle := Nat.mul_le_mul_right (s.pi.returnSpeed / 1000) (h2 a ((hmem a).2 ha))
    rw [hpos] at hle
    exact le_trans (divCeil_spec _ hpace).1 hle
  · rcases h3 with h3 | ⟨a, ha, h3⟩
    · exact .inl h3
    · by_cases hway : (h.pos.get a - (s.ax.get a).setpoint).natAbs = 0
      · left
        rw [hpos, hway] at h3
        have hzero : divCeil 0 (s.pi.returnSpeed / 1000) = 0 := by
          unfold divCeil; exact Nat.div_eq_of_lt (by omega)
        have : returnPeriods s = 0 := h3.trans hzero
        have : 1 ≤ returnPeriods s := h1
        omega
      · refine .inr ⟨a, (hmem a).1 ha, ?_⟩
        rw [hpos] at h3
        have h3' : returnPeriods s = _ := h3
        rw [h3']
        exact (divCeil_spec _ hpace).2.2 (by omega)

/-! ## The end mark (R24) -/

/-- A report stands in the queue at a place where no later report overwrites it (R204). -/
def Reported (i : Nat) (e : RptEntry) (s : State) : Prop := i < 31 ∧ s.rq[i]? = some e

theorem Reported.queueReport {i : Nat} {e : RptEntry} {s : State} (h : Reported i e s) (k : Report) :
    Reported i e (queueReport k s) := by
  obtain ⟨hi, he⟩ := h
  have hlen : i < s.rq.length := (List.getElem?_eq_some_iff.1 he).1
  refine ⟨hi, ?_⟩
  unfold Machine.queueReport
  split
  · rw [List.getElem?_append_left hlen]; exact he
  · rw [List.getElem?_append_left (by rw [List.length_dropLast]; omega), List.getElem?_dropLast, if_pos (by omega)]
    exact he

theorem Reported.of_rq {i : Nat} {e : RptEntry} {s t : State} (h : Reported i e s) (hrq : t.rq = s.rq) :
    Reported i e t := by
  unfold Reported; rw [hrq]; exact h

theorem Reported.fall {i : Nat} {e : RptEntry} {s : State} (h : Reported i e s) (c : Cond) : Reported i e (fall c s) := by
  unfold Machine.fall
  split
  · exact (h.of_rq (t := setRaw c false s) rfl).queueReport _
  · exact h

theorem Reported.setQState {i : Nat} {e : RptEntry} {s : State} (h : Reported i e s) (q : QState) :
    Reported i e (setQState q s) := by
  have h' : ∀ k, Reported i e (Machine.queueReport k { s with sq.st := q }) := fun k =>
    (h.of_rq (t := { s with sq.st := q }) rfl).queueReport k
  unfold Machine.setQState
  split
  · exact h
  · dsimp only
    split
    · exact (h' _).fall _
    · exact h' _

theorem Reported.flowEval {i : Nat} {e : RptEntry} {s : State} (h : Reported i e s) : Reported i e (flowEval s) := by
  obtain heq | ⟨k, f, heq⟩ := flowEval_cases s <;> rw [heq]
  · exact h
  · exact (h.of_rq (t := { s with sq.flow := f }) rfl).queueReport k

theorem Reported.drainTest {i : Nat} {e : RptEntry} {s : State} (h : Reported i e s) : Reported i e (drainTest s) := by
  unfold Machine.drainTest
  split
  · exact (h.of_rq (t := { s with sq.armed := false }) rfl).queueReport _
  · exact h

theorem reported_queueReport {s : State} (h : s.rq.length ≤ 30) (k : Report) :
    Reported s.rq.length ⟨k, s.hlp.ms, 0⟩ (queueReport k s) := by
  refine ⟨by omega, ?_⟩
  unfold queueReport
  rw [if_pos (by omega)]
  simp

theorem dropQueueOwners_owner (s : State) (a : Axis) : ((dropQueueOwners s).ax.get a).owner =
    if (s.ax.get a).owner = .queue then .none else (s.ax.get a).owner := by
  unfold dropQueueOwners
  rw [mapAx_ax, PerAxis.get_map]
  split <;> rfl

theorem completeEndMark_spec {s : State} {r : QRec} {rs : List QRec} (h : s.sq.recs = r :: rs) (hrq : s.rq.length ≤ 30) :
    Completed r.seq rs (completeEndMark s) ∧ (completeEndMark s).sq.st = .idle ∧
      (completeEndMark s).pi.move = none ∧ (completeEndMark s).pi.hold = none ∧
      (completeEndMark s).rq[s.rq.length]? = some ⟨.markReached r.seq, s.hlp.ms, 0⟩ ∧
      ∀ a, ((completeEndMark s).ax.get a).owner =
        if (s.ax.get a).owner = .queue then .none else (s.ax.get a).owner := by
  have hrep := reported_queueReport hrq (.markReached r.seq)
  have hax : (queueReport (.markReached r.seq) s).ax = s.ax := queueReport_ax _ s
  unfold completeEndMark
  rw [h]
  dsimp only
  generalize queueReport (.markReached r.seq) s = w at hrep hax
  set u : State := { w with
    sq.recs := rs, sq.current := false, sq.dwellLeft := 0, sq.waiting := false, sq.handed := false, sq.lastSeq := r.seq }
    with hu
  have hflow : (flowEval u).sq.recs = rs ∧ (flowEval u).sq.current = false ∧ (flowEval u).sq.lastSeq = r.seq := by
    obtain heq | ⟨k, f, heq⟩ := flowEval_cases u <;> rw [heq]
    · exact ⟨rfl, rfl, rfl⟩
    · rw [queueReport_sq]; exact ⟨rfl, rfl, rfl⟩
  have hdrain : ∀ v : State, (drainTest v).sq = { v.sq with armed := (drainTest v).sq.armed } ∧
      (drainTest v).pi = v.pi ∧ (drainTest v).ax = v.ax := fun v => ⟨by
    unfold drainTest
    split
    · rw [queueReport_sq]
    · rfl, drainTest_pi v, drainTest_ax v⟩
  set y := dropQueueOwners (setQState .idle (piDrop (flowEval u))) with hy
  obtain ⟨hsq, hpi, hay⟩ := hdrain y
  have hysq : y.sq = { (flowEval u).sq with st := .idle } := setQState_sq .idle (piDrop (flowEval u))
  have hypi : y.pi = (piDrop (flowEval u)).pi := setQState_pi .idle (piDrop (flowEval u))
  have hyrep : Reported s.rq.length ⟨.markReached r.seq, s.hlp.ms, 0⟩ y :=
    ((((hrep.of_rq (t := u) rfl).flowEval).of_rq (t := piDrop (flowEval u)) rfl).setQState .idle).of_rq rfl
  obtain ⟨h1, h2, h3⟩ := hflow
  refine ⟨⟨?_, ?_, ?_⟩, ?_, ?_, ?_, hyrep.drainTest.2, fun a => ?_⟩
  · rw [hsq, hysq]; exact h1
  · rw [hsq, hysq]; exact h2
  · rw [hsq, hysq]; exact h3
  · rw [hsq, hysq]
  · rw [hpi, hypi]; rfl
  · rw [hpi, hypi]; rfl
  · rw [hay, hy, dropQueueOwners_owner, setQState_ax]
    show (if ((flowEval u).ax.get a).owner = _ then _ else ((flowEval u).ax.get a).owner) = _
    rw [flowEval_ax, ← hax]

theorem queueAxesAtRest_iff (s : State) :
    queueAxesAtRest s = true ↔ ∀ a, (s.ax.get a).owner = .queue → (s.ax.get a).atRest = true := by
  unfold queueAxesAtRest
  rw [List.all_eq_true]
  constructor
  · intro h a ha
    have := h a (mem_allAxes a)
    simpa [ha] using this
  · intro h a _
    by_cases ha : (s.ax.get a).owner = .queue
    · simp [h a ha]
    · simp [ha]

theorem currentRec_of_cons {s : State} {r : QRec} {rs : List QRec} (h : s.sq.recs = r :: rs) (hc : s.sq.current = true) :
    currentRec s = some r := by
  unfold currentRec; rw [hc, h]; rfl

theorem RunsRecord.currentRec {r : QRec} {rs : List QRec} {s : State} (h : RunsRecord r rs s) : currentRec s = some r :=
  currentRec_of_cons h.1 h.2.1

theorem RunsRecord.nonMoveRuns {r : QRec} {rs : List QRec} {s : State} (h : RunsRecord r rs s) : nonMoveRuns s = true := by
  unfold Machine.nonMoveRuns; rcases h.2.2 with e | e <;> rw [e] <;> rfl

/-- A record in progress that neither completes nor goes on leaves the queue as it is (R9). -/
theorem RunsRecord.queueRule_none {r : QRec} {rs : List QRec} {s : State} (h : RunsRecord r rs s)
    (hstep : recordStep s = none) (hprog : s.sq.st = .holding → inProgress s = true) : queueRule s = none := by
  unfold queueRule
  rw [hstep]
  dsimp only
  rcases h.2.2 with e | e
  · rw [e]; simp [h.2.1]
  · rw [e]; simp [hprog e]

theorem queueRule_of_step {s t : State} (h : recordStep s = some t) : queueRule s = some t := by
  unfold queueRule; rw [h]

theorem endMark_rule {q : Nat} {rs : List QRec} {s : State} (h : RunsRecord ⟨q, .mark true⟩ rs s) :
    recordStep s = if queueAxesAtRest s = true then some (completeEndMark s) else none := by
  unfold recordStep
  rw [h.currentRec]
  dsimp only
  rw [h.nonMoveRuns, Bool.true_and]

/-- Settles O23. -/
theorem startAndResumeRun : Obligations.StartAndResumeRun := by
  refine ⟨?start, ?resume, ?back, fun s hst => ?held, fun s hst hcur hrecs => ?dispatch, fun s q rs hrecs => ?mark⟩
  case start =>
    intro s tag h hfree hst hrecs hcur hm hhold hstop hpen hhom hidle
    refine exec_taken (c := .start tag) (r := .start) rfl hfree ?_ (((h.resting.started hm hrecs hcur hpen hidle).queueReport _).still ?_)
    · show serveStart (linkCleared s) = _
      unfold serveStart
      rw [startRequest_of_idle (s := linkCleared s) hst hm hhold hstop hpen hhom, takeStart_of_empty (s := linkCleared s) hst hrecs hcur,
        ← queueReport_linkCleared]
      rfl
    · rw [queueReport_pp]; exact h.2
  case resume =>
    intro s tag h hfree hst hrecs hm hhold hstop htrip hpen hdis
    refine exec_taken (c := .resume tag) (r := .resume) rfl hfree ?_ (((h.resting.resumed hm hpen hrecs).queueReport _).still ?_)
    · show serveResume (linkCleared s) = _
      have htake : takeResume (linkCleared s) = resumeRun (linkCleared s) := by
        unfold takeResume
        rw [show displacedAxes (linkCleared s) = [] from hdis]
        rfl
      unfold serveResume
      rw [resumeRequest_of_held (s := linkCleared s) hst hm hhold hstop htrip hpen, htake, resumeRun_of_empty (s := linkCleared s) hst hrecs, ← queueReport_linkCleared]
      rfl
    · rw [queueReport_pp]; exact h.2
  case back =>
    intro s tag hrec h hfree hst hm hhold hstop htrip hpen hh ⟨a, ha⟩ hspeed
    obtain ⟨h1, h2, h3⟩ := returnPeriods_spec hh hspeed
    have hdis : displacedAxes s = allAxes.filter fun a => hrec.displaced.get a := by
      unfold displacedAxes; rw [hh]
    have hne : displacedAxes (linkCleared s) ≠ [] := fun e => by
      have hmem : a ∈ displacedAxes s := by rw [hdis]; exact List.mem_filter.2 ⟨mem_allAxes a, ha⟩
      rw [show displacedAxes s = [] from e] at hmem
      cases hmem
    have hmove : returnMove s = ⟨.rapid, returnPeriods s, 1, (allAxes.filter fun a => hrec.displaced.get a).map fun a =>
        ⟨a, (s.ax.get a).setpoint, hrec.pos.get a⟩, 0⟩ := by
      have hpos : ∀ b, holdPos s b = hrec.pos.get b := fun b => by unfold holdPos; rw [hh]
      unfold returnMove
      simp only [hdis, hpos]
    refine ⟨returnPeriods s, h1, h2, h3, ?_⟩
    rw [← hmove]
    refine exec_taken (c := .resume tag) (r := .resume) rfl hfree ?_ (((h.resting.returning hm hpen _).queueReport _).still ?_)
    · show serveResume (linkCleared s) = _
      unfold serveResume
      rw [resumeRequest_of_held (s := linkCleared s) hst hm hhold hstop htrip hpen, takeResume_of_displaced (s := linkCleared s) hst hne, ← queueReport_linkCleared]
      rfl
    · rw [queueReport_pp]; exact h.2
  case held =>
    show serveStart s = serveResume s
    unfold serveStart serveResume startRequest
    rw [hst]
  case dispatch =>
    unfold queueRule recordStep
    rw [currentRec_of_not_current hcur, hst]
    simp [hcur, hrecs]
  case mark =>
    refine ⟨by unfold dispatchHead; rw [hrecs]; rfl, fun h => ⟨fun ⟨a, ha, hrest⟩ => ?_, fun hall hrq => ?_⟩⟩
    · refine h.queueRule_none ?_ fun _ => ?_
      · rw [endMark_rule h, if_neg]
        intro e
        rw [(queueAxesAtRest_iff s).1 e a ha] at hrest
        cases hrest
      · unfold inProgress; rw [h.currentRec]
    · obtain ⟨hdone, hidle, hmove, hhold, hrep, howner⟩ := completeEndMark_spec hrecs (by omega)
      exact ⟨_, queueRule_of_step (by rw [endMark_rule h, if_pos ((queueAxesAtRest_iff s).2 hall)]), hdone, hidle, hmove,
        hhold, hrep, howner⟩

end Sys2Proof.Machine
end

section
/-! CLAIMS. MOVE and DWELL records: their dispatch (R17, R19), MOVE_START and DWELL_END. -/

namespace Sys2Proof.Machine

/-! ## The clamps of the legs -/

theorem clampOfAxis_eq_some {a : Axis} {c : ClampAxis} : clampOfAxis a = some c ↔ clampAxis c = a := by
  cases a <;> cases c <;> simp [clampOfAxis, clampAxis]

theorem clampAxis_inj {c d : ClampAxis} (h : clampAxis c = clampAxis d) : c = d := by
  have := clampOfAxis_eq_some.2 h
  rw [clampOfAxis_eq_some.2 rfl] at this
  exact (Option.some.inj this).symm

theorem clampState_eq (s : State) (a : Axis) :
    clampState s a = match clampOfAxis a with
      | some c => (s.cc.get c).st
      | none => .released := by
  cases a <;> rfl

theorem released_iff (s : State) (a : Axis) :
    released s a = true ↔ ∀ c, clampOfAxis a = some c → (s.cc.get c).st = .released := by
  unfold released
  rw [beq_iff_eq, clampState_eq]
  cases clampOfAxis a <;> simp

theorem legsReleased_iff (s : State) (m : MoveRec) : legsReleased s m = true ↔ ∀ l ∈ m.legs, released s l.1 = true :=
  List.all_eq_true

/-! ## Step 3 of R17 -/

/-- The clamps of the axes listed that stand CLAMPED are asked to release. -/
def askedClamps (axes : List Axis) (cc : PerClamp Clamp) : PerClamp Clamp :=
  cc.map fun c k => if clampAxis c ∈ axes ∧ k.st = .clamped then { k with st := .releaseWait } else k

/-- The RELEASE requests of the legs, in index order. -/
def releaseAsks (cc : PerClamp Clamp) (legs : List (Axis × Int)) : List HydReq :=
  legs.filterMap fun l => (clampOfAxis l.1).bind fun c =>
    if (cc.get c).st = .clamped then some ⟨.axis c, .release⟩ else none

/-- Each leg is RELEASED, or CLAMPED under another policy than NEVER. -/
def LegsFree (cc : PerClamp Clamp) (legs : List (Axis × Int)) : Prop :=
  ∀ l ∈ legs, ∀ c, clampOfAxis l.1 = some c →
    (cc.get c).st = .released ∨ ((cc.get c).st = .clamped ∧ (cc.get c).policy ≠ .never)

theorem askedClamps_get (axes : List Axis) (cc : PerClamp Clamp) (c : ClampAxis) : (askedClamps axes cc).get c =
    if clampAxis c ∈ axes ∧ (cc.get c).st = .clamped then { cc.get c with st := .releaseWait } else cc.get c := by
  unfold askedClamps; rw [PerClamp.get_map]

theorem moveNeed_of_not_fault {s : State} {c : ClampAxis} (h : (s.cc.get c).st ≠ .fault) (q : Nat) :
    moveNeed c q s = releaseNeed c s := if_neg fun e => h e.2.2

/-- One leg that stands CLAMPED: its clamp is asked, and the legs behind it see their clamps as before. -/
theorem askedClamps_cons_clamped {l : Axis × Int} {c : ClampAxis} {ls : List (Axis × Int)} {cc : PerClamp Clamp}
    (hc : clampOfAxis l.1 = some c) (hst : (cc.get c).st = .clamped) (hnot : l.1 ∉ ls.map fun l => l.1) :
    askedClamps (ls.map fun l => l.1) (cc.upd c fun k => { k with st := .releaseWait }) =
        askedClamps ((l :: ls).map fun l => l.1) cc ∧
      releaseAsks cc (l :: ls) =
        ⟨.axis c, .release⟩ :: releaseAsks (cc.upd c fun k => { k with st := .releaseWait }) ls := by
  have hax := clampOfAxis_eq_some.1 hc
  constructor
  · refine PerClamp.ext_get fun d => ?_
    rw [askedClamps_get, askedClamps_get, PerClamp.get_upd]
    by_cases hd : c = d
    · subst hd
      simp [hax, hst, hnot]
    · have hne : clampAxis d ≠ l.1 := fun e => hd (clampAxis_inj (hax.trans e.symm))
      simp only [List.map_cons, List.mem_cons, hne, false_or, if_neg hd]
  · unfold releaseAsks
    rw [List.filterMap_cons, hc, Option.bind_some, if_pos hst]
    dsimp only
    congr 1
    refine List.filterMap_congr fun k hk => ?_
    cases hd : clampOfAxis k.1 with
    | none => rfl
    | some d =>
      have hne : c ≠ d := fun e => hnot (by
        rw [← hax, e, clampOfAxis_eq_some.1 hd]; exact List.mem_map_of_mem hk)
      simp [hne]

theorem askedClamps_cons_released {l : Axis × Int} {ls : List (Axis × Int)} {cc : PerClamp Clamp}
    (h : ∀ c, clampOfAxis l.1 = some c → (cc.get c).st = .released) :
    askedClamps ((l :: ls).map fun l => l.1) cc = askedClamps (ls.map fun l => l.1) cc ∧
      releaseAsks cc (l :: ls) = releaseAsks cc ls := by
  constructor
  · refine PerClamp.ext_get fun d => ?_
    rw [askedClamps_get, askedClamps_get]
    by_cases hd : clampAxis d = l.1
    · have hst := h d (clampOfAxis_eq_some.2 hd)
      simp [hst]
    · simp only [List.map_cons, List.mem_cons, hd, false_or]
  · unfold releaseAsks
    rw [List.filterMap_cons]
    cases hc : clampOfAxis l.1 with
    | none => rfl
    | some c => simp [h c hc]

theorem foldl_moveNeeds (q : Nat) (legs : List (Axis × Int)) : ∀ {u : State}, u.cn.machine ≠ .tripped →
    (legs.map fun l => l.1).Nodup → LegsFree u.cc legs →
    legs.foldl (fun s l => if released s l.1 then s else axisNeed l.1 q s) u =
      { u with cc := askedClamps (legs.map fun l => l.1) u.cc, hs.fifo := u.hs.fifo ++ releaseAsks u.cc legs } := by
  induction legs with
  | nil =>
    intro u _ _ _
    have hcc : askedClamps [] u.cc = u.cc := PerClamp.ext_get fun c => by simp [askedClamps_get]
    simp [hcc, releaseAsks]
  | cons l ls ih =>
    intro u hm hnd hfree
    obtain ⟨hnot, hnd'⟩ : l.1 ∉ ls.map (fun l => l.1) ∧ (ls.map fun l => l.1).Nodup := List.nodup_cons.1 hnd
    have hfree' : LegsFree u.cc ls := fun k hk => hfree k (List.mem_cons_of_mem _ hk)
    rw [List.foldl_cons]
    by_cases hrel : released u l.1 = true
    · obtain ⟨h1, h2⟩ := askedClamps_cons_released (ls := ls) ((released_iff u l.1).1 hrel)
      rw [if_pos hrel, ih hm hnd' hfree', h1, h2]
    · rw [if_neg hrel]
      have hsome : ∃ c, clampOfAxis l.1 = some c := by
        by_contra hnone
        exact hrel ((released_iff u l.1).2 fun c hc => absurd ⟨c, hc⟩ hnone)
      obtain ⟨c, hc⟩ := hsome
      have hst : (u.cc.get c).st = .clamped ∧ (u.cc.get c).policy ≠ .never := by
        refine (hfree l List.mem_cons_self c hc).resolve_left fun hr => hrel ((released_iff u l.1).2 fun d hd => ?_)
        rw [hc] at hd
        cases hd
        exact hr
      have hneed : axisNeed l.1 q u = { u with
          cc := u.cc.upd c fun k => { k with st := .releaseWait }
          hs.fifo := u.hs.fifo ++ [⟨.axis c, .release⟩] } := by
        unfold axisNeed
        rw [hc]
        dsimp only
        rw [moveNeed_of_not_fault (by rw [hst.1]; decide), releaseNeed_clamped hm hst.2 hst.1]
      obtain ⟨h1, h2⟩ := askedClamps_cons_clamped hc hst.1 hnot
      have hfree'' : LegsFree (u.cc.upd c fun k => { k with st := .releaseWait }) ls := fun k hk d hd => by
        have hne : c ≠ d := fun e => hnot (by
          rw [← clampOfAxis_eq_some.1 hc, e, clampOfAxis_eq_some.1 hd]; exact List.mem_map_of_mem hk)
        rw [PerClamp.get_upd, if_neg hne]
        exact hfree' k hk d hd
      rw [hneed, ih (by exact hm) hnd' hfree'', h1, h2]
      simp only [List.append_assoc, List.singleton_append]

/-! ## The steps of R17 -/

theorem unreferenced_first {s : State} {m : MoveRec} {pre post : List (Axis × Int)} {l : Axis × Int}
    (hlegs : m.legs = pre ++ l :: post) (hpre : ∀ k ∈ pre, (s.ax.get k.1).refd = true) (hl : (s.ax.get l.1).refd = false) :
    unreferenced s m = some l.1 := by
  unfold unreferenced
  rw [List.find?_eq_some_iff_append.2 ⟨by simp [hl], pre, post, hlegs, fun k hk => by simp [hpre k hk]⟩]
  rfl

theorem unreferenced_none {s : State} {m : MoveRec} (h : ∀ l ∈ m.legs, (s.ax.get l.1).refd = true) :
    unreferenced s m = none := by
  unfold unreferenced
  rw [List.find?_eq_none.2 fun l hl => by simp [h l hl]]
  rfl

/-- The end position of a leg lies outside its axis's soft limits (R17 step 2). -/
def LegOutside (s : State) (l : Axis × Int) : Prop :=
  l.2 < (s.ax.get l.1).p.softMin ∨ (s.ax.get l.1).p.softMax < l.2

theorem outsideLimits_first {s : State} {m : MoveRec} {pre post : List (Axis × Int)} {l : Axis × Int}
    (hlegs : m.legs = pre ++ l :: post) (hpre : ∀ k ∈ pre, ¬LegOutside s k) (hl : LegOutside s l) :
    outsideLimits s m = some l := by
  unfold outsideLimits
  have hiff : ∀ k : Axis × Int, (decide (k.2 < (s.ax.get k.1).p.softMin) || decide ((s.ax.get k.1).p.softMax < k.2)) =
      true ↔ LegOutside s k := fun k => by simp [LegOutside]
  refine List.find?_eq_some_iff_append.2 ⟨(hiff l).2 hl, pre, post, hlegs, fun k hk => ?_⟩
  rw [Bool.not_eq_true', ← Bool.not_eq_true, hiff]
  exact hpre k hk

theorem outsideLimits_none {s : State} {m : MoveRec} (h : ∀ l ∈ m.legs, ¬LegOutside s l) : outsideLimits s m = none := by
  unfold outsideLimits
  refine List.find?_eq_none.2 fun k hk => ?_
  have := h k hk
  unfold LegOutside at this
  simpa using this

/-- A started MOVE (R17). -/
theorem moveStep4_started {m : MoveRec} {s : State} (h : m.motion ≠ .fpr ∨ turning s = true) (q : Nat) :
    moveStep4 q m s = startMove m s :=
  if_neg fun e => by
    rcases h with h | h
    · exact h e.1
    · rw [h] at e; cases e.2

theorem moveChecks_passed {s : State} {m : MoveRec} (hrefd : ∀ l ∈ m.legs, (s.ax.get l.1).refd = true)
    (hin : ∀ l ∈ m.legs, ¬LegOutside s l) (q : Nat) :
    moveChecks q m s = if legsReleased s m then moveStep4 q m s
      else if legsReleased (moveNeeds q m s) m && (moveNeeds q m s).sq.waiting then moveStep4 q m (moveNeeds q m s)
      else moveNeeds q m s := by
  unfold moveChecks
  rw [unreferenced_none hrefd, outsideLimits_none hin]

/-- A MOVE whose CLAMPED axes are asked to release waits for them (R17 step 3). -/
theorem moveChecks_waits {s : State} {m : MoveRec} (hrefd : ∀ l ∈ m.legs, (s.ax.get l.1).refd = true)
    (hin : ∀ l ∈ m.legs, ¬LegOutside s l) (hnd : (m.legs.map fun l => l.1).Nodup) (hm : s.cn.machine ≠ .tripped)
    (hsome : ∃ l ∈ m.legs, released s l.1 = false) (hfree : LegsFree s.cc m.legs) (q : Nat) :
    moveChecks q m s = { s with
      sq.waiting := true
      cc := askedClamps (m.legs.map fun l => l.1) s.cc
      hs.fifo := s.hs.fifo ++ releaseAsks s.cc m.legs } := by
  have hneeds : moveNeeds q m s = { s with
      sq.waiting := true
      cc := askedClamps (m.legs.map fun l => l.1) s.cc
      hs.fifo := s.hs.fifo ++ releaseAsks s.cc m.legs } :=
    foldl_moveNeeds q m.legs (u := { s with sq.waiting := true }) hm hnd hfree
  obtain ⟨l, hl, hlocked⟩ := hsome
  have hnot : legsReleased s m = false := by
    rw [← Bool.not_eq_true, legsReleased_iff]
    exact fun h => by rw [h l hl] at hlocked; cases hlocked
  have hnot' : legsReleased (moveNeeds q m s) m = false := by
    rw [← Bool.not_eq_true, legsReleased_iff]
    intro h
    rw [← Bool.not_eq_true, released_iff] at hlocked
    apply hlocked
    intro c hc
    have hst := (released_iff _ _).1 (h l hl) c hc
    rw [hneeds] at hst
    dsimp only at hst
    rw [askedClamps_get] at hst
    split at hst
    · cases hst
    · exact hst
  rw [moveChecks_passed hrefd hin, hnot, hnot', if_neg (by decide), Bool.false_and, if_neg (by decide), hneeds]

theorem dispatchHead_move {s : State} {q : Nat} {m : MoveRec} {rs : List QRec} (h : s.sq.recs = ⟨q, .move m⟩ :: rs) :
    dispatchHead s = moveChecks q m (headCurrent s) := by
  unfold dispatchHead; rw [h]; rfl

/-! ## MOVE_START -/

theorem moveReady_of_not_running {s : State} (h : s.sq.st ≠ .running) : moveReady s = none := by
  unfold moveReady
  split
  · exact if_neg fun e => h e.1
  · rfl

/-- A started MOVE in RUNNING wakes no closing rule. -/
theorem Resting.moveStarted {s : State} (h : Resting s) (hst : s.sq.st = .running) (m : MoveRec) :
    Resting (startMove m s) := by
  have hqueue := h.queue
  refine { h with queue := ?_ }
  unfold queueRests at hqueue ⊢
  rw [hst] at hqueue
  rw [show (startMove m s).sq.st = .running from hst]
  exact hqueue

/-- Settles O26: the two rows by what is due, and the dispatch by the steps of R17. -/
theorem moveStartAndDwellEnd : Obligations.MoveStartAndDwellEnd := by
  refine ⟨?started, ?ended, fun s h hst => ⟨?notStarted, ?notEnded⟩, fun s q m rs hrecs => ?move, fun s q n rs hrecs => ?dwell⟩
  case started =>
    intro s q m rs h hst hcur hrecs hwait hrel hfpr
    have hready : moveReady s = some (q, m) := by
      unfold moveReady
      rw [currentRec_of_cons hrecs hcur]
      exact if_pos ⟨hst, hwait, (legsReleased_iff s m).2 hrel⟩
    have hgo : moveGo s = startMove m s := by
      unfold moveGo
      rw [hready]
      refine moveStep4_started ?_ q
      by_cases hm : m.motion = .fpr
      · exact .inr (hfpr hm)
      · exact .inl hm
    show done (moveGo s) = _
    rw [hgo]
    exact done_still ((h.resting.moveStarted hst m).still h.2)
  case ended =>
    intro s q n rs hst hcur hrecs hleft
    obtain ⟨h1, h2, h3⟩ := completed_completeHead hrecs
    refine ⟨congrArg done (whenDue_true ?_ _ s), h1, h3, h2⟩
    unfold dwellOver
    rw [currentRec_of_cons hrecs hcur]
    simp [hst, hleft]
  case notStarted =>
    show done (moveGo s) = _
    unfold moveGo
    rw [moveReady_of_not_running hst]
    exact done_still h
  case notEnded =>
    refine done_not_due h ?_ completeHead
    unfold dwellOver
    split
    · simp [hst]
    · rfl
  case move =>
    intro hd outside
    rw [dispatchHead_move hrecs]
    refine ⟨fun pre l post hlegs hpre hl => ?unref, fun hrefd => ⟨fun pre l post hlegs hpre hl => ?limit,
      fun hin => ⟨fun hnd hm hsome hfree => ?waits, fun hrel => ⟨fun hfpr hturn => ?refused, fun hgo => ?goes⟩⟩⟩⟩
    case unref =>
      unfold moveChecks
      rw [unreferenced_first (s := headCurrent s) hlegs hpre hl]
    case limit =>
      unfold moveChecks
      rw [unreferenced_none (s := headCurrent s) hrefd, outsideLimits_first (s := headCurrent s) hlegs hpre hl]
    case waits => exact moveChecks_waits (s := headCurrent s) hrefd hin hnd hm hsome hfree q
    case refused =>
      rw [moveChecks_passed (s := headCurrent s) hrefd hin, if_pos ((legsReleased_iff (headCurrent s) m).2 hrel)]
      exact if_pos ⟨hfpr, hturn⟩
    case goes =>
      rw [moveChecks_passed (s := headCurrent s) hrefd hin, if_pos ((legsReleased_iff (headCurrent s) m).2 hrel),
        moveStep4_started (s := headCurrent s) hgo]
      rfl
  case dwell => unfold dispatchHead; rw [hrecs]; rfl

end Sys2Proof.Machine
end

section
/-! CLAIMS. CLAMP_SET and CLAMP records (R22, R94, R102). -/

namespace Sys2Proof.Machine

theorem beq_false_of_ne {α : Type} [BEq α] [LawfulBEq α] {a b : α} (h : a ≠ b) : (a == b) = false := by
  simpa using h

/-- A clamp that waits for the grant while another requester holds it wakes no closing rule. -/
theorem Resting.asked {s : State} (h : Resting s) (hholder : s.hs.holder ≠ none) (c : ClampAxis) {f : Clamp → Clamp}
    (r : HydReq) (hst : (f (s.cc.get c)).st = .clampWait ∨ (f (s.cc.get c)).st = .releaseWait)
    (hidle : (f (s.cc.get c)).idle = 0) :
    Resting { s with cc := s.cc.upd c f, hs.fifo := s.hs.fifo ++ [r] } := by
  generalize hn : f (s.cc.get c) = n at hst hidle
  have hself : (s.cc.upd c f).get c = n := by rw [PerClamp.get_upd, if_pos rfl, hn]
  have hother : ∀ d, d ≠ c → (s.cc.upd c f).get d = s.cc.get d := fun d hd => by
    rw [PerClamp.get_upd, if_neg hd.symm]
  have hwaits : n.st ≠ .clamped ∧ n.st ≠ .clamping ∧ n.st ≠ .released ∧ n.st ≠ .releasing := by
    rcases hst with e | e <;> rw [e] <;> decide
  generalize hcc : s.cc.upd c f = cc at hself hother
  have hdemand : pumpDemand s = true ∧ pumpDemand { s with cc := cc, hs.fifo := s.hs.fifo ++ [r] } = true := by
    obtain ⟨w, hw⟩ := Option.ne_none_iff_exists'.1 hholder
    unfold pumpDemand
    dsimp only
    rw [hw]
    simp
  have hrel : ∀ a, released { s with cc := cc, hs.fifo := s.hs.fifo ++ [r] } a = true → released s a = true := fun a ha => by
    rw [released_iff] at ha ⊢
    intro d hd
    have := ha d hd
    by_cases e : d = c
    · subst e
      dsimp only at this
      rw [hself] at this
      exact absurd this hwaits.2.2.1
    · dsimp only at this
      rw [hother d e] at this
      exact this
  refine { h with grant := fun e => hholder e.2.1, clamp := fun d => ?_, home := fun a => ?_, record := ?_, pump := ?_ }
  · by_cases e : d = c
    · subst e
      unfold ClampRests releaseMet clampMet idleRuns
      dsimp only
      rw [hself, beq_false_of_ne hwaits.2.2.2, beq_false_of_ne hwaits.2.1, beq_false_of_ne hwaits.2.2.1]
      exact ⟨rfl, rfl, fun e => hwaits.1 e.2.1, by simp, fun _ => hidle⟩
    · have := h.clamp d
      unfold ClampRests releaseMet clampMet idleRuns at this ⊢
      dsimp only
      rw [hother d e]
      exact this
  · have := h.home a
    unfold homeRests at this ⊢
    dsimp only
    split at this
    · simp only [Bool.not_eq_true'] at this ⊢
      rw [← Bool.not_eq_true] at this ⊢
      exact fun e => this (hrel a e)
    · exact this
    · rfl
  · have := h.record
    have hcur : currentRec { s with cc := cc, hs.fifo := s.hs.fifo ++ [r] } = currentRec s := rfl
    unfold recordRests at this ⊢
    rw [hcur]
    cases hc : currentRec s with
    | none => rfl
    | some rec =>
      rw [hc] at this
      obtain ⟨q, b⟩ := rec
      cases b with
      | clamp d k =>
        dsimp only at this ⊢
        by_cases e : d = c
        · subst e
          rw [hself]
          cases k <;> simp [hwaits]
        · rw [hother d e]; exact this
      | spindle v dir w => cases w <;> exact this
      | coolant f t m p w => cases w <;> exact this
      | mark w => cases w <;> exact this
      | _ => exact this
  · have := h.pump
    unfold pumpRests at this ⊢
    rw [hdemand.2]
    rw [hdemand.1] at this
    exact this

/-! ## CLAMP records -/

theorem completeHead_keeps (s : State) : (completeHead s).sq.st = s.sq.st ∧ (completeHead s).cc = s.cc ∧
    (completeHead s).hs = s.hs ∧ (completeHead s).sgu = s.sgu ∧ (completeHead s).cu = s.cu := by
  unfold completeHead
  split
  · exact ⟨rfl, rfl, rfl, rfl, rfl⟩
  · simp

theorem clampRecord_step {q : Nat} {c : ClampAxis} {k : Bool} {rs : List QRec} {s : State}
    (h : RunsRecord ⟨q, .clamp c k⟩ rs s) : recordStep s =
      if (s.cc.get c).st = (if k then .clamped else .released) then some (completeHead s) else none := by
  unfold recordStep
  rw [h.currentRec]
  dsimp only
  rw [h.nonMoveRuns, Bool.true_and]
  simp only [beq_iff_eq]

theorem serve_clamp {i : Nat} {c : ClampAxis} (hi : clampOf i = some c) {s : State} (hm : s.cn.machine = .ready)
    (hp : (s.cc.get c).policy ≠ .never) (hown : (s.ax.get (clampAxis c)).owner = .none) :
    serve (.clampSet 0 i) s = clampReply (clampNeed c s) := by
  show serveClamp i s = _
  unfold serveClamp
  rw [hi]
  dsimp only
  rw [if_neg (by rw [hm]; decide), if_neg hp, if_neg (fun e => e hown)]

theorem serve_release {i : Nat} {c : ClampAxis} (hi : clampOf i = some c) {s : State} (hm : s.cn.machine = .ready)
    (hp : (s.cc.get c).policy ≠ .never) : serve (.clampSet 1 i) s = clampReply (releaseNeed c s) := by
  show serveRelease i s = _
  unfold serveRelease
  rw [hi]
  dsimp only
  rw [if_neg (by rw [hm]; decide), if_neg hp]

/-- Settles O35. -/
theorem clampSetJoinsTheFifo : Obligations.ClampSetJoinsTheFifo := by
  refine ⟨fun s tag i c h hfree hi hm hp hholder => ⟨fun hst hown => ?clamp, fun hst => ?release⟩,
    fun s q c k rs hrecs => ⟨fun hp => ?never, fun hp hm => ⟨fun hk hst => ?asksClamp, fun hk hst => ?asksRelease⟩,
      fun h => ⟨fun hthere => ?completes, fun hnot => ?waits⟩⟩⟩
  case clamp =>
    intro u
    refine exec_taken (c := .clampSetClamp tag i) (r := .clampSet 0 i) rfl hfree ?_
      ((h.resting.asked hholder c _ (.inl rfl) rfl).still h.2)
    rw [serve_clamp (s := linkCleared s) hi hm hp hown, clampNeed_released (s := linkCleared s) (by show s.cn.machine ≠ _; rw [hm]; decide) hp hst]
    rfl
  case release =>
    intro u
    have hidle : (s.cc.get c).idle = 0 := by
      obtain ⟨-, -, -, -, h5⟩ := h.resting.clamp c
      exact h5 (by unfold idleRuns; rw [hst]; rfl)
    refine exec_taken (c := .clampSetRelease tag i) (r := .clampSet 1 i) rfl hfree ?_
      ((h.resting.asked hholder c _ (.inr rfl) hidle).still h.2)
    rw [serve_release (s := linkCleared s) hi hm hp, releaseNeed_clamped (s := linkCleared s) (by show s.cn.machine ≠ _; rw [hm]; decide) hp hst]
    rfl
  case never =>
    have hdis : dispatchHead s = completeHead (headCurrent s) := by
      unfold dispatchHead; rw [hrecs]; exact if_pos hp
    obtain ⟨-, hcc, hhs, -⟩ := completeHead_keeps (headCurrent s)
    rw [hdis]
    exact ⟨completed_completeHead (s := headCurrent s) hrecs, hcc, hhs⟩
  case asksClamp =>
    subst hk
    have hdis : dispatchHead s = clampNeed c (headCurrent s) := by
      unfold dispatchHead; rw [hrecs]; exact if_neg hp
    exact hdis.trans (clampNeed_released (s := headCurrent s) hm hp hst)
  case asksRelease =>
    subst hk
    have hdis : dispatchHead s = releaseNeed c (headCurrent s) := by
      unfold dispatchHead; rw [hrecs]; exact if_neg hp
    exact hdis.trans (releaseNeed_clamped (s := headCurrent s) hm hp hst)
  case completes =>
    exact ⟨_, queueRule_of_step (by rw [clampRecord_step h, if_pos hthere]), completed_completeHead hrecs,
      (completeHead_keeps s).1⟩
  case waits =>
    refine h.queueRule_none (by rw [clampRecord_step h, if_neg hnot]) fun _ => ?_
    unfold inProgress
    rw [h.currentRec]

end Sys2Proof.Machine
end

section
/-! CLAIMS. GEAR_SELECT and GEAR records (R119, R120), and the failures of a shift (R129). -/

namespace Sys2Proof.Machine

/-! ## SGU under a started FPR MOVE too -/

/-- A HOLD-class raise changes of the queue its state alone (R9). -/
theorem raiseHold_sq (c : Cond) (q : Nat) (v : Int) (s : State) :
    (raiseHold c q v s).sq = { s.sq with st := (raiseHold c q v s).sq.st } := by
  have hhold : ∀ u : State, (sqHold u).sq = { u.sq with st := (sqHold u).sq.st } := fun u => by
    unfold sqHold
    split
    · rw [setQState_sq]
    · rfl
  unfold raiseHold
  dsimp only
  split
  · rw [latch_sq]
  · rw [endAllJogs_sq, hhold, latch_sq]

/-- A change of spindle state, whatever raise it brings, leaves the records and the other blocks alone. -/
theorem setSpindle_parts (st : SpindleState) (s : State) :
    (setSpindle st s).sgu = { s.sgu with st := st } ∧
    (setSpindle st s).sq = { s.sq with st := (setSpindle st s).sq.st } ∧
    (setSpindle st s).ax = s.ax ∧ (setSpindle st s).cs = s.cs ∧ (setSpindle st s).cc = s.cc ∧
    (setSpindle st s).hs = s.hs ∧ (setSpindle st s).cu = s.cu := by
  unfold setSpindle
  dsimp only
  split
  · exact ⟨by simp, raiseHold_sq _ _ _ _, by simp, by simp, by simp, by simp, by simp⟩
  · exact ⟨rfl, rfl, rfl, rfl, rfl, rfl, rfl⟩

/-- The records stay, with their current mark, and so do the axes, the banks, the clamps, the supply and the coolant. -/
structure RecordsStay (s t : State) : Prop where
  sq : t.sq = { s.sq with st := t.sq.st }
  ax : t.ax = s.ax
  cs : t.cs = s.cs
  cc : t.cc = s.cc
  hs : t.hs = s.hs
  cu : t.cu = s.cu

theorem recordsStay_setSpindle {s t : State} (h : RecordsStay s t) (st : SpindleState) :
    RecordsStay s (setSpindle st t) := by
  obtain ⟨-, hsq, hax, hcs, hcc, hhs, hcu⟩ := setSpindle_parts st t
  refine ⟨?_, hax.trans h.ax, hcs.trans h.cs, hcc.trans h.cc, hhs.trans h.hs, hcu.trans h.cu⟩
  rw [hsq, h.sq]

/-- The start of a shift (R119, R120). -/
theorem startShift_spec (r : Range) (q : Nat) (s : State) :
    RecordsStay s (startShift r q s) ∧
    (startShift r q s).sgu.gear = .preparing ∧ (startShift r q s).sgu.reqSpeed = 0 ∧
    (startShift r q s).sgu.target = 0 ∧ (startShift r q s).sgu.prepareT = .start s.sgu.p.prepareTime ∧
    (∃ h, (startShift r q s).sgu.shift = some h ∧ h.target = r ∧ h.origin = q ∧ h.attA = 0 ∧ h.attB = 0 ∧
      h.total = 0 ∧ h.entry = none) ∧
    (engagedRange s ≠ none → turning s = true → (startShift r q s).sgu.st = .decel) ∧
    (startShift r q s).sgu.mesh = s.sgu.mesh ∧ (startShift r q s).sgu.shiftCount = s.sgu.shiftCount := by
  have hstay : ∀ g : Sgu, RecordsStay s { s with sgu := g } := fun g => ⟨rfl, rfl, rfl, rfl, rfl, rfl⟩
  have hnot : ∀ {a b : SpindleState}, s.sgu.st = a → a ≠ .accel → a ≠ .atSpeed → ¬turning s = true := fun e h1 h2 => by
    unfold turning; rw [e]; simp [h1, h2]
  unfold startShift leaveEngaged
  dsimp only
  split
  next he =>
    split
    · refine ⟨recordsStay_setSpindle (hstay _) _, ?_⟩
      rw [(setSpindle_parts _ _).1]
      exact ⟨rfl, rfl, rfl, rfl, ⟨_, rfl, rfl, rfl, rfl, rfl, rfl, rfl⟩, fun _ _ => rfl, rfl, rfl⟩
    · refine ⟨recordsStay_setSpindle (hstay _) _, ?_⟩
      rw [(setSpindle_parts _ _).1]
      exact ⟨rfl, rfl, rfl, rfl, ⟨_, rfl, rfl, rfl, rfl, rfl, rfl, rfl⟩, fun _ _ => rfl, rfl, rfl⟩
    next hst =>
      unfold spindleOff
      refine ⟨recordsStay_setSpindle (hstay _) _, ?_⟩
      rw [(setSpindle_parts _ _).1]
      exact ⟨rfl, rfl, rfl, rfl, ⟨_, rfl, rfl, rfl, rfl, rfl, rfl, rfl⟩,
        fun _ ht => absurd ht (hnot (b := .off) hst (by decide) (by decide)), rfl, rfl⟩
    next h1 h2 h3 =>
      exact ⟨hstay _, rfl, rfl, rfl, rfl, ⟨_, rfl, rfl, rfl, rfl, rfl, rfl, rfl⟩,
        fun _ ht => absurd ht (hnot (b := .off) rfl h1 h2), rfl, rfl⟩
  next he =>
    refine ⟨hstay _, rfl, rfl, rfl, rfl, ⟨_, rfl, rfl, rfl, rfl, rfl, rfl, rfl⟩, fun hne => ?_, rfl, rfl⟩
    cases hr : engagedRange s with
    | none => exact absurd hr hne
    | some r => rw [hr] at he; simp at he

theorem leaveEngaged_linkCleared {s : State} (h : s.sq.st ≠ .running) :
    leaveEngaged (linkCleared s) = linkCleared (leaveEngaged s) := by
  have hset : ∀ (st : SpindleState) (u : State), u.sq.st ≠ .running →
      setSpindle st (linkCleared u) = linkCleared (setSpindle st u) := fun st u hu => by
    rw [setSpindle_of_not_running hu, setSpindle_of_not_running (by exact hu)]
    rfl
  have hoff : ∀ u : State, u.sq.st ≠ .running → spindleOff (linkCleared u) = linkCleared (spindleOff u) := fun u hu => by
    unfold spindleOff
    exact hset .off { u with sgu.out := 0, sgu.posMoving := false, sgu.positionT := .stopped } hu
  have hst : (linkCleared s).sgu.st = s.sgu.st := rfl
  unfold leaveEngaged
  rw [hst]
  cases s.sgu.st
  case accel => exact hset .decel { s with sgu.target := 0 } h
  case atSpeed => exact hset .decel { s with sgu.target := 0 } h
  case fault => exact hoff { s with sgu.target := 0 } h
  all_goals rfl

theorem leaveEngaged_linkCleared_sgu {s : State} {g : Sgu} (h : s.sq.st ≠ .running) :
    leaveEngaged { linkCleared s with sgu := g } = linkCleared (leaveEngaged { s with sgu := g }) :=
  leaveEngaged_linkCleared (s := { s with sgu := g }) h

theorem startShift_linkCleared {s : State} (h : s.sq.st ≠ .running) (r : Range) (q : Nat) :
    startShift r q (linkCleared s) = linkCleared (startShift r q s) := by
  unfold startShift
  dsimp only
  rw [apply_ite linkCleared]
  exact if_congr Iff.rfl (leaveEngaged_linkCleared_sgu h) rfl

/-! ## GEAR_SELECT and GEAR records -/

theorem engagedRange_eq_some {s : State} {r : Range} : engagedRange s = some r ↔ s.sgu.gear = .engaged r := by
  unfold engagedRange
  cases s.sgu.gear <;> simp

theorem shifting_of_engaged {s : State} {r : Range} (h : s.sgu.gear = .engaged r) : shifting s = false := by
  unfold shifting; rw [h]

theorem serve_gearSelect {i : Nat} {r : Range} (hr : rangeOf i = some r) {s : State} (hm : s.cn.machine = .ready)
    (hst : s.sq.st = .idle) (hsh : shifting s = false) :
    serve (.gearSelect i) s = (⟨.ok, []⟩, if engagedRange s = some r then s else startShift r 0 s) := by
  show serveGearSelect i s = _
  unfold serveGearSelect
  rw [hr]
  dsimp only
  rw [if_neg (by rw [hm]; decide), if_neg (by rw [hm]; decide), if_neg (fun e => e hst), if_neg (by rw [hsh]; decide)]
  split <;> rfl

/-- A request that a free link takes ends its event behind the reply, whatever closing rules its service wakes. -/
theorem exec_taken_finish {s t : State} {c : Instr} {tag : Nat} {r : Request} {a : Answer}
    (hc : requestOf c = some (tag, r)) (hfree : LinkFree s) (hserve : serve r (linkCleared s) = (a, linkCleared t)) :
    exec c s = .next (finish (replied (requestKind r) tag a t)) := by
  rw [exec_request hc, accept_of_linkFree hfree, hserve]
  rfl

/-- A GEAR record whose shift has started: it is current and handed over, and SGU prepares with its seq as the origin. -/
def ShiftStarted (q : Nat) (r : Range) (s t : State) : Prop :=
  Pends s t ∧ t.sq.handed = true ∧ t.sgu.gear = .preparing ∧ t.sgu.reqSpeed = 0 ∧ t.sgu.target = 0 ∧
    t.sgu.prepareT = .start s.sgu.p.prepareTime ∧ t.sgu.shiftCount = s.sgu.shiftCount ∧
    ∃ h, t.sgu.shift = some h ∧ h.target = r ∧ h.origin = q ∧ h.attA = 0 ∧ h.attB = 0 ∧ h.total = 0 ∧ h.entry = none

theorem gearHand_started {q : Nat} {r : Range} {s u : State} (hu : u.sq.recs = s.sq.recs) (hcur : u.sq.current = true)
    (hsgu : u.sgu = s.sgu) (hne : s.sgu.gear ≠ .engaged r) : ShiftStarted q r s (gearHand q r u) := by
  have hgear : engagedRange u ≠ some r := fun e => hne (by rw [← hsgu]; exact engagedRange_eq_some.1 e)
  obtain ⟨hstay, h1, h2, h3, h4, h5, -, -, h6⟩ := startShift_spec r q { u with sq.handed := true }
  unfold gearHand
  rw [if_neg hgear]
  unfold ShiftStarted Pends
  rw [hstay.sq]
  refine ⟨⟨hu, hcur⟩, rfl, h1, h2, h3, ?_, ?_, h5⟩
  · rw [h4, ← hsgu]
  · rw [h6, ← hsgu]

theorem gearHand_engaged {q : Nat} {r : Range} {s : State} (h : s.sgu.gear = .engaged r) :
    gearHand q r s = completeHead s := if_pos (engagedRange_eq_some.2 h)

theorem gearRecord_step {q : Nat} {r : Range} {rs : List QRec} {s : State} (h : RunsRecord ⟨q, .gear r⟩ rs s) :
    recordStep s = if shifting s = false then
        (if s.sq.handed then (if engagedRange s = some r then some (completeHead s) else none)
          else some (gearHand q r s))
      else none := by
  unfold recordStep
  rw [h.currentRec]
  dsimp only
  rw [h.nonMoveRuns, Bool.true_and]
  simp only [Bool.not_eq_true']

/-- Settles O40. -/
theorem gearSelectStartsAShift : Obligations.GearSelectStartsAShift := by
  refine ⟨fun s tag i r hfree hr hm hst hsh => ⟨fun hne => ?select, fun h he => ?same⟩, fun s q r rs hrecs => ?record⟩
  case select =>
    have hnr : s.sq.st ≠ .running := by rw [hst]; decide
    obtain ⟨hstay, h1, h2, h3, h4, h5, h6, h7, h8⟩ := startShift_spec r 0 s
    refine ⟨startShift r 0 s, exec_taken_finish (c := .gearSelect tag i) (r := .gearSelect i) rfl hfree ?_, h1, h2, h3, h4,
      h5, h6, h7, h8, hstay.ax, hstay.cs, hstay.cc, hstay.hs, hstay.cu⟩
    rw [serve_gearSelect (s := linkCleared s) hr hm hst hsh, if_neg (by exact hne), startShift_linkCleared hnr]
  case same =>
    refine exec_taken (c := .gearSelect tag i) (r := .gearSelect i) rfl hfree ?_ h
    rw [serve_gearSelect (s := linkCleared s) hr hm hst hsh, if_pos (by exact he)]
  case record =>
    have hdis : dispatchHead s = if shifting s = true then headCurrent s else gearHand q r (headCurrent s) := by
      unfold dispatchHead; rw [hrecs]; rfl
    refine ⟨fun h => by rw [hdis, if_pos h], fun h => ?_, fun h hne => ?_, fun h => ⟨fun hs => ?_, fun he => ?_,
      fun hhand hs hne => ?_⟩⟩
    · rw [hdis, if_neg (by rw [shifting_of_engaged h]; decide), gearHand_engaged (s := headCurrent s) h]
      exact ⟨completed_completeHead (s := headCurrent s) hrecs, (completeHead_keeps (headCurrent s)).2.2.2.1⟩
    · rw [hdis, if_neg (by rw [h]; decide)]
      exact gearHand_started (u := headCurrent s) rfl rfl rfl hne
    · refine h.queueRule_none (by rw [gearRecord_step h, if_neg (by rw [hs]; decide)]) fun _ => ?_
      unfold inProgress; rw [h.currentRec]
    · refine ⟨completeHead s, queueRule_of_step ?_, completed_completeHead hrecs, (completeHead_keeps s).2.2.2.1⟩
      rw [gearRecord_step h, if_pos (shifting_of_engaged he), if_pos (engagedRange_eq_some.2 he), gearHand_engaged he]
      split <;> rfl
    · refine ⟨gearHand q r s, queueRule_of_step ?_, gearHand_started rfl h.2.1 rfl hne⟩
      rw [gearRecord_step h, if_pos hs, if_neg (by rw [hhand]; decide)]

/-! ## The failures of a shift -/

theorem abandonShift_of_none {s : State} (h : s.sgu.shift = none) : abandonShift s = s := by
  unfold abandonShift; rw [h]

/-- Without a shift SQ's part of a STOP leaves SGU alone. -/
theorem sqStop_sgu_of_none {s : State} (h : s.sgu.shift = none) : (sqStop s).sgu = s.sgu := by
  have habandon : abandonShift (setQState .stopping s) = setQState .stopping s :=
    abandonShift_of_none (by rw [setQState_sgu]; exact h)
  have hstop : ∀ u : State, u = setQState .stopping s →
      (if u.pi.r = 0 then flushIdle u else u).sgu = s.sgu := fun u hu => by
    rw [apply_ite State.sgu, (flushIdle_parts u).2.2.2.1, ite_self, hu, setQState_sgu]
  rcases sqStop_cases s with ⟨-, heq⟩ | ⟨-, heq⟩ | hm
  · rw [heq]
  · rw [heq, (flushIdle_parts s).2.2.2.1]
  · have heq : sqStop s = (if (setQState .stopping s).pi.r = 0 then flushIdle (setQState .stopping s)
        else setQState .stopping s) := by
      unfold sqStop
      rcases hm with e | e | e <;> rw [e] <;> dsimp only <;> rw [habandon, ite_self]
    rw [heq]
    exact hstop _ rfl

theorem retarget_positioning {s : State} (h : s.sq.st ≠ .running) (hst : s.sgu.st ≠ .positioning) :
    (retarget s).sgu.st ≠ .positioning := by
  unfold retarget spindleStart
  dsimp only
  (repeat' split) <;> (try rw [setSpindle_of_not_running (by exact h)]) <;>
    first | exact hst | exact fun e => (nomatch e)

/-- A STOP reaction without a shift: the spindle is asked for speed 0, and gear and counters stay. -/
theorem stopDeliveries_sgu_of_none {s : State} (h : s.sgu.shift = none) :
    (stopDeliveries s).sgu.gear = s.sgu.gear ∧ (stopDeliveries s).sgu.shift = none ∧
      (stopDeliveries s).sgu.shiftCount = s.sgu.shiftCount ∧
      (s.sgu.st ≠ .positioning → (stopDeliveries s).sgu.st ≠ .positioning) := by
  have hnr : ({ sqStop s with sgu.reqSpeed := 0 } : State).sq.st ≠ .running := sqStop_not_running s
  have hsgu := sqStop_sgu_of_none h
  obtain ⟨g, heq, -, -, -, hshift, hgear, -, hcount⟩ := retarget_of_not_running hnr
  have hnone : g.shift = none := hshift.trans ((congrArg Sgu.shift hsgu).trans h)
  have hlast : (stopDeliveries s).sgu = (retarget { sqStop s with sgu.reqSpeed := 0 }).sgu := by
    obtain ⟨c, hc, -⟩ := coolantAllOff_eq (spindleStopSpeed (sqStop s))
    unfold stopDeliveries
    dsimp only
    rw [abandonShift_of_none (s := spindleStopSpeed (sqStop s)) (by unfold spindleStopSpeed; rw [heq]; exact hnone),
      foldl_homeAbort, hc]
    rfl
  have hpos := retarget_positioning hnr
  rw [hlast]
  rw [heq] at hpos ⊢
  have hgear' : (sqStop s).sgu.gear = s.sgu.gear := congrArg Sgu.gear hsgu
  have hcount' : (sqStop s).sgu.shiftCount = s.sgu.shiftCount := congrArg Sgu.shiftCount hsgu
  refine ⟨hgear.trans hgear', hnone, hcount.trans hcount', fun hst => hpos ?_⟩
  show (sqStop s).sgu.st ≠ _
  rw [hsgu]
  exact hst

/-- The steps of a failure before its raise (R129): the gear is FAULT, and a positioning has ended. -/
theorem shiftFailSteps_spec (s : State) :
    (shiftFailSteps s).sgu.gear = .fault ∧ (shiftFailSteps s).sgu.st ≠ .positioning ∧
      (shiftFailSteps s).sgu.shiftCount = s.sgu.shiftCount ∧ (shiftFailSteps s).hlp = s.hlp := by
  have hmiss : ∀ u : State, (applyMiss u).sgu.shiftCount = u.sgu.shiftCount ∧ (applyMiss u).hlp = u.hlp := fun u => by
    unfold applyMiss
    (repeat' split) <;> exact ⟨rfl, rfl⟩
  obtain ⟨y, hy, -⟩ := hydWithdraw_return s .gear
  obtain ⟨hcount, hhlp⟩ := hmiss (hydWithdraw .gear (hydReturn .gear s))
  rw [hy] at hcount hhlp
  unfold shiftFailSteps
  dsimp only
  rw [hy]
  split
  next hst =>
    have hoff : spindleOff (applyMiss { s with hs := y }) = { applyMiss { s with hs := y } with
        sgu.st := .off, sgu.out := 0, sgu.posMoving := false, sgu.positionT := .stopped } := by
      unfold spindleOff setSpindle
      dsimp only
      refine if_neg fun e => ?_
      have ht : turning (applyMiss { s with hs := y }) = true := e.1
      unfold turning at ht
      rw [hst] at ht
      cases ht
    rw [hoff]
    exact ⟨rfl, fun e => (nomatch e), hcount, hhlp⟩
  next hst => exact ⟨rfl, hst, hcount, hhlp⟩

theorem raiseStop_eq_raise {c : Cond} (h : c.cls = .stop) (q : Nat) (v : Int) (s : State) :
    raiseStop c q v s = raise c q v s := by
  unfold raise; rw [h]

/-- A STOP raise where no shift is under way leaves gear and counters of SGU. -/
theorem raiseStop_sgu_of_none {s : State} (h : s.sgu.shift = none) (c : Cond) (q : Nat) (v : Int) :
    (raiseStop c q v s).sgu.gear = s.sgu.gear ∧ (raiseStop c q v s).sgu.shift = none ∧
      (raiseStop c q v s).sgu.shiftCount = s.sgu.shiftCount ∧
      (s.sgu.st ≠ .positioning → (raiseStop c q v s).sgu.st ≠ .positioning) := by
  have hsgu : (latch c q v s).sgu = s.sgu := latch_sgu c q v s
  unfold raiseStop
  rw [← hsgu] at h ⊢
  generalize latch c q v s = w at h
  have hready := stopDeliveries_sgu_of_none (s := { w with cn.machine := .stopping }) h
  have hstopping := stopDeliveries_sgu_of_none h
  have hcases : reactStop w = w ∨ reactStop w = stopDeliveries { w with cn.machine := .stopping } ∨
      reactStop w = stopDeliveries w := by
    unfold reactStop
    cases w.cn.machine with
    | tripped => exact .inl rfl
    | ready => exact .inr (.inl rfl)
    | stopping => exact .inr (.inr rfl)
  generalize stopDeliveries { w with cn.machine := .stopping } = x at hready hcases
  generalize stopDeliveries w = y at hstopping hcases
  rcases hcases with e | e | e
  · rw [e]; exact ⟨rfl, h, rfl, id⟩
  · rw [e]; exact hready
  · rw [e]; exact hstopping

theorem queueReport_last (k : Report) (s : State) : ∃ e, (queueReport k s).rq.getLast? = some e ∧ e.kind = k := by
  unfold queueReport
  split <;> exact ⟨_, List.getLast?_concat .., rfl⟩

theorem condEntry_raiseStop {c : Cond} (h : c.cls = .stop) (q : Nat) (v : Int) (s : State) :
    condEntry (raiseStop c q v s) c = { condEntry s c with latched := true, last := some ⟨s.hlp.ms, q, fit32 v⟩ } := by
  rw [raiseStop_eq_raise h]
  exact congrArg Prod.snd (watched_raise c q v s)

/-- Settles O41. -/
theorem shiftsFailByTheirTimers : Obligations.ShiftsFailByTheirTimers := by
  intro s h hsh
  refine ⟨fun row why hrow => ?row, fun why => ?fails⟩
  case row =>
    rcases hrow with ⟨rfl, rfl, hdue⟩ | ⟨rfl, rfl, hdue⟩ | ⟨rfl, rfl, hg, hdue, hatt⟩
    · exact congrArg done (whenDue_true hdue _ s)
    · exact congrArg done (whenDue_true hdue _ s)
    · have hmesh : meshDue s = true := by unfold meshDue; rw [hg, hdue]; rfl
      have hnext : dwellNext s = shiftFail .mesh s := by
        unfold dwellNext; rw [hsh]; exact if_pos hatt
      exact (congrArg done (whenDue_true hmesh _ s)).trans (congrArg done hnext)
  case fails =>
    obtain ⟨hgear, hpos, hcount, hhlp⟩ := shiftFailSteps_spec s
    have heq : shiftFail why s = queueReport (.gearDone (.failed why h.cyl (h.att h.cyl) h.total) h.target none h.origin)
        (raiseStop .gearShiftFailed h.origin why.num { shiftFailSteps s with sgu.shift := none }) := by
      unfold shiftFail; rw [hsh]
    generalize shiftFailSteps s = v at hgear hpos hcount hhlp heq
    obtain ⟨w, hw, w1, w2, w3, w4, w5⟩ : ∃ w : State, { v with sgu.shift := none } = w ∧ w.sgu.shift = none ∧
        w.sgu.gear = .fault ∧ w.sgu.st ≠ .positioning ∧ w.sgu.shiftCount = s.sgu.shiftCount ∧ w.hlp = s.hlp :=
      ⟨_, rfl, rfl, hgear, hpos, hcount, hhlp⟩
    rw [hw] at heq
    obtain ⟨r1, r2, r3, r4⟩ := raiseStop_sgu_of_none w1 .gearShiftFailed h.origin why.num
    have hentry := condEntry_raiseStop (c := .gearShiftFailed) rfl h.origin why.num w
    have hfit : fit32 why.num = why.num := by
      cases why <;> exact fit32_of_mem (by decide) (by decide)
    dsimp only
    rw [heq, queueReport_sgu, condEntry_queueReport, hentry, w5, hfit]
    exact ⟨r1.trans w2, r2, r4 w3, r3.trans w4, rfl, rfl, queueReport_last _ _⟩

end Sys2Proof.Machine
end

section
/-! SUPPORT/CLAIMS. Strokes, meshing, settling (R124 to R128) and the positioning of a path period (R122). -/

namespace Sys2Proof.Machine

/-! ## The spindle where it does not turn -/

theorem setSpindle_of_not_turning {s : State} (h : turning s = false) (st : SpindleState) :
    setSpindle st s = { s with sgu.st := st } := by
  unfold setSpindle
  exact if_neg fun e => by rw [h] at e; cases e.1

theorem turning_of_positioning {s : State} (h : s.sgu.st = .positioning) : turning s = false := by
  unfold turning; rw [h]; rfl

theorem spindleOff_of_positioning {s : State} (h : s.sgu.st = .positioning) :
    spindleOff s = { s with sgu.st := .off, sgu.out := 0, sgu.posMoving := false, sgu.positionT := .stopped } :=
  setSpindle_of_not_turning (turning_of_positioning (by exact h)) .off

/-! ## A move to a position (R122, R125) -/

/-- A move to a position changes SGU alone, and neither its gear nor its shift. -/
theorem positionTo_spec (t : Int) (s : State) :
    (positionTo t s).sgu.gear = s.sgu.gear ∧ (positionTo t s).sgu.shift = s.sgu.shift ∧
      (positionTo t s).sgu.posMoving = true ∧ (positionTo t s).sgu.posTarget = t := by
  unfold positionTo enterPositioning
  dsimp only
  split
  next hoff =>
    rw [setSpindle_of_not_turning (by unfold turning; dsimp only; rw [hoff]; rfl)]
    exact ⟨rfl, rfl, rfl, rfl⟩
  next => exact ⟨rfl, rfl, rfl, rfl⟩

theorem nextAttempt_spec {s : State} {h : Shift} {start : Int} (hsh : s.sgu.shift = some h)
    (hst : h.start h.cyl = some start) :
    (nextAttempt s).sgu.gear = s.sgu.gear ∧ (nextAttempt s).sgu.posMoving = true ∧
      (nextAttempt s).sgu.posTarget = start + attemptOffset (h.att h.cyl + 1) * s.sgu.p.jogStep ∧
      (nextAttempt s).sgu.shift = some { h.setAtt h.cyl (h.att h.cyl + 1) with total := h.total + 1 } := by
  unfold nextAttempt
  rw [hsh]
  dsimp only
  rw [hst]
  obtain ⟨hgear, hshift, hmoving, htarget⟩ := positionTo_spec
    ((some start).getD s.sgu.pos + attemptOffset (h.att h.cyl + 1) * s.sgu.p.jogStep)
    { s with sgu.shift := some { h.setAtt h.cyl (h.att h.cyl + 1) with total := h.total + 1 }, sgu.dwellT := .stopped }
  exact ⟨hgear, hmoving, htarget, hshift⟩

theorem attemptOffset_succ {k : Nat} (h : k < 8) :
    attemptOffset (k + 1) = [1, -1, 2, -2, 4, -4, 8, -8].getD k 0 := by
  interval_cases k <;> rfl

theorem setAtt_att (h : Shift) (n : Nat) : (h.setAtt h.cyl n).att h.cyl = n ∧ (h.setAtt h.cyl n).target = h.target := by
  unfold Shift.setAtt Shift.att
  cases h.cyl <;> exact ⟨rfl, rfl⟩

/-! ## The positioning loop -/

theorem approach_eq_toward (v target : Int) (step : Nat) : approach v target step = toward v target step := by
  unfold approach toward
  split <;> omega

theorem toward_self (target : Int) (step : Nat) : toward target target step = target := by
  unfold toward; omega

/-- The measurement changes the history, the speed and the sense measured. -/
theorem spindleMeasure_eq (s : State) : ∃ (l : List Int) (n : Nat) (d : Dir),
    spindleMeasure s = { s with sgu.hist := l, sgu.sAct := n, sgu.measDir := d } := by
  unfold spindleMeasure
  dsimp only
  split
  · exact ⟨_, _, _, rfl⟩
  · exact ⟨_, s.sgu.sAct, s.sgu.measDir, rfl⟩

/-- One step of the positioning setpoint (R122). -/
theorem positionStep_eq {s : State} {rem : Nat} {p : Int} (hrem : s.sgu.pRem + s.sgu.p.orientSpeed * s.sgu.p.cpr = rem)
    (hp : toward s.sgu.pSet s.sgu.posTarget (rem / 60000) = p) :
    positionStep s = { s with
      sgu.pSet := p
      sgu.pRem := if p = s.sgu.posTarget then 0 else rem % 60000
      sgu.positionT := if s.sgu.pSet ≠ s.sgu.posTarget ∧ p = s.sgu.posTarget ∧ s.sgu.posMoving = true then
        ⟨true, 0, s.sgu.p.positionTime⟩ else s.sgu.positionT } := by
  unfold positionStep
  by_cases hat : s.sgu.pSet = s.sgu.posTarget
  · have hp' : p = s.sgu.posTarget := by rw [← hp, hat, toward_self]
    rw [if_pos hat, if_pos hp', if_neg (fun e => e.1 hat), hp', ← hat]
  · rw [if_neg hat]
    dsimp only
    rw [hrem, approach_eq_toward, hp]
    by_cases hend : p = s.sgu.posTarget
    · rw [if_pos hend, if_pos hend]
      by_cases hm : s.sgu.posMoving = true
      · rw [if_pos hm, if_pos ⟨hat, hend, hm⟩]; rfl
      · rw [if_neg hm, if_neg (fun e => hm e.2.2)]
    · rw [if_neg hend, if_neg hend, if_neg (fun e => hend e.2.1)]

/-- The spindle's output sets the DAC and the count of R62, and moves the entry DRIVE_SATURATED alone. -/
theorem spindleOutput_spec (z : Int) (s : State) :
    (spindleOutput z s).sgu = { s.sgu with out := clampOut z, satCount := satNext s.sgu.satCount z } ∧
      (spindleOutput z s).hs = s.hs ∧ (spindleOutput z s).cn.machine = s.cn.machine ∧
      (spindleOutput z s).hlp = s.hlp := by
  unfold spindleOutput saturation
  dsimp only
  refine ⟨?_, ?_, ?_, ?_⟩ <;> (repeat' split) <;> simp

/-- Abandoning a shift leaves a positioning spindle positioning or OFF, and its output 0. -/
theorem abandonShift_positioning {s : State} (hst : s.sgu.st = .positioning) (hout : s.sgu.out = 0) :
    (abandonShift s).sgu.out = 0 ∧ ((abandonShift s).sgu.st = .positioning ∨ (abandonShift s).sgu.st = .off) := by
  obtain ⟨y, hy, -⟩ := hydWithdraw_return s .gear
  have hoff := spindleOff_of_positioning (s := { s with hs := y }) hst
  unfold abandonShift
  split
  · split
    · unfold shiftTeardown abortReport
      rw [queueReport_sgu]
      dsimp only
      rw [hy, if_pos hst, hoff]
      unfold gearAfterAbandon
      split <;> exact ⟨rfl, .inr rfl⟩
    · exact ⟨hout, .inl hst⟩
  · exact ⟨hout, .inl hst⟩

theorem sguTrip_positioning {s : State} (hst : s.sgu.st = .positioning) (hidle : s.sq.st = .idle) :
    (sguTrip s).sgu.out = 0 ∧ (sguTrip s).sgu.st = .off := by
  obtain ⟨n, y, g, rq, heq, -⟩ := abandonShift_of_not_running
    (s := { s with sgu.reqSpeed := 0, sgu.target := 0, sgu.ramped := 0, sgu.out := 0, sgu.satCount := 0 })
    (by intro e; cases e.symm.trans hidle)
  obtain ⟨hout, hst'⟩ := abandonShift_positioning
    (s := { s with sgu.reqSpeed := 0, sgu.target := 0, sgu.ramped := 0, sgu.out := 0, sgu.satCount := 0 }) hst rfl
  unfold sguTrip
  dsimp only
  rw [fall_sgu]
  rw [heq] at hout hst' ⊢
  rw [if_neg (by rcases hst' with e | e <;> rw [e] <;> decide),
    spindleOff_of_not_running (by intro e; cases e.symm.trans hidle)]
  exact ⟨rfl, rfl⟩

theorem clampsTrip_sgu (s : State) : (clampsTrip s).sgu = s.sgu := rfl
theorem coolantTrip_sgu (s : State) : (coolantTrip s).sgu = s.sgu := rfl
theorem jogsDrop_sgu (s : State) : (jogsDrop s).sgu = s.sgu := rfl

/-- The TRIP reaction on SGU: the queue is IDLE when SGU has it, and nothing after it touches SGU (R200). -/
theorem raiseTrip_sgu {s : State} (hm : s.cn.machine ≠ .tripped) (c : Cond) (q : Nat) (v : Int) :
    ∃ x : State, (raiseTrip c q v s).sgu = (sguTrip x).sgu ∧ x.sgu = s.sgu ∧ x.sq.st = .idle := by
  have hfold : ∀ (f : State → Axis → State), (∀ u a, (f u a).sgu = u.sgu) → ∀ (l : List Axis) (u : State),
      (l.foldl f u).sgu = u.sgu := fun f hf l => by
    induction l with
    | nil => exact fun _ => rfl
    | cons a l ih => exact fun u => (ih (f u a)).trans (hf u a)
  have hsq : ∀ u : State, (sqTrip u).sgu = u.sgu := fun u => by
    unfold sqTrip
    split
    · rfl
    · exact (flushIdle_parts u).2.2.2.1
  have haxes : ∀ u : State, (axesTrip u).sgu = u.sgu := fun u => by simp [axesTrip, allAxes]
  unfold raiseTrip
  dsimp only
  rw [if_neg hm, hfold homeReport (fun u a => (homeReport_parts u a).2.2)]
  unfold tripDeliveries
  dsimp only
  rw [hfold homeTrip (fun u a => (homeTrip_parts u a a).2.2.1), jogsDrop_sgu, coolantTrip_sgu]
  refine ⟨_, rfl, ?_, ?_⟩
  · rw [fall_sgu, clampsTrip_sgu, haxes, hsq, ← latch_sgu c q v s]
  · rw [fall_sq, clampsTrip_sq, (axesTrip_keeps _).1]
    exact (sqTrip_spec _).1

/-- A TRIP raise stops the spindle that positions: state OFF with output 0 (R114). -/
theorem raiseTrip_positioning {c : Cond} {s : State} (hm : s.cn.machine ≠ .tripped)
    (hst : s.sgu.st = .positioning) (q : Nat) (v : Int) :
    (raiseTrip c q v s).sgu.out = 0 ∧ (raiseTrip c q v s).sgu.st = .off := by
  obtain ⟨x, heq, hsgu, hidle⟩ := raiseTrip_sgu hm c q v
  rw [heq]
  exact sguTrip_positioning (by rw [hsgu]; exact hst) hidle

/-- A positioning that has not arrived goes on (R122). -/
theorem positionDone_not_there {s : State}
    (h : ¬(s.sgu.posMoving = true ∧ s.sgu.pSet = s.sgu.posTarget ∧ (positionError s).natAbs ≤ s.sgu.p.inpos)) :
    positionDone s = s := if_neg h

/-- A positioning that arrives ends, and the stroke's request or the dwell follows (R122, R125). -/
theorem positionDone_there {s : State} (hm : s.sgu.posMoving = true) (hat : s.sgu.pSet = s.sgu.posTarget)
    (he : (positionError s).natAbs ≤ s.sgu.p.inpos) :
    (positionDone s).cn = s.cn ∧ (positionDone s).sgu.posMoving = false ∧ (positionDone s).sgu.positionT = .stopped ∧
      (positionDone s).sgu.st = s.sgu.st ∧ (positionDone s).sgu.pSet = s.sgu.pSet ∧
      (positionDone s).sgu.pPrev = s.sgu.pPrev ∧ (positionDone s).sgu.pRem = s.sgu.pRem ∧
      (positionDone s).sgu.out = s.sgu.out ∧
      (s.sgu.gear = .orienting → (positionDone s).sgu.gear = .strokeWait ∧
        (positionDone s).hs = { s.hs with fifo := s.hs.fifo ++ [⟨.gear, .stroke⟩] }) ∧
      (s.sgu.gear = .meshing → (positionDone s).sgu.gear = .meshing ∧
        (positionDone s).sgu.dwellT = ⟨true, 0, s.sgu.p.meshDwell⟩) := by
  unfold positionDone
  rw [if_pos ⟨hm, hat, he⟩]
  dsimp only
  split
  next hg => exact ⟨rfl, rfl, rfl, rfl, rfl, rfl, rfl, rfl, fun _ => ⟨rfl, rfl⟩, fun e => (nomatch hg.symm.trans e)⟩
  next hg => exact ⟨rfl, rfl, rfl, rfl, rfl, rfl, rfl, rfl, fun e => (nomatch hg.symm.trans e), fun _ => ⟨hg, rfl⟩⟩
  next ho hm =>
    exact ⟨rfl, rfl, rfl, rfl, rfl, rfl, rfl, rfl, fun e => absurd e ho, fun e => absurd e hm⟩

/-- The end of SETTLING (R128). -/
theorem shiftSuccess_spec {s : State} {h : Shift} (hsh : s.sgu.shift = some h) (hlt : s.sgu.shiftCount < 4294967295) :
    (shiftSuccess s).sgu.gear = .engaged h.target ∧ (shiftSuccess s).sgu.shift = none ∧
      (shiftSuccess s).sgu.shiftCount = s.sgu.shiftCount + 1 ∧ (shiftSuccess s).sgu.st ≠ .positioning ∧
      ∃ e, (shiftSuccess s).rq.getLast? = some e ∧
        e.kind = .gearDone (.ok (s.sgu.shiftCount + 1) h.total) h.target (some h.target) h.origin := by
  obtain ⟨w, hw, hgear, hst⟩ : ∃ w : State,
      (if s.sgu.st = .positioning then spindleOff { s with sgu.gear := .engaged h.target, sgu.lastRange := h.target }
        else { s with sgu.gear := .engaged h.target, sgu.lastRange := h.target }) = w ∧
      w.sgu.gear = .engaged h.target ∧ w.sgu.st ≠ .positioning := by
    by_cases hst : s.sgu.st = .positioning
    · rw [if_pos hst, spindleOff_of_positioning (by exact hst)]
      exact ⟨_, rfl, rfl, fun e => (nomatch e)⟩
    · rw [if_neg hst]
      exact ⟨_, rfl, rfl, hst⟩
  have heq : shiftSuccess s = stopShiftTimers
      { queueReport (.gearDone (.ok (s.sgu.shiftCount + 1) h.total) h.target (some h.target) h.origin)
          { w with
            sgu.shiftCount := s.sgu.shiftCount + 1
            sgu.mesh := meshAging s.sgu.p.meshAge (s.sgu.shiftCount + 1) s.sgu.mesh } with
        sgu.shift := none } := by
    unfold shiftSuccess
    rw [hsh]
    dsimp only
    simp only [if_pos hlt, hw]
  rw [heq]
  refine ⟨?_, rfl, ?_, ?_, queueReport_last _ _⟩ <;> dsimp only [stopShiftTimers] <;> rw [queueReport_sgu]
  · exact hgear
  · exact hst

/-- The loop of POSITIONING on the setpoint of the period (R122). -/
theorem positionLoop_spec {s : State} (hm : s.cn.machine ≠ .tripped) (hst : s.sgu.st = .positioning)
    {rem : Nat} {p e : Int} (hrem : s.sgu.pRem + s.sgu.p.orientSpeed * s.sgu.p.cpr = rem)
    (hp : toward s.sgu.pSet s.sgu.posTarget (rem / 60000) = p) (he : p - s.sgu.pos = e) :
    (s.sgu.p.feLimit < e.natAbs → ∃ x : State, x.cn.machine ≠ .tripped ∧ x.sgu.st = .positioning ∧ x.hlp = s.hlp ∧
      positionLoop s = raiseTrip (.followingError .spindle) 0 e x) ∧
    (e.natAbs ≤ s.sgu.p.feLimit → ∃ x : State, positionLoop s = positionDone x ∧ x.cn.machine = s.cn.machine ∧
      x.hs = s.hs ∧ x.hlp = s.hlp ∧ positionError x = e ∧
      ∃ n, x.sgu = { s.sgu with
        pSet := p
        pPrev := p
        pRem := if p = s.sgu.posTarget then 0 else rem % 60000
        positionT := if s.sgu.pSet ≠ s.sgu.posTarget ∧ p = s.sgu.posTarget ∧ s.sgu.posMoving = true then
          ⟨true, 0, s.sgu.p.positionTime⟩ else s.sgu.positionT
        out := clampOut (loopOutput s.sgu.p.kp s.sgu.p.kff e (p - s.sgu.pPrev))
        satCount := n }) := by
  unfold positionLoop
  dsimp only
  rw [positionStep_eq hrem hp]
  unfold positionError
  dsimp only
  rw [he]
  obtain ⟨osgu, ohs, ocn, ohlp⟩ := spindleOutput_spec (loopOutput s.sgu.p.kp s.sgu.p.kff e (p - s.sgu.pPrev))
    { s with
      sgu.pSet := p
      sgu.pRem := if p = s.sgu.posTarget then 0 else rem % 60000
      sgu.positionT := if s.sgu.pSet ≠ s.sgu.posTarget ∧ p = s.sgu.posTarget ∧ s.sgu.posMoving = true then
        ⟨true, 0, s.sgu.p.positionTime⟩ else s.sgu.positionT
      sgu.pPrev := p }
  generalize spindleOutput _ _ = x at osgu ohs ocn ohlp
  constructor
  · intro hfe
    refine ⟨x, by rw [ocn]; exact hm, by rw [osgu]; exact hst, ohlp, ?_⟩
    rw [if_pos hfe]
  · intro hfe
    refine ⟨x, ?_, ocn, ohs, ohlp, by rw [osgu]; exact he, _, osgu⟩
    rw [if_neg (by omega)]

/-- Settles O42. -/
theorem strokesMeshAndSettle : Obligations.StrokesMeshAndSettle := by
  refine ⟨fun s h start hsh hst => ⟨fun row hrow => ?stroke, fun hg hdue hlt => ?settle⟩, fun s hm hpos => ?period⟩
  case stroke =>
    rcases hrow with ⟨rfl, hg, hdue, hoff, hatt⟩ | ⟨rfl, hg, hdue, hatt⟩
    · obtain ⟨hgear, hmoving, htarget, hshift⟩ := nextAttempt_spec
        (s := { s with sgu.gear := .meshing, sgu.strokeT := .stopped }) hsh hst
      have hwork : enterMeshing s = nextAttempt { s with sgu.gear := .meshing, sgu.strokeT := .stopped } := by
        unfold enterMeshing
        rw [hsh]
        dsimp only
        rw [if_neg (by rw [hoff]; decide)]
      have hd : strokeDue s = true := by unfold strokeDue; rw [hg, hdue]; rfl
      refine ⟨enterMeshing s, congrArg done (whenDue_true hd _ s), ?_⟩
      rw [hwork]
      generalize nextAttempt _ = u at hgear hmoving htarget hshift
      refine ⟨hgear, hmoving, htarget.trans ?_, _, hshift, (setAtt_att h _).1, rfl, (setAtt_att h _).2⟩
      rw [attemptOffset_succ (by omega)]
    · obtain ⟨hgear, hmoving, htarget, hshift⟩ := nextAttempt_spec hsh hst
      have hwork : dwellNext s = nextAttempt s := by
        unfold dwellNext
        rw [hsh]
        exact if_neg (by omega)
      have hd : meshDue s = true := by unfold meshDue; rw [hg, hdue]; rfl
      refine ⟨dwellNext s, congrArg done (whenDue_true hd _ s), ?_⟩
      rw [hwork]
      generalize nextAttempt s = u at hgear hmoving htarget hshift
      refine ⟨hgear.trans hg, hmoving, htarget.trans ?_, _, hshift, (setAtt_att h _).1, rfl, (setAtt_att h _).2⟩
      rw [attemptOffset_succ hatt]
  case settle =>
    have hd : settleDue s = true := by unfold settleDue; rw [hg, hdue]; rfl
    exact ⟨shiftSuccess s, congrArg done (whenDue_true hd _ s), shiftSuccess_spec hsh hlt⟩
  case period =>
    obtain ⟨l, n, d, hmeas⟩ := spindleMeasure_eq s
    obtain ⟨htrip, hgo⟩ := positionLoop_spec (s := { s with sgu.hist := l, sgu.sAct := n, sgu.measDir := d }) hm hpos
      rfl rfl rfl
    have hwork : spindleWork s = positionLoop { s with sgu.hist := l, sgu.sAct := n, sgu.measDir := d } := by
      unfold spindleWork
      rw [hmeas]
      dsimp only
      rw [if_neg hm, hpos]
    intro g u rem p e there
    generalize hu : u = u'
    have hu' : positionLoop { s with sgu.hist := l, sgu.sAct := n, sgu.measDir := d } = u' := hwork.symm.trans hu
    rw [hu'] at htrip hgo
    clear hu hu' hwork hmeas
    refine ⟨fun hfe => ?_, fun hfe => ?_⟩
    · obtain ⟨x, xm, xst, xhlp, hx⟩ := htrip hfe
      obtain ⟨hout, hoff⟩ := raiseTrip_positioning (c := .followingError .spindle) xm xst 0 e
      have hw := watched_raise (.followingError .spindle) 0 e x
      have hx' : u' = raise (.followingError .spindle) 0 e x := hx
      rw [← hx'] at hw
      rw [← hx] at hout hoff
      refine ⟨congrArg Prod.fst hw, hout, hoff, ?_⟩
      have hlast := congrArg (fun w => w.2.last) hw
      refine hlast.trans ?_
      rw [xhlp]
    · obtain ⟨x, hx, xm, xhs, -, xe, sat, xsgu⟩ := hgo hfe
      have hmax : clampOut (loopOutput s.sgu.p.kp s.sgu.p.kff e (p - s.sgu.pPrev)) =
          max (-32767) (min 32767 ((g.p.kp * e + g.p.kff * (p - g.pPrev)).tdiv 256)) := rfl
      by_cases hthere : there
      · obtain ⟨hmov, hat, hin⟩ := hthere
        obtain ⟨dcn, dmov, dT, dst, dset, dprev, drem, dout, dor, dme⟩ := positionDone_there (s := x)
          (by rw [xsgu]; exact hmov) (by rw [xsgu]; exact hat) (by rw [xe, xsgu]; exact hin)
        rw [← hx, xsgu] at dst dset dprev drem dout dor dme
        rw [← hx] at dcn dmov dT
        refine ⟨(congrArg CondUnit.machine dcn).trans xm, dst.trans hpos, dset, dprev, drem, dout.trans hmax,
          fun hn => absurd ⟨hmov, hat, hin⟩ hn, fun _ => ⟨dmov, dT, fun ho => ?_, dme⟩⟩
        rw [xhs] at dor
        exact dor ho
      · have hdone : u' = x := hx.trans (positionDone_not_there (by rw [xe, xsgu]; exact hthere))
        rw [hdone, xsgu]
        exact ⟨xm, hpos, rfl, rfl, rfl, hmax, fun _ => ⟨rfl, rfl, xhs, rfl⟩, fun ht => absurd ht hthere⟩

end Sys2Proof.Machine
end

section
/-! SUPPORT/CLAIMS. SPINDLE_SET and SPINDLE records (R108, R113), and the spindle's work in a path period (R110 to
R112). -/

namespace Sys2Proof.Machine

/-! ## The target is formed again, under a started FPR MOVE too -/

theorem watched_raiseHold {c d : Cond} (h : d ≠ c) (hs : d ≠ .queueStarved) (q : Nat) (v : Int) (s : State) :
    watched d (raiseHold c q v s) = watched d s := by
  have hentry : condEntry (raiseHold c q v s) d = condEntry s d := by
    unfold raiseHold
    dsimp only
    split
    · rw [condEntry_latch, if_neg h.symm]
    · rw [condEntry_endAllJogs, condEntry_sqHold hs, condEntry_latch, if_neg h.symm]
  unfold watched
  rw [hentry, raiseHold_machine]

theorem watched_setSpindle {d : Cond} (h : d ≠ .spindleNotTurning) (hs : d ≠ .queueStarved) (st : SpindleState)
    (s : State) : watched d (setSpindle st s) = watched d s := by
  unfold setSpindle
  dsimp only
  split
  · exact watched_raiseHold h hs _ _ _
  · rfl

theorem watched_retarget {d : Cond} (h : d ≠ .spindleNotTurning) (hs : d ≠ .queueStarved) (s : State) :
    watched d (retarget s) = watched d s := by
  unfold retarget spindleStart
  dsimp only
  (repeat' split) <;> (try rw [watched_setSpindle h hs]) <;> rfl

theorem setSpindle_hlp (st : SpindleState) (s : State) : (setSpindle st s).hlp = s.hlp := by
  unfold setSpindle
  dsimp only
  split
  · rw [raiseHold_hlp]
  · rfl

theorem recordsStay_sgu (s : State) (g : Sgu) : RecordsStay s { s with sgu := g } := ⟨rfl, rfl, rfl, rfl, rfl, rfl⟩

/-- The target has been formed again (R108): of SGU the target, the state and the start of the turn have changed. -/
structure Retargeted (s t : State) : Prop where
  stays : RecordsStay s t
  hlp : t.hlp = s.hlp
  target : t.sgu.target = formTarget s
  reqSpeed : t.sgu.reqSpeed = s.sgu.reqSpeed
  reqDir : t.sgu.reqDir = s.sgu.reqDir
  gear : t.sgu.gear = s.sgu.gear
  starts : s.sgu.st = .off → 0 < formTarget s → t.sgu.st = .accel ∧ t.sgu.turnDir = s.sgu.reqDir
  stops : turning s = true → formTarget s = 0 → t.sgu.st = .decel

theorem Retargeted.setSpindle {s : State} {g : Sgu} {st : SpindleState}
    (h : Retargeted s { s with sgu := { g with st := st } }) : Retargeted s (setSpindle st { s with sgu := g }) := by
  have hsgu : (Machine.setSpindle st { s with sgu := g }).sgu = { g with st := st } :=
    (setSpindle_parts st { s with sgu := g }).1
  refine ⟨recordsStay_setSpindle (recordsStay_sgu s g) st, setSpindle_hlp st _, ?_, ?_, ?_, ?_, ?_, ?_⟩ <;> rw [hsgu]
  exacts [h.target, h.reqSpeed, h.reqDir, h.gear, h.starts, h.stops]

/-- A state that SGU keeps, or that a rule of R108 other than starting and stopping gives. -/
theorem retargeted_of_st {s : State} {st : SpindleState} (hoff : s.sgu.st = .off → formTarget s = 0)
    (hturn : turning s = true → formTarget s ≠ 0) :
    Retargeted s { s with sgu := { s.sgu with target := formTarget s, st := st } } :=
  ⟨recordsStay_sgu s _, rfl, rfl, rfl, rfl, rfl, fun ho hp => absurd (hoff ho) (by omega), fun ht hz => absurd hz (hturn ht)⟩

theorem retargeted_retarget (s : State) : Retargeted s (retarget s) := by
  have hnot : ∀ {a : SpindleState}, s.sgu.st = a → a ≠ .accel → a ≠ .atSpeed → turning s = true → formTarget s ≠ 0 :=
    fun e h1 h2 ht => by unfold turning at ht; rw [e] at ht; simp [h1, h2] at ht
  have hne : ∀ {a : SpindleState}, s.sgu.st = a → a ≠ .off → s.sgu.st = .off → formTarget s = 0 :=
    fun e h1 h2 => absurd (e.symm.trans h2) h1
  have hturning : ∀ {a : SpindleState}, s.sgu.st = a → a = .accel ∨ a = .atSpeed → Retargeted s
      (if formTarget s = 0 ∨ s.sgu.reqDir ≠ s.sgu.turnDir then setSpindle .decel { s with sgu.target := formTarget s }
        else if formTarget s ≠ s.sgu.target then setSpindle .accel { s with sgu.target := formTarget s }
        else { s with sgu.target := formTarget s }) := fun {a} e ha => by
    have hoff : s.sgu.st = .off → formTarget s = 0 := hne e (by rcases ha with h | h <;> rw [h] <;> decide)
    split
    · exact Retargeted.setSpindle ⟨recordsStay_sgu s _, rfl, rfl, rfl, rfl, rfl,
        fun ho hp => absurd (hoff ho) (by omega), fun _ _ => rfl⟩
    next hz =>
      have hturn : turning s = true → formTarget s ≠ 0 := fun _ e => hz (.inl e)
      split
      · exact Retargeted.setSpindle (retargeted_of_st hoff hturn)
      · exact retargeted_of_st (st := s.sgu.st) hoff hturn
  unfold retarget
  dsimp only
  split
  next e =>
    split
    · exact Retargeted.setSpindle ⟨recordsStay_sgu s _, rfl, rfl, rfl, rfl, rfl, fun _ _ => ⟨rfl, rfl⟩,
        fun ht hz => absurd hz (hnot e (by decide) (by decide) ht)⟩
    · exact retargeted_of_st (st := s.sgu.st) (fun _ => by omega) (hnot e (by decide) (by decide))
  next e => exact hturning e (.inl rfl)
  next e => exact hturning e (.inr rfl)
  next e =>
    split
    · exact Retargeted.setSpindle (retargeted_of_st (hne e (by decide)) (hnot e (by decide) (by decide)))
    · exact retargeted_of_st (st := s.sgu.st) (hne e (by decide)) (hnot e (by decide) (by decide))
  next e => exact retargeted_of_st (st := s.sgu.st) (hne e (by decide)) (hnot e (by decide) (by decide))
  next e => exact retargeted_of_st (st := s.sgu.st) (hne e (by decide)) (hnot e (by decide) (by decide))

/-! ## Speed commands -/

theorem recordsStay_trans {s t u : State} (h1 : RecordsStay s t) (h2 : RecordsStay t u) : RecordsStay s u :=
  ⟨by rw [h2.sq, h1.sq], h2.ax.trans h1.ax, h2.cs.trans h1.cs, h2.cc.trans h1.cc, h2.hs.trans h1.hs, h2.cu.trans h1.cu⟩

/-- The requested speed becomes 0 (R108, R114). -/
theorem spindleStopSpeed_spec (s : State) :
    RecordsStay s (spindleStopSpeed s) ∧ (spindleStopSpeed s).hlp = s.hlp ∧ (spindleStopSpeed s).sgu.reqSpeed = 0 ∧
      (spindleStopSpeed s).sgu.target = 0 ∧ (spindleStopSpeed s).sgu.gear = s.sgu.gear ∧
      (turning s = true → (spindleStopSpeed s).sgu.st = .decel) := by
  have h := retargeted_retarget { s with sgu.reqSpeed := 0 }
  have hzero : formTarget { s with sgu.reqSpeed := 0 } = 0 := formTarget_of_reqSpeed rfl
  exact ⟨recordsStay_trans (recordsStay_sgu s _) h.stays, h.hlp, h.reqSpeed, h.target.trans hzero, h.gear,
    fun ht => h.stops ht hzero⟩

/-- A speed command above 0 in an engaged range (R108, R113). -/
theorem speedCommand_spec {s : State} {speed : Nat} {r : Range} (hr : s.sgu.gear = .engaged r) (hpos : 0 < speed)
    (dir : Dir) (q : Nat) :
    let t := speedCommand speed dir q s
    RecordsStay s t ∧ t.hlp = s.hlp ∧ t.sgu.reqSpeed = speed ∧ t.sgu.reqDir = dir ∧ t.sgu.gear = s.sgu.gear ∧
      t.sgu.target = min (max 1 (min speed (s.sgu.p.rangeMax.get r) * s.pi.spindleOvr / 100)) (s.sgu.p.rangeMax.get r) ∧
      (s.sgu.st = .off → 0 < s.sgu.p.rangeMax.get r → t.sgu.st = .accel ∧ t.sgu.turnDir = dir) ∧
      (s.sgu.p.rangeMax.get r < speed → (condEntry t .speedClamped).latched = true ∧
        (condEntry t .speedClamped).last = some ⟨s.hlp.ms, q, fit32 speed⟩) := by
  intro t
  have heng : engagedRange s = some r := engagedRange_eq_some.2 hr
  obtain ⟨w, hw, hstay, hhlp, hpi, hsgu, hlatch⟩ : ∃ w : State, t = retarget w ∧ RecordsStay s w ∧ w.hlp = s.hlp ∧
      w.pi = s.pi ∧ w.sgu = { s.sgu with reqSpeed := speed, reqDir := dir } ∧
      (s.sgu.p.rangeMax.get r < speed → (condEntry w .speedClamped).latched = true ∧
        (condEntry w .speedClamped).last = some ⟨s.hlp.ms, q, fit32 speed⟩) := by
    have hcmd : t = retarget (if s.sgu.p.rangeMax.get r < speed then
        latch .speedClamped q speed { s with sgu.reqSpeed := speed, sgu.reqDir := dir }
        else { s with sgu.reqSpeed := speed, sgu.reqDir := dir }) := by
      show speedCommand speed dir q s = _
      unfold speedCommand
      rw [if_neg (by omega), heng]
      simp only [decide_eq_true_eq]
    by_cases hx : s.sgu.p.rangeMax.get r < speed
    · rw [if_pos hx] at hcmd
      refine ⟨_, hcmd, ⟨?_, ?_, ?_, ?_, ?_, ?_⟩, ?_, ?_, ?_, fun _ => ?_⟩ <;> simp [condEntry_latch]
    · rw [if_neg hx] at hcmd
      exact ⟨_, hcmd, recordsStay_sgu s _, rfl, rfl, rfl, fun h => absurd h hx⟩
  have h := retargeted_retarget w
  have htar : formTarget w = min (max 1 (min speed (s.sgu.p.rangeMax.get r) * s.pi.spindleOvr / 100))
      (s.sgu.p.rangeMax.get r) := by
    have hr' : engagedRange w = some r := engagedRange_eq_some.2 (by rw [hsgu]; exact hr)
    unfold formTarget
    rw [hr', hsgu, hpi]
    exact if_neg (by dsimp only; omega)
  have hentry : condEntry t .speedClamped = condEntry w .speedClamped := by
    rw [hw]
    exact congrArg Prod.snd (watched_retarget (d := .speedClamped) (by decide) (by decide) w)
  rw [hentry]
  rw [hw]
  refine ⟨recordsStay_trans hstay h.stays, h.hlp.trans hhlp, h.reqSpeed.trans (by rw [hsgu]),
    h.reqDir.trans (by rw [hsgu]), h.gear.trans (by rw [hsgu]), h.target.trans htar, fun ho hp => ?_, hlatch⟩
  have hstart := h.starts (by rw [hsgu]; exact ho) (by rw [htar]; omega)
  exact ⟨hstart.1, hstart.2.trans (by rw [hsgu])⟩

/-- A request that a free link takes ends its event behind the reply, on the state that its service leaves. -/
theorem exec_taken_served {s t : State} {c : Instr} {tag : Nat} {r : Request} {a : Answer}
    (hc : requestOf c = some (tag, r)) (hfree : LinkFree s) (hserve : serve r (linkCleared s) = (a, t))
    (hlp : t.hlp = (linkCleared s).hlp) : exec c s = .next (finish (replied (requestKind r) tag a t)) := by
  have heq : replied (requestKind r) tag a t = { t with hlp.slot := some ⟨requestKind r, tag, a⟩ } := by
    unfold replied; rw [hlp]; rfl
  rw [exec_request hc, accept_of_linkFree hfree, hserve, heq]
  rfl

/-! ## SPINDLE records -/

theorem completeHead_cn (s : State) : (completeHead s).cn = s.cn ∧ (completeHead s).hlp = s.hlp := by
  unfold completeHead
  split <;> simp

theorem condEntry_completeHead (s : State) (d : Cond) : condEntry (completeHead s) d = condEntry s d :=
  congrArg (fun c : CondUnit => c.table[d.index]) (completeHead_cn s).1

theorem spindleRecord_step {q speed : Nat} {dir : Dir} {rs : List QRec} {s : State}
    (h : RunsRecord ⟨q, .spindle speed dir true⟩ rs s) : recordStep s =
      if s.sgu.st = (if speed = 0 then .off else .atSpeed) then some (completeHead s) else none := by
  unfold recordStep
  rw [h.currentRec]
  dsimp only
  rw [h.nonMoveRuns, Bool.true_and]
  by_cases hs : speed = 0 <;> simp [hs]

/-- The reaction of a STOP raise on the machine, an entry, the requested speed and the seq last completed (R198). -/
theorem reactStop_spec {d : Cond} (hd : d ≠ .queueStarved) (s : State) :
    (reactStop s).cn.machine = machineAfter .stop s.cn.machine ∧ condEntry (reactStop s) d = condEntry s d ∧
      (reactStop s).sgu.reqSpeed = (if s.cn.machine = .tripped then s.sgu.reqSpeed else 0) ∧
      (reactStop s).sq.lastSeq = s.sq.lastSeq := by
  have hflush : ∀ u : State, (flushIdle u).sq.lastSeq = u.sq.lastSeq := fun u => by
    unfold flushIdle
    simp [dropQueueOwners, piDrop, clearRecords]
  have hstop : ∀ u : State, (sqStop u).sq.lastSeq = u.sq.lastSeq := fun u => by
    rcases sqStop_cases u with ⟨-, e⟩ | ⟨-, e⟩ | hm
    · rw [e]
    · rw [e, hflush]
    · obtain ⟨n, y, g, rq, e, -⟩ := sqStop_of_moves hm
      rw [e]
      split
      · rw [hflush]; simp
      · simp
  have hgo : ∀ u t : State, t = stopDeliveries u → t.cn.machine = u.cn.machine ∧ condEntry t d = condEntry u d ∧
      t.sgu.reqSpeed = 0 ∧ t.sq.lastSeq = u.sq.lastSeq := fun u t ht => by
    have hw := watched_stopDeliveries hd u
    obtain ⟨hsq, -, hreq, -⟩ := stopDeliveries_blocks u
    rw [← ht] at hw hsq hreq
    exact ⟨congrArg Prod.fst hw, congrArg Prod.snd hw, hreq, by rw [hsq, hstop]⟩
  unfold reactStop
  cases hm : s.cn.machine with
  | tripped => exact ⟨hm, rfl, rfl, rfl⟩
  | ready =>
    have h := hgo { s with cn.machine := .stopping } _ rfl
    generalize stopDeliveries _ = t at h
    exact h
  | stopping =>
    obtain ⟨h1, h2⟩ := hgo s _ rfl
    generalize stopDeliveries s = t at h1 h2
    exact ⟨h1.trans hm, h2⟩

/-- A SPINDLE record without an engaged range (R19, entry 10): GEAR_NOT_ENGAGED with its STOP reaction. -/
theorem spindleRecord_unengaged {q speed : Nat} {dir : Dir} {wait : Bool} {rs : List QRec} {s : State}
    (hrecs : s.sq.recs = ⟨q, .spindle speed dir wait⟩ :: rs) (heng : engagedRange s = none) :
    let t := spindleRecord ⟨q, .spindle speed dir wait⟩ speed dir wait (headCurrent s)
    (condEntry t .gearNotEngaged).latched = true ∧
      (condEntry t .gearNotEngaged).last = some ⟨s.hlp.ms, q, fit32 speed⟩ ∧
      t.cn.machine = machineAfter .stop s.cn.machine ∧
      t.sgu.reqSpeed = (if s.cn.machine = .tripped then s.sgu.reqSpeed else 0) ∧
      t.sq.lastSeq = (if wait then s.sq.lastSeq else q) := by
  intro t
  obtain ⟨w, ht, hcn, hsgu, hseq⟩ : ∃ w : State, t = reactStop w ∧
      w.cn = (latch .gearNotEngaged q speed (headCurrent s)).cn ∧ w.sgu = s.sgu ∧
      w.sq.lastSeq = (if wait then s.sq.lastSeq else q) := by
    refine ⟨if wait then latch .gearNotEngaged q speed (headCurrent s)
      else completeHead (latch .gearNotEngaged q speed (headCurrent s)), ?_, ?_⟩
    · exact if_neg (by show ¬(engagedRange s).isSome = true; rw [heng]; decide)
    · cases wait
      · refine ⟨(completeHead_cn _).1, ((completeHead_keeps _).2.2.2.1).trans (latch_sgu _ _ _ _), ?_⟩
        exact (completed_completeHead (r := ⟨q, .spindle speed dir false⟩) (rs := rs)
          (by rw [latch_sq]; exact hrecs)).2.2
      · exact ⟨rfl, latch_sgu _ _ _ _, by rw [if_pos rfl, if_pos rfl, latch_sq]; rfl⟩
  have hentry : condEntry w .gearNotEngaged = { condEntry s .gearNotEngaged with
      latched := true, last := some ⟨s.hlp.ms, q, fit32 speed⟩ } := by
    have : condEntry w .gearNotEngaged = condEntry (latch .gearNotEngaged q speed (headCurrent s)) .gearNotEngaged := by
      unfold condEntry; rw [hcn]
    rw [this, condEntry_latch, if_pos rfl]
    rfl
  have hm : w.cn.machine = s.cn.machine := by rw [hcn, latch_machine]; rfl
  obtain ⟨h1, h2, h3, h4⟩ := reactStop_spec (d := .gearNotEngaged) (by decide) w
  rw [ht]
  generalize reactStop w = x at h1 h2 h3 h4
  rw [h2, hentry, h1, h3, h4, hm, hsgu]
  exact ⟨rfl, rfl, rfl, rfl, hseq⟩

/-! ## The spindle's work of a path period -/

theorem clampOut_ne_iff (z : Int) : clampOut z ≠ z ↔ 32767 < z.natAbs := by
  unfold clampOut clampInt; omega

/-- DRIVE_SATURATED of the spindle follows the clamp and its count (R62). -/
theorem rawOf_spindleOutput (z : Int) (s : State) :
    rawOf (spindleOutput z s) (.driveSaturated .spindle) = true ↔
      32767 < z.natAbs ∨ (rawOf s (.driveSaturated .spindle) = true ∧ satNext s.sgu.satCount z < 20) := by
  have hraw : rawOf (saturation .spindle 0 z { s with sgu.out := clampOut z, sgu.satCount := satNext s.sgu.satCount z })
      (.driveSaturated .spindle) = (decide (32767 < z.natAbs) || rawOf s (.driveSaturated .spindle)) := by
    unfold saturation
    by_cases hz : 32767 < z.natAbs
    · rw [if_pos ((clampOut_ne_iff z).2 hz), rawOf_riseNote, if_pos rfl]; simp [hz]
    · rw [if_neg (fun e => hz ((clampOut_ne_iff z).1 e))]; simp [hz]; rfl
  have hle : satNext s.sgu.satCount z ≤ 20 := by unfold satNext; split <;> omega
  have hsat : 32767 < z.natAbs → satNext s.sgu.satCount z = 0 := fun h => if_pos ((clampOut_ne_iff z).2 h)
  unfold spindleOutput
  dsimp only
  split
  next h =>
    rw [rawOf_fall, if_pos rfl]
    constructor
    · exact fun e => (nomatch e)
    · rintro (hz | ⟨-, hlt⟩)
      · rw [hsat hz] at h; cases h
      · omega
  next h =>
    rw [hraw, Bool.or_eq_true, decide_eq_true_eq]
    exact or_congr Iff.rfl ⟨fun e => ⟨e, by omega⟩, fun e => e.1⟩

/-- The measurement (R111, entry 46). -/
theorem spindleMeasure_spec (s : State) :
    ∃ (n : Nat) (d : Dir), spindleMeasure s =
      { s with sgu.hist := (s.sgu.pos :: s.sgu.hist).take 17, sgu.sAct := n, sgu.measDir := d } ∧
    (s.sgu.hist[15]? = none → n = s.sgu.sAct ∧ d = s.sgu.measDir) ∧
    ∀ old, s.sgu.hist[15]? = some old →
      ((s.sgu.pos - old).natAbs * 60000 / (s.sgu.p.cpr * 16) ≤ 65535 →
        n = (s.sgu.pos - old).natAbs * 60000 / (s.sgu.p.cpr * 16)) ∧
      d = if old < s.sgu.pos then .cw else if s.sgu.pos < old then .ccw else s.sgu.measDir := by
  have hget : ((s.sgu.pos :: s.sgu.hist).take 17)[16]? = s.sgu.hist[15]? := by simp
  unfold spindleMeasure
  dsimp only
  rw [hget]
  cases hh : s.sgu.hist[15]? with
  | none => exact ⟨s.sgu.sAct, s.sgu.measDir, rfl, fun _ => ⟨rfl, rfl⟩, fun old e => (nomatch e)⟩
  | some old =>
    refine ⟨_, _, rfl, fun e => (nomatch e), fun old' e => ?_⟩
    obtain rfl := Option.some.inj e
    refine ⟨fun hle => if_pos hle, ?_⟩
    refine if_congr (by omega) rfl (if_congr (by omega) rfl rfl)

theorem spindleRamp_eq (s : State) : spindleRamp s = { s with
    sgu.ramped := if s.sgu.st = .accel ∨ s.sgu.st = .decel then rateToward s.sgu.ramped (rampAim s) s.sgu.p.accel
      else s.sgu.ramped } := by
  unfold spindleRamp
  split <;> rfl

theorem atSpeedTest_eq (s : State) : atSpeedTest s = { s with
    sgu.st := if s.sgu.st = .accel ∧ s.sgu.ramped = s.sgu.target * 1000 ∧
      absDiff s.sgu.sAct s.sgu.target ≤ speedBand s.sgu.target s.sgu.p.atSpeedPct then .atSpeed else s.sgu.st } := by
  unfold atSpeedTest setSpindle
  dsimp only
  rw [if_neg (c := _ ∧ SpindleState.atSpeed ≠ .accel ∧ _) (fun e => e.2.2.1 rfl)]
  split <;> rfl

/-- The unclamped output of the period, from the state that the measurement and the ramp leave (R110). -/
def periodOutput (s : State) : Int :=
  if s.sgu.st = .accel ∨ s.sgu.st = .atSpeed ∨ s.sgu.st = .decel then speedOutput s else 0

/-- The ramp and the AT_SPEED test of a measured state. -/
def ramped (u : State) : State := atSpeedTest (spindleRamp u)

theorem ramped_eq (u : State) : ∃ st : SpindleState, ramped u = { u with
      sgu.ramped := if u.sgu.st = .accel ∨ u.sgu.st = .decel then rateToward u.sgu.ramped (rampAim u) u.sgu.p.accel
        else u.sgu.ramped
      sgu.st := st } ∧
    st = if u.sgu.st = .accel ∧ (ramped u).sgu.ramped = u.sgu.target * 1000 ∧
      absDiff u.sgu.sAct u.sgu.target ≤ speedBand u.sgu.target u.sgu.p.atSpeedPct then .atSpeed else u.sgu.st := by
  unfold ramped
  rw [atSpeedTest_eq, spindleRamp_eq]
  exact ⟨_, rfl, rfl⟩

/-- In OFF and FAULT nothing ramps. -/
theorem ramped_of_still {u : State} (h1 : u.sgu.st ≠ .accel) (h2 : u.sgu.st ≠ .decel) : ramped u = u := by
  obtain ⟨st, heq, hst⟩ := ramped_eq u
  rw [if_neg (fun e => h1 e.1)] at hst
  rw [if_neg (fun e => e.elim h1 h2), hst] at heq
  exact heq

theorem spindleWork_of_tripped {s : State} (h : s.cn.machine = .tripped) : spindleWork s = spindleMeasure s := if_pos h

/-- The spindle's work where it does not position (R110 to R112): ramp, AT_SPEED test and output. -/
theorem spindleWork_speed {s u : State} (hu : spindleMeasure s = u) (hust : u.sgu.st = s.sgu.st)
    (hm : s.cn.machine ≠ .tripped) (hst : s.sgu.st ≠ .positioning) :
    spindleWork s = spindleOutput (periodOutput (ramped u)) (ramped u) := by
  have hrun : u.sgu.st = .accel ∨ u.sgu.st = .atSpeed ∨ u.sgu.st = .decel →
      periodOutput (ramped u) = speedOutput (ramped u) := fun h => if_pos (by
    obtain ⟨st, heq, hst⟩ := ramped_eq u
    have : (ramped u).sgu.st = st := by rw [heq]
    rw [this, hst]
    split
    · exact .inr (.inl rfl)
    · exact h)
  have hstill : u.sgu.st = .off ∨ u.sgu.st = .fault →
      spindleOutput 0 u = spindleOutput (periodOutput (ramped u)) (ramped u) := fun h => by
    rw [ramped_of_still (by rcases h with e | e <;> rw [e] <;> decide) (by rcases h with e | e <;> rw [e] <;> decide)]
    have : periodOutput u = 0 := if_neg (by rcases h with e | e <;> rw [e] <;> decide)
    rw [this]
  unfold spindleWork
  rw [hu]
  dsimp only
  rw [if_neg hm]
  split
  next e => rw [hrun (.inl e)]; rfl
  next e => rw [hrun (.inr (.inl e))]; rfl
  next e => rw [hrun (.inr (.inr e))]; rfl
  next e => exact absurd (hust.symm.trans e) hst
  next e => exact hstill (.inl e)
  next e => exact hstill (.inr e)

theorem keptSgu_positionLoop {s : State} (hm : s.cn.machine ≠ .tripped) :
    keptSgu (positionLoop s).sgu = keptSgu s.sgu := by
  have hstep : ∀ u : State, keptSgu (positionStep u).sgu = keptSgu u.sgu ∧ (positionStep u).cn = u.cn := fun u => by
    unfold positionStep
    dsimp only
    (repeat' split) <;> exact ⟨rfl, rfl⟩
  have hdone : ∀ u : State, keptSgu (positionDone u).sgu = keptSgu u.sgu := fun u => by
    unfold positionDone
    dsimp only
    (repeat' split) <;> rfl
  have htrip : ∀ (u : State) (c : Cond) (q : Nat) (v : Int), u.cn.machine ≠ .tripped →
      keptSgu (raiseTrip c q v u).sgu = keptSgu u.sgu := fun u c q v hu => by
    obtain ⟨x, heq, hsgu, -⟩ := raiseTrip_sgu hu c q v
    have hkept : keptSgu (sguTrip x).sgu = keptSgu x.sgu := by
      have : steady (sguTrip x) = steady x := by
        unfold sguTrip
        dsimp only
        rw [steady_fall]
        split
        · rw [steady_abandonShift]; rfl
        · rw [steady_spindleOff, steady_abandonShift]; rfl
      exact congrArg (fun y => y.sgu) this
    rw [heq, hkept, hsgu]
  obtain ⟨h1, h2⟩ := hstep s
  unfold positionLoop
  dsimp only
  obtain ⟨osgu, -, ocn, -⟩ := spindleOutput_spec (loopOutput s.sgu.p.kp s.sgu.p.kff (positionError (positionStep s))
    ((positionStep s).sgu.pSet - (positionStep s).sgu.pPrev))
    { positionStep s with sgu.pPrev := (positionStep s).sgu.pSet }
  generalize spindleOutput _ _ = x at osgu ocn
  have hx : keptSgu x.sgu = keptSgu s.sgu := by rw [osgu]; exact h1
  split
  · rw [htrip x _ _ _ (by rw [ocn, h2]; exact hm), hx]
  · rw [hdone, hx]

/-- The measurement stands whatever the rest of the spindle's work does (R111). -/
theorem keptSgu_spindleWork (s : State) : keptSgu (spindleWork s).sgu = keptSgu (spindleMeasure s).sgu := by
  obtain ⟨n, d, hmeas, -⟩ := spindleMeasure_spec s
  by_cases hm : s.cn.machine = .tripped
  · rw [spindleWork_of_tripped hm]
  by_cases hst : s.sgu.st = .positioning
  · have : spindleWork s = positionLoop (spindleMeasure s) := by
      unfold spindleWork
      rw [hmeas]
      dsimp only
      rw [if_neg hm, hst]
    rw [this, keptSgu_positionLoop (by rw [hmeas]; exact hm)]
  · rw [spindleWork_speed rfl (by rw [hmeas]) hm hst, (spindleOutput_spec _ _).1]
    obtain ⟨st, heq, -⟩ := ramped_eq (spindleMeasure s)
    rw [heq]
    rfl

/-- The speed, the state and the output of a spindle that does not position, after its work (R110 to R112, R62). -/
theorem spindleWork_spec {s : State} (hm : s.cn.machine ≠ .tripped) (hst : s.sgu.st ≠ .positioning) :
    let u := spindleWork s
    u.sgu.ramped = (if s.sgu.st = .accel ∨ s.sgu.st = .decel then rateToward s.sgu.ramped (rampAim s) s.sgu.p.accel
      else s.sgu.ramped) ∧
    u.sgu.st = (if s.sgu.st = .accel ∧ u.sgu.ramped = s.sgu.target * 1000 ∧
      absDiff u.sgu.sAct s.sgu.target ≤ speedBand s.sgu.target s.sgu.p.atSpeedPct then .atSpeed else s.sgu.st) ∧
    ∃ z : Int, z = (if s.sgu.st = .accel ∨ s.sgu.st = .atSpeed ∨ s.sgu.st = .decel then
        speedOutput { s with sgu.ramped := u.sgu.ramped } else 0) ∧
      u.sgu.out = clampOut z ∧ u.sgu.satCount = satNext s.sgu.satCount z ∧
      (rawOf u (.driveSaturated .spindle) = true ↔
        32767 < z.natAbs ∨ (rawOf s (.driveSaturated .spindle) = true ∧ satNext s.sgu.satCount z < 20)) := by
  intro u
  obtain ⟨n, d, hmeas, -⟩ := spindleMeasure_spec s
  generalize (s.sgu.pos :: s.sgu.hist).take 17 = l at hmeas
  obtain ⟨m, hmdef, hmst, hmr, hmp, hmt, hmsat, hmraw, hmrest⟩ : ∃ m : State, spindleMeasure s = m ∧ m.sgu.st = s.sgu.st ∧
      m.sgu.ramped = s.sgu.ramped ∧ m.sgu.p = s.sgu.p ∧ m.sgu.target = s.sgu.target ∧ m.sgu.satCount = s.sgu.satCount ∧
      (∀ d, rawOf m d = rawOf s d) ∧ (m.sgu.gear = s.sgu.gear ∧ m.sgu.lastRange = s.sgu.lastRange ∧
        m.sgu.turnDir = s.sgu.turnDir) :=
    ⟨_, hmeas, rfl, rfl, rfl, rfl, rfl, fun _ => rfl, rfl, rfl, rfl⟩
  have hu : u = spindleOutput (periodOutput (ramped m)) (ramped m) := spindleWork_speed hmdef hmst hm hst
  obtain ⟨st, heq, hstx⟩ := ramped_eq m
  obtain ⟨osgu, -⟩ := spindleOutput_spec (periodOutput (ramped m)) (ramped m)
  have oraw := rawOf_spindleOutput (periodOutput (ramped m)) (ramped m)
  rw [← hu] at osgu oraw
  clear_value u
  have haim : rampAim m = rampAim s := by unfold rampAim; rw [hmst, hmt]
  have hramped : u.sgu.ramped = (ramped m).sgu.ramped := by rw [osgu]
  have hsact : u.sgu.sAct = m.sgu.sAct := by rw [osgu, heq]
  have hz : periodOutput (ramped m) = if s.sgu.st = .accel ∨ s.sgu.st = .atSpeed ∨ s.sgu.st = .decel then
      speedOutput { s with sgu.ramped := u.sgu.ramped } else 0 := by
    have hxst : (ramped m).sgu.st = st := by rw [heq]
    have hrun : ((ramped m).sgu.st = .accel ∨ (ramped m).sgu.st = .atSpeed ∨ (ramped m).sgu.st = .decel) ↔
        (s.sgu.st = .accel ∨ s.sgu.st = .atSpeed ∨ s.sgu.st = .decel) := by
      rw [hxst, hstx, hmst]
      split
      next h => simp [h.1]
      next h => exact Iff.rfl
    have hspeed : speedOutput (ramped m) = speedOutput { s with sgu.ramped := u.sgu.ramped } := by
      obtain ⟨hgear, hlast, hdir⟩ := hmrest
      have heng : engagedRange (ramped m) = engagedRange { s with sgu.ramped := u.sgu.ramped } := by
        unfold engagedRange; rw [heq]; dsimp only; rw [hgear]
      unfold speedOutput
      rw [heng, hramped, heq]
      dsimp only
      rw [hmp, hlast, hdir]
    unfold periodOutput
    exact if_congr hrun hspeed rfl
  refine ⟨?_, ?_, _, hz, ?_, ?_, ?_⟩
  · rw [hramped, heq]
    dsimp only
    rw [hmst, hmr, haim, hmp]
  · have : u.sgu.st = st := by rw [osgu, heq]
    rw [this, hstx, hramped, hsact, hmst, hmt, hmp]
  · rw [osgu]
  · rw [osgu, heq]
    dsimp only
    rw [hmsat]
  · rw [oraw]
    have h1 : rawOf (ramped m) (.driveSaturated .spindle) = rawOf s (.driveSaturated .spindle) := by
      rw [heq]; exact hmraw _
    have h2 : (ramped m).sgu.satCount = s.sgu.satCount := by rw [heq]; exact hmsat
    rw [h1, h2]

/-- Settles O39: each command through `speedCommand_spec` and `spindleStopSpeed_spec`, the period through
`spindleMeasure_spec` and `spindleWork_spec`. -/
theorem spindleSetCommandsTheSpindle : Obligations.SpindleSetCommandsTheSpindle := by
  refine ⟨fun s tag hfree hm hsh => ⟨fun speed dir r hpos hdir hr href => ?run, ?stop⟩,
    fun s q speed dir wait rs hrecs => ⟨fun r hr => ?engaged, fun heng => ?lost, fun hw h => ?waits⟩,
    fun s => ⟨rfl, ?period⟩⟩
  case run =>
    obtain ⟨hstay, hhlp, h1, h2, h3, h4, h5, h6⟩ := speedCommand_spec (s := linkCleared s) (speed := min 6000 speed) hr
      (by omega) (if dir = 0 then .cw else .ccw) 0
    have hserve : serve (.spindleSet 0 speed dir) (linkCleared s) =
        spindleReply (speedCommand (min 6000 speed) (if dir = 0 then .cw else .ccw) 0 (linkCleared s)) := by
      show serveSpindleRun speed dir (linkCleared s) = _
      have heng : engagedRange (linkCleared s) = some r := engagedRange_eq_some.2 hr
      have href' : driveRefuses (linkCleared s) = false := href
      have hsh' : shifting (linkCleared s) = false := hsh
      have hm' : (linkCleared s).cn.machine = .ready := hm
      unfold serveSpindleRun
      rw [if_neg (by omega), if_neg (by omega), if_neg (by rw [hm']; decide), if_neg (by rw [hm']; decide),
        if_neg (by rw [hsh']; decide), if_neg (by rw [heng, href']; exact fun e => (nomatch e))]
    generalize speedCommand (min 6000 speed) (if dir = 0 then .cw else .ccw) 0 (linkCleared s) = u at *
    exact ⟨u, exec_taken_served (c := .spindleSetRun tag speed dir) (r := .spindleSet 0 speed dir) rfl hfree hserve hhlp,
      h1, h2, h4, fun ho hp => ⟨(h5 ho hp).1, (h5 ho hp).2.trans h2.symm⟩, fun hlt => (h6 hlt).1, h3, hstay.ax, hstay.cs,
      hstay.cc, hstay.hs, hstay.cu⟩
  case stop =>
    obtain ⟨hstay, hhlp, h1, h2, h3, h4⟩ := spindleStopSpeed_spec (linkCleared s)
    have hserve : serve (.spindleSet 1 0 0) (linkCleared s) = spindleReply (spindleStopSpeed (linkCleared s)) := by
      show serveSpindleStop (linkCleared s) = _
      have hsh' : shifting (linkCleared s) = false := hsh
      have hm' : (linkCleared s).cn.machine = .ready := hm
      unfold serveSpindleStop
      rw [if_neg (by rw [hm']; decide), if_neg (by rw [hsh']; decide)]
    generalize spindleStopSpeed (linkCleared s) = u at *
    exact ⟨u, exec_taken_served (c := .spindleSetStop tag) (r := .spindleSet 1 0 0) rfl hfree hserve hhlp, h1, h2, h4, h3,
      hstay.ax, hstay.cs, hstay.cc, hstay.hs, hstay.cu⟩
  case engaged =>
    obtain ⟨w, hw, hstay, hgear, hstops, hruns⟩ : ∃ w, speedCommand speed dir q (headCurrent s) = w ∧
        RecordsStay (headCurrent s) w ∧ w.sgu.gear = s.sgu.gear ∧
        (speed = 0 → w.sgu.reqSpeed = 0 ∧ w.sgu.target = 0 ∧ (turning s = true → w.sgu.st = .decel)) ∧
        (0 < speed → w.sgu.reqSpeed = speed ∧ w.sgu.reqDir = dir ∧
          w.sgu.target = min (max 1 (min speed (s.sgu.p.rangeMax.get r) * s.pi.spindleOvr / 100))
            (s.sgu.p.rangeMax.get r) ∧
          (s.sgu.st = .off → 0 < s.sgu.p.rangeMax.get r → w.sgu.st = .accel ∧ w.sgu.turnDir = dir) ∧
          (s.sgu.p.rangeMax.get r < speed →
            (condEntry w .speedClamped).last = some ⟨s.hlp.ms, q, fit32 speed⟩)) := by
      rcases Nat.eq_zero_or_pos speed with h0 | hpos
      · obtain ⟨h1, -, h2, h3, h4, h5⟩ := spindleStopSpeed_spec (headCurrent s)
        exact ⟨_, if_pos h0, h1, h4, fun _ => ⟨h2, h3, h5⟩, fun hp => by omega⟩
      · obtain ⟨h1, -, h2, h3, h4, h5, h6, h7⟩ := speedCommand_spec (s := headCurrent s) hr hpos dir q
        exact ⟨_, rfl, h1, h4, fun h0 => by omega, fun _ => ⟨h2, h3, h5, h6, fun hlt => (h7 hlt).2⟩⟩
    have hdis : dispatchHead s = if wait then w else completeHead w := by
      unfold dispatchHead
      rw [hrecs, ← hw]
      exact if_pos (by show (engagedRange s).isSome = true; rw [engagedRange_eq_some.2 hr]; rfl)
    have hrecs' : w.sq.recs = s.sq.recs ∧ w.sq.current = true := by rw [hstay.sq]; exact ⟨rfl, rfl⟩
    have hsgu : (dispatchHead s).sgu = w.sgu := by
      rw [hdis]
      split
      · rfl
      · exact (completeHead_keeps w).2.2.2.1
    have hentry : condEntry (dispatchHead s) .speedClamped = condEntry w .speedClamped := by
      rw [hdis]
      split
      · rfl
      · exact condEntry_completeHead w _
    rw [hsgu, hentry]
    refine ⟨fun hf => ?_, fun ht => ?_, hgear, hstops, hruns⟩
    · rw [hdis, hf]
      exact completed_completeHead (r := ⟨q, .spindle speed dir wait⟩) (hrecs'.1.trans hrecs)
    · rw [hdis, ht]
      exact hrecs'
  case lost =>
    have hdis : dispatchHead s = spindleRecord ⟨q, .spindle speed dir wait⟩ speed dir wait (headCurrent s) := by
      unfold dispatchHead
      rw [hrecs]
      rfl
    rw [hdis]
    exact spindleRecord_unengaged hrecs heng
  case waits =>
    subst hw
    refine ⟨fun hthere => ⟨completeHead s, queueRule_of_step ?_, completed_completeHead hrecs, (completeHead_keeps s).1⟩,
      fun hnot => h.queueRule_none ?_ fun _ => ?_⟩
    · rw [spindleRecord_step h]
      exact if_pos hthere
    · rw [spindleRecord_step h]
      exact if_neg hnot
    · unfold inProgress; rw [h.currentRec]
  case period =>
    have hkept := keptSgu_spindleWork s
    obtain ⟨n, d, hmeas, hnone, hsome⟩ := spindleMeasure_spec s
    have htrip : s.cn.machine = .tripped → spindleWork s =
        { s with sgu.hist := (spindleWork s).sgu.hist, sgu.sAct := (spindleWork s).sgu.sAct,
                 sgu.measDir := (spindleWork s).sgu.measDir } := fun ht => by
      rw [spindleWork_of_tripped ht, hmeas]
    have hspec := fun hm hst => spindleWork_spec (s := s) hm hst
    generalize spindleWork s = u at *
    obtain ⟨hhist, hact, hdir⟩ : u.sgu.hist = (s.sgu.pos :: s.sgu.hist).take 17 ∧ u.sgu.sAct = n ∧ u.sgu.measDir = d := by
      rw [hmeas] at hkept
      simp only [keptSgu, Prod.mk.injEq] at hkept
      obtain ⟨-, -, h1, -, h2, h3, -⟩ := hkept
      exact ⟨h1, h2, h3⟩
    refine ⟨hhist, fun h => ?_, fun old h => ?_, htrip, fun hm hst => ?_, fun hm hst => ?_, fun hm h1 h2 => ?_,
      fun hm h1 h2 h3 => ?_, fun hm hst => ?_⟩
    · rw [hact, hdir]; exact hnone h
    · rw [hact, hdir]; exact hsome old h
    · obtain ⟨hr, -⟩ := hspec hm (by rcases hst with e | e <;> rw [e] <;> decide)
      rw [hr, if_pos hst]
      rfl
    · obtain ⟨-, hs, -⟩ := hspec hm (by rw [hst]; decide)
      rw [hs, hst]
      refine if_congr ?_ rfl rfl
      unfold absDiff speedBand
      constructor
      · rintro ⟨-, h1, h2⟩; exact ⟨h1, by omega⟩
      · rintro ⟨h1, h2⟩; exact ⟨rfl, h1, by omega⟩
    · obtain ⟨-, hs, -⟩ := hspec hm h2
      rw [hs, if_neg (fun e => h1 e.1)]
    · obtain ⟨hr, -⟩ := hspec hm h3
      rw [hr, if_neg (fun e => e.elim h1 h2)]
    · obtain ⟨-, -, z, hz, hout, hsat, hraw⟩ := hspec hm hst
      intro motor z' n'
      have hz' : z' = z := by
        rw [hz]
        by_cases hstill : s.sgu.st = .off ∨ s.sgu.st = .fault
        · rw [if_neg (by rcases hstill with e | e <;> rw [e] <;> decide)]
          exact if_pos hstill
        · have hruns : s.sgu.st = .accel ∨ s.sgu.st = .atSpeed ∨ s.sgu.st = .decel := by
            cases hs : s.sgu.st <;> simp_all
          rw [if_pos hruns]
          refine (if_neg hstill).trans ?_
          unfold speedOutput
          dsimp only
          split
          · exact one_mul _
          · exact neg_one_mul _
      have hn' : n' = satNext s.sgu.satCount z := by
        rw [← hz']
        exact if_congr (clampOut_ne_iff z').symm rfl rfl
      rw [hz', hn']
      exact ⟨hout, hsat, hraw⟩

end Sys2Proof.Machine
end

section
/-! SUPPORT/CLAIMS. Writes of the coolant's demand record (R139 to R153) by COOLANT_SET and COOLANT records. -/

namespace Sys2Proof.Machine

/-! ## COOLANT_SET in a state that it leaves at rest -/

/-- A taken COOLANT_SET whose write leaves CU at rest changes CU alone, and its reply shows CU as it then stands. -/
theorem coolantSet_ends {s : State} (h : Still s) (hfree : LinkFree s) (hm : s.cn.machine ≠ .tripped) {f t m : Nat}
    {F T M : Dem} {p : Option Nat} (hF : demOf f = some F) (hT : demOf t = some T) (hM : demOf m = some M)
    {u : Coolant} (hw : coolantWrite F T M p (linkCleared s) = { linkCleared s with cu := u })
    (hrest : Resting { s with cu := u }) (tag : Nat) :
    exec (.coolantSet tag f t m p) s =
      .next (transmit (replied 0x24 tag ⟨.ok, coolantReport { s with cu := u }⟩ { s with cu := u })) := by
  have hrule : floodRule { linkCleared s with cu := u } = none := if_neg hrest.flood
  refine exec_taken (c := .coolantSet tag f t m p) (r := .coolantSet f t m p) rfl hfree ?_ (Resting.still hrest h.2)
  show serveCoolant f t m p (linkCleared s) = _
  unfold serveCoolant
  rw [hF, hT, hM]
  dsimp only
  rw [if_neg (by exact hm), hw, hrule]
  rfl

/-! ## What a write keeps (R139) -/

/-- The demands and the set pressure stay, and of the queue all but its state. -/
structure SameDemands (s t : State) : Prop where
  flood : t.cu.floodDem = s.cu.floodDem
  tsc : t.cu.tscDem = s.cu.tscDem
  mist : t.cu.mistDem = s.cu.mistDem
  setP : t.cu.setP = s.cu.setP
  sq : t.sq = { s.sq with st := t.sq.st }

theorem SameDemands.trans {s t u : State} (h1 : SameDemands s t) (h2 : SameDemands t u) : SameDemands s u :=
  ⟨h2.flood.trans h1.flood, h2.tsc.trans h1.tsc, h2.mist.trans h1.mist, h2.setP.trans h1.setP, by rw [h2.sq, h1.sq]⟩

theorem SameDemands.raiseHold {s t : State} (h : SameDemands s t) (c : Cond) (q : Nat) (v : Int) :
    SameDemands s (raiseHold c q v t) :=
  h.trans (by
    refine ⟨?_, ?_, ?_, ?_, raiseHold_sq c q v t⟩ <;> rw [raiseHold_cu])

theorem sameDemands_floodFresh (s : State) : SameDemands s (floodFresh s) := by
  unfold floodFresh floodFault
  split
  · split
    · exact ⟨rfl, rfl, rfl, rfl, rfl⟩
    · refine SameDemands.raiseHold ?_ _ _ _
      exact ⟨rfl, rfl, rfl, rfl, rfl⟩
  · split
    · exact ⟨rfl, rfl, rfl, rfl, rfl⟩
    · refine SameDemands.raiseHold ?_ _ _ _
      exact ⟨rfl, rfl, rfl, rfl, rfl⟩
  · exact ⟨rfl, rfl, rfl, rfl, rfl⟩
  · exact ⟨rfl, rfl, rfl, rfl, rfl⟩

theorem sameDemands_tscFault {s t : State} (h : SameDemands s t) (v : Int) : SameDemands s (tscFault v t) := by
  refine SameDemands.raiseHold (h.trans ?_) _ _ _
  exact ⟨rfl, rfl, rfl, rfl, rfl⟩

theorem sameDemands_tscDryEntry {s t : State} (h : SameDemands s t) : SameDemands s (tscDryEntry t) := by
  unfold tscDryEntry tscDryStart
  split
  · exact h.trans ⟨rfl, rfl, rfl, rfl, rfl⟩
  · split
    · exact sameDemands_tscFault h 3
    · exact h.trans ⟨rfl, rfl, rfl, rfl, rfl⟩

theorem sameDemands_tscFromOff (s : State) : SameDemands s (tscFromOff s) := by
  unfold tscFromOff tscRamp
  split
  · exact ⟨rfl, rfl, rfl, rfl, rfl⟩
  · split
    · dsimp only
      split
      · exact sameDemands_tscFault ⟨rfl, rfl, rfl, rfl, rfl⟩ 2
      · exact sameDemands_tscDryEntry ⟨rfl, rfl, rfl, rfl, rfl⟩
    · exact ⟨rfl, rfl, rfl, rfl, rfl⟩

theorem sameDemands_tscFresh (s : State) : SameDemands s (tscFresh s) := by
  unfold tscFresh
  split
  · exact sameDemands_tscFromOff s
  · exact ⟨rfl, rfl, rfl, rfl, rfl⟩
  · exact ⟨rfl, rfl, rfl, rfl, rfl⟩
  · exact ⟨rfl, rfl, rfl, rfl, rfl⟩
  · exact ⟨rfl, rfl, rfl, rfl, rfl⟩
  · exact ⟨rfl, rfl, rfl, rfl, rfl⟩
  · split
    · exact ⟨rfl, rfl, rfl, rfl, rfl⟩
    · exact sameDemands_tscFromOff s

theorem sameDemands_tscOff (s : State) : SameDemands s (tscOff s) := by
  unfold tscOff
  (repeat' split) <;> exact ⟨rfl, rfl, rfl, rfl, rfl⟩

theorem sameDemands_setPressure (p : Nat) (s : State) : SameDemands { s with cu.setP := p } (setPressure p s) := by
  unfold setPressure
  split
  next h => exact ⟨rfl, rfl, rfl, h.symm, rfl⟩
  next h =>
    dsimp only
    split
    · exact ⟨rfl, rfl, rfl, rfl, rfl⟩
    · exact sameDemands_tscDryEntry ⟨rfl, rfl, rfl, rfl, rfl⟩
    · exact ⟨rfl, rfl, rfl, rfl, rfl⟩

/-- The demand that a field of a write leaves (R139). -/
def demanded (d : Dem) (old : Bool) : Bool :=
  match d with
  | .on => true
  | .off => false
  | .unchanged => old

theorem coolantWrite_spec (f t m : Dem) (p : Option Nat) (s : State) :
    SameDemands { s with
      cu.floodDem := demanded f s.cu.floodDem, cu.tscDem := demanded t s.cu.tscDem, cu.mistDem := demanded m s.cu.mistDem,
      cu.setP := (p.map fun v => max 100 (min 700 v)).getD s.cu.setP } (coolantWrite f t m p s) := by
  have hpress : SameDemands { s with cu.setP := (p.map fun v => max 100 (min 700 v)).getD s.cu.setP }
      (match p with
        | some v => setPressure (max 100 (min 700 v)) s
        | none => s) := by
    cases p with
    | some v => exact sameDemands_setPressure _ s
    | none => exact ⟨rfl, rfl, rfl, rfl, rfl⟩
  have hflood : ∀ u : State, SameDemands { u with cu.floodDem := demanded f u.cu.floodDem } (writeFlood f u) := fun u => by
    cases f with
    | on => exact sameDemands_floodFresh { u with cu.floodDem := true }
    | off => exact ⟨rfl, rfl, rfl, rfl, rfl⟩
    | unchanged => exact ⟨rfl, rfl, rfl, rfl, rfl⟩
  have htsc : ∀ u : State, SameDemands { u with cu.tscDem := demanded t u.cu.tscDem } (writeTsc t u) := fun u => by
    cases t with
    | on => exact sameDemands_tscFresh { u with cu.tscDem := true }
    | off => exact sameDemands_tscOff { u with cu.tscDem := false }
    | unchanged => exact ⟨rfl, rfl, rfl, rfl, rfl⟩
  have hmist : ∀ u : State, SameDemands { u with cu.mistDem := demanded m u.cu.mistDem } (writeMist m u) := fun u => by
    cases m <;> exact ⟨rfl, rfl, rfl, rfl, rfl⟩
  obtain ⟨w, hw, hpress⟩ : ∃ w, coolantWrite f t m p s = writeMist m (writeTsc t (writeFlood f w)) ∧
      SameDemands { s with cu.setP := (p.map fun v => max 100 (min 700 v)).getD s.cu.setP } w := ⟨_, rfl, hpress⟩
  rw [hw]
  have h1 := hflood w
  generalize writeFlood f w = x at h1
  have h2 := htsc x
  generalize writeTsc t x = y at h2
  have h3 := hmist y
  generalize writeMist m y = z at h3
  obtain ⟨p1, p2, p3, p4, p5⟩ := hpress
  obtain ⟨a1, a2, a3, a4, a5⟩ := h1
  obtain ⟨b1, b2, b3, b4, b5⟩ := h2
  obtain ⟨c1, c2, c3, c4, c5⟩ := h3
  dsimp only at p1 p2 p3 p4 p5 a1 a2 a3 a4 a5 b1 b2 b3 b4 b5 c1 c2 c3 c4 c5
  refine ⟨?_, ?_, ?_, ?_, ?_⟩
  · rw [c1, b1, a1, p1]
  · rw [c2, b2, a2, p2]
  · rw [c3, b3, a3, p3]
  · rw [c4, b4, a4, p4]
  · rw [c5, b5, a5, p5]

/-! ## COOLANT records (R21) -/

theorem coolantMet_iff (s : State) (f t : Dem) :
    coolantMet s f t = true ↔ (f = .on → s.cu.flood = .on) ∧ (t = .on → s.cu.tsc = .on) := by
  unfold coolantMet
  cases f <;> cases t <;> simp

theorem coolantRecord_step {q : Nat} {f t m : Dem} {p : Option Nat} {s : State}
    (hc : currentRec s = some ⟨q, .coolant f t m p true⟩) (hst : nonMoveRuns s = true ∨ s.sq.st = .held) :
    recordStep s = if coolantMet s f t = true then some (completeHead s) else none := by
  have hgo : (nonMoveRuns s || s.sq.st == .held) = true := by
    rcases hst with h | h
    · rw [h]; rfl
    · rw [h]; simp
  unfold recordStep
  rw [hc]
  dsimp only
  rw [hgo, Bool.true_and]

/-- Settles O45. -/
theorem coolantSetWritesDemands : Obligations.CoolantSetWritesDemands := by
  refine ⟨fun s tag h hfree hm => ⟨fun hoff hlevel hmin => ?prove, fun hc => ?off, fun on => ?mist, fun htsc hc => ?purge⟩,
    fun s q f t m p wait rs hrecs => ?record⟩
  case prove =>
    have hr := h.resting
    refine coolantSet_ends h hfree hm (f := 1) (t := 0) (m := 0) rfl rfl rfl
      (u := { s.cu with floodDem := true, flood := .proving, proveT := .start s.cu.p.floodProve }) ?_
      (hr.coolant (fun e => by rw [hmin] at e; cases e.2) hr.tsc ?_) tag
    · have hl : levelOk (linkCleared s) = true := hlevel
      show floodFresh { linkCleared s with cu.floodDem := true } = _
      unfold floodFresh
      have ho : (linkCleared s).cu.flood = .off := hoff
      dsimp only
      rw [ho]
      exact if_pos hl
    · unfold SameMet; rw [hoff]; exact ⟨rfl, rfl, rfl, rfl⟩
  case off =>
    have hr := h.resting
    exact coolantSet_ends h hfree hm (f := 2) (t := 0) (m := 0) rfl rfl rfl
      (u := { s.cu with floodDem := false, flood := .off, proveT := .stopped, floodDryT := .stopped }) rfl
      (hr.coolant_of_none hc (fun e => by cases e.1) hr.tsc) tag
  case mist =>
    have hr := h.resting
    cases on
    · exact coolantSet_ends h hfree hm (f := 0) (t := 0) (m := 2) rfl rfl rfl
        (u := { s.cu with mistDem := false }) rfl
        (hr.coolant hr.flood hr.tsc ⟨rfl, rfl, rfl, rfl⟩) tag
    · exact coolantSet_ends h hfree hm (f := 0) (t := 0) (m := 1) rfl rfl rfl
        (u := { s.cu with mistDem := true }) rfl
        (hr.coolant hr.flood hr.tsc ⟨rfl, rfl, rfl, rfl⟩) tag
  case purge =>
    have hr := h.resting
    refine coolantSet_ends h hfree hm (f := 0) (t := 2) (m := 0) rfl rfl rfl
      (u := { s.cu with
        tscDem := false, tsc := .purging, duty := 0, pump := false, window := 0, band := 0, rampT := .stopped,
        keepT := .stopped, tscDryT := .stopped, purgeT := .start s.cu.p.purgeTime }) ?_
      (hr.coolant_of_none hc hr.flood rfl) tag
    show tscOff { linkCleared s with cu.tscDem := false } = _
    have hpurge : tscOff { linkCleared s with cu.tscDem := false } = tscPurge { linkCleared s with cu.tscDem := false } := by
      unfold tscOff
      dsimp only
      have : (linkCleared s).cu.tsc = s.cu.tsc := rfl
      rw [this]
      rcases htsc with e | e | e | e <;> rw [e]
    rw [hpurge]
    rfl
  case record =>
    have hspec := coolantWrite_spec f t m p (headCurrent s)
    obtain ⟨w, hw⟩ : ∃ w, coolantWrite f t m p (headCurrent s) = w := ⟨_, rfl⟩
    have hdis : dispatchHead s = if wait then w else completeHead w := by
      unfold dispatchHead
      rw [hrecs, ← hw]
      rfl
    rw [hw] at hspec
    have hrecs' : w.sq.recs = s.sq.recs ∧ w.sq.current = true := by rw [hspec.sq]; exact ⟨rfl, rfl⟩
    have hcu : (dispatchHead s).cu = w.cu := by
      rw [hdis]
      split
      · rfl
      · exact (completeHead_keeps w).2.2.2.2
    dsimp only
    rw [hcu]
    refine ⟨⟨hspec.flood, hspec.tsc, hspec.mist, hspec.setP⟩, fun hf => ?_, fun ht => ?_, fun ht hrun => ?_⟩
    · rw [hdis, hf]
      exact completed_completeHead (r := ⟨q, .coolant f t m p wait⟩) (hrecs'.1.trans hrecs)
    · rw [hdis, ht]
      exact hrecs'
    · subst ht
      have hcur : s.sq.current = true := hrun.elim (fun e => e.2.1) (fun e => e.2.1)
      have hstep := coolantRecord_step (currentRec_of_cons hrecs hcur)
        (hrun.imp RunsRecord.nonMoveRuns fun e => e.2.2)
      refine ⟨fun hmet => ⟨completeHead s, queueRule_of_step ?_, completed_completeHead hrecs, (completeHead_keeps s).1,
        (completeHead_keeps s).2.2.2.2⟩, fun hmet hne => ?_⟩
      · rw [hstep, if_pos ((coolantMet_iff s f t).2 hmet)]
      · have hnone : recordStep s = none := by
          rw [hstep, if_neg (fun e => hmet ((coolantMet_iff s f t).1 e))]
        rcases hrun with hrun | hheld
        · exact hrun.queueRule_none hnone fun e => absurd e hne
        · unfold queueRule
          rw [hnone, hheld.2.2]

end Sys2Proof.Machine
end

section
/-! CLAIMS. Samples of the TSC pressure, fresh demands for TSC and writes of its set pressure (R147 to R149). -/

namespace Sys2Proof.Machine

/-! ## A conversion of A2 -/

/-- No comparator listens to A2: its conversion stores the sample and gives it to TSC. -/
theorem conversion_of_tsc {s : State} (h : s.am.next = 2) (counts : Nat) :
    conversion counts s = tscSample (scaleCounts s.am.chans[2] counts)
      { s with
        am.next := 3
        am.chans := s.am.chans.set 2
          { s.am.chans[2] with counts := counts, scaled := scaleCounts s.am.chans[2] counts } } := by
  have hcmps : channelCmps 2 = [] := by decide
  obtain ⟨pending, free, sq, pi, ax, cs, cc, hs, sgu, cu, pp, inp, ⟨next, chans, cmps⟩, cn, rq, hlp⟩ := s
  dsimp only at h
  subst h
  unfold conversion changedCmps
  dsimp only
  rw [hcmps, if_pos rfl]
  rfl

/-- A sample in RAMPING (R148). -/
theorem tscSample_ramping {s : State} (h : s.cu.tsc = .ramping) (P : Nat) :
    tscSample P s = { s with
      cu := if absDiff P s.cu.setP ≤ s.cu.p.window then
        if 8 ≤ s.cu.window + 1 then
          { s.cu with duty := nextDuty s.cu.p s.cu.duty P s.cu.setP, tsc := .on, window := 8, band := 0, rampT := .stopped }
        else { s.cu with duty := nextDuty s.cu.p s.cu.duty P s.cu.setP, window := s.cu.window + 1 }
      else { s.cu with duty := nextDuty s.cu.p s.cu.duty P s.cu.setP, window := 0 } } := by
  unfold tscSample
  rw [h]
  dsimp only
  (repeat' split) <;> rfl

/-- A sample in ON (R149). -/
theorem tscSample_on {s : State} (h : s.cu.tsc = .on) (P : Nat) :
    tscSample P s =
      if s.cu.p.faultBand < absDiff P s.cu.setP then
        if 8 ≤ s.cu.band + 1 then
          tscFault 1 { s with cu.duty := nextDuty s.cu.p s.cu.duty P s.cu.setP, cu.band := 8 }
        else { s with cu.duty := nextDuty s.cu.p s.cu.duty P s.cu.setP, cu.band := s.cu.band + 1 }
      else { s with cu.duty := nextDuty s.cu.p s.cu.duty P s.cu.setP, cu.band := 0 } := by
  unfold tscSample
  rw [h]

theorem absDiff_eq (a b : Nat) : absDiff a b = ((a : Int) - b).natAbs := by unfold absDiff; omega

/-- A fault with no record waiting on TSC carries seq 0 (R152). -/
theorem tscFault_of_none {s : State} (hc : currentRec s = none) (v : Int) :
    tscFault v s = raiseHold .tscPressureFault 0 v (tscFaultEntry s) := by
  unfold tscFault tscSeq
  rw [hc]

/-- A unit that flows on under its permit leaves a state at rest as it was. -/
theorem Resting.flows {s : State} (h : Resting s) (hc : currentRec s = none) (hp : permit s = true) {u : Coolant}
    (hpar : u.p = s.cu.p) (hf : u.flood = s.cu.flood) (ht : u.tsc = .ramping ∨ u.tsc = .on) :
    Resting { s with cu := u } := by
  have hp' : permit { s with cu := u } = true := by
    rw [← hp]; unfold permit; dsimp only; rw [hpar]; rfl
  refine h.coolant_of_none hc (by rw [hf]; exact h.flood) ?_
  unfold tscRests
  dsimp only
  rcases ht with e | e <;> rw [e] <;> exact hp'

/-! ## Fresh demands and set-pressure writes -/

theorem tscFresh_taken {s : State} (h : s.cu.tsc = .off ∨ (s.cu.tsc = .fault ∧ s.cu.purgeT.on = false)) :
    tscFresh s = tscFromOff s := by
  unfold tscFresh
  rcases h with e | ⟨e, hp⟩ <;> rw [e]
  dsimp only
  rw [if_neg (by rw [hp]; decide)]

theorem tscFresh_pending {s : State} (h : s.cu.tsc = .purging ∨ (s.cu.tsc = .fault ∧ s.cu.purgeT.on = true)) :
    tscFresh s = { s with cu.pendingOn := true } := by
  unfold tscFresh
  rcases h with e | ⟨e, hp⟩
  · rw [e]
  · rw [e]
    exact if_pos hp

theorem tscFresh_kept {s : State} (h : s.cu.tsc = .waitSpindle ∨ s.cu.tsc = .ramping ∨ s.cu.tsc = .on) :
    tscFresh s = s := by
  unfold tscFresh
  rcases h with e | e | e <;> rw [e]

theorem tscFromOff_blocked {s : State} (h : filterBlock s = true) : tscFromOff s = tscFaultEntry s := if_pos h

theorem tscFromOff_ramps {s : State} (h : filterBlock s = false) (hp : (permit s && levelOk s) = true)
    (ho : tscOverload s = false) : tscFromOff s = { s with
      cu.tsc := .ramping, cu.pump := true, cu.duty := s.cu.p.dutyStart, cu.window := 0,
      cu.rampT := .start s.cu.p.rampTime, cu.keepT := .stopped, cu.tscDryT := .stopped } := by
  have hl : levelOk s = true := by simp only [Bool.and_eq_true] at hp; exact hp.2
  unfold tscFromOff tscRamp
  rw [if_neg (by rw [h]; decide), if_pos hp]
  dsimp only
  rw [if_neg (by rw [ho]; decide)]
  exact if_pos hl

theorem tscFromOff_waits {s : State} (h : filterBlock s = false) (hp : (permit s && levelOk s) = false) :
    tscFromOff s = tscWait s := by
  unfold tscFromOff
  rw [if_neg (by rw [h]; decide), if_neg (by rw [hp]; decide)]

theorem setPressure_ramping {s : State} {p : Nat} (hne : p ≠ s.cu.setP) (h : s.cu.tsc = .ramping) :
    setPressure p s = { s with cu.setP := p, cu.window := 0, cu.rampT := .start s.cu.p.rampTime } := by
  unfold setPressure
  rw [if_neg hne, h]

theorem setPressure_on {s : State} {p : Nat} (hne : p ≠ s.cu.setP) (h : s.cu.tsc = .on) :
    setPressure p s = tscDryEntry { s with
      cu.setP := p, cu.tsc := .ramping, cu.window := 0, cu.band := 0, cu.rampT := .start s.cu.p.rampTime } := by
  unfold setPressure
  rw [if_neg hne, h]

theorem setPressure_still {s : State} {p : Nat} (hne : p ≠ s.cu.setP) (h1 : s.cu.tsc ≠ .ramping) (h2 : s.cu.tsc ≠ .on) :
    setPressure p s = { s with cu.setP := p } := by
  unfold setPressure
  rw [if_neg hne]
  dsimp only
  split
  next e => exact absurd e h1
  next e => exact absurd e h2
  next => rfl

/-- Settles O49. -/
theorem dutySteps : Obligations.DutySteps := by
  refine ⟨⟨fun p duty P S => ?step, fun P s h => ?still, fun P s h => ?ramping⟩,
    fun s counts h hc hnext hle => ?sample, fun s tag h hfree hm hc => ?writes⟩
  case step =>
    unfold nextDuty
    split_ifs <;> omega
  case still =>
    unfold tscFlows at h
    unfold tscSample
    cases e : s.cu.tsc <;> rw [e] at h <;> first | rfl | cases h
  case ramping =>
    rw [tscSample_ramping h]
    dsimp only
    (repeat' split) <;> rfl
  case sample =>
    intro P far duty
    have hmin : min 4095 counts = counts := by omega
    obtain ⟨w, hw⟩ : ∃ w : State, { s with
        am.next := 3
        am.chans := s.am.chans.set 2 { s.am.chans[2] with counts := counts, scaled := P } } = w := ⟨_, rfl⟩
    have hwcu : w.cu = s.cu := by rw [← hw]
    have hcur : currentRec w = none := by rw [← hw]; exact hc
    have hrest : Still w := by rw [← hw]; exact Resting.still { h.resting with } h.2
    have hconv : conversion counts s = tscSample P w := (conversion_of_tsc hnext counts).trans (by rw [hw])
    have hfin : ∀ u : Coolant, s.cu.tsc = .ramping ∨ s.cu.tsc = .on → u.p = s.cu.p → u.flood = s.cu.flood →
        u.tsc = .ramping ∨ u.tsc = .on → (finish { w with cu := u }).cu = u := fun u ht hp hf hu => by
      have hpermit : permit w = true :=
        hrest.1.permit (by unfold tscFlows; rw [hwcu]; rcases ht with e | e <;> rw [e] <;> rfl)
      have hrest' := hrest.resting.flows hcur hpermit (hp.trans (by rw [hwcu])) (hf.trans (by rw [hwcu])) hu
      rw [finish_still (Resting.still hrest' hrest.2), transmit_eq]
    have hfar : absDiff P s.cu.setP = far := absDiff_eq P s.cu.setP
    refine ⟨finish (conversion counts s), ?_, fun ht => ?_, fun ht hle => ?_, fun ht hlt hb => ?_, fun ht hlt hb => ?_⟩
    · show done (conversion (min 4095 counts) s) = _
      rw [hmin]; rfl
    · rw [hconv, tscSample_ramping (by rw [hwcu]; exact ht), hwcu, hfar]
      split
      · split
        · exact hfin _ (.inl ht) rfl rfl (.inr rfl)
        · exact hfin _ (.inl ht) rfl rfl (.inl ht)
      · exact hfin _ (.inl ht) rfl rfl (.inl ht)
    · rw [hconv, tscSample_on (by rw [hwcu]; exact ht), hwcu, hfar, if_neg (by omega)]
      exact hfin { s.cu with duty := duty, band := 0 } (.inr ht) rfl rfl (.inr ht)
    · rw [hconv, tscSample_on (by rw [hwcu]; exact ht), hwcu, hfar, if_pos hlt, if_neg (by omega)]
      exact hfin { s.cu with duty := duty, band := s.cu.band + 1 } (.inr ht) rfl rfl (.inr ht)
    · rw [hconv, tscSample_on (by rw [hwcu]; exact ht), hwcu, hfar, if_pos hlt, if_pos hb,
        tscFault_of_none (by exact hcur), ← hw]
      rfl
  case writes =>
    intro ends fresh flows
    have hr := h.resting
    have htsc := hr.tsc
    have hends : ∀ u : Coolant, tscFresh { linkCleared s with cu.tscDem := true } = { linkCleared s with cu := u } →
        Resting { s with cu := u } → ends { s with cu := u } fresh := fun u hw hu =>
      coolantSet_ends h hfree hm (f := 0) (t := 1) (m := 0) (p := none) rfl rfl rfl hw hu tag
    refine ⟨fun ht => ⟨fun hf => ?blocked, fun hf hfl ho => ?ramps, fun hf hfl => ?waits⟩, fun ht => ?pending, fun ht => ?kept,
      fun v => ?pressure⟩
    case blocked =>
      refine hends _ ?_ (hr.coolant_of_none hc hr.flood rfl)
      rw [tscFresh_taken (by exact ht), tscFromOff_blocked (by exact hf)]
      rfl
    case ramps =>
      refine hends _ ?_ (hr.coolant_of_none hc hr.flood ?_)
      · rw [tscFresh_taken (by exact ht), tscFromOff_ramps (by exact hf) (by exact hfl) (by exact ho)]
        rfl
      · exact (Bool.and_eq_true_iff.1 hfl).1
    case waits =>
      refine hends _ ?_ (hr.coolant_of_none hc hr.flood ?_)
      · rw [tscFresh_taken (by exact ht), tscFromOff_waits (by exact hf) (by exact hfl)]
        rfl
      · show (!(flows && !filterBlock s)) = true
        rw [hfl]
        rfl
    case pending =>
      have hrest : tscRests { s with cu.tscDem := true, cu.pendingOn := true } = true := by
        unfold tscRests
        dsimp only
        rcases ht with e | ⟨e, -⟩ <;> rw [e]
      refine hends _ ?_ (hr.coolant_of_none hc hr.flood hrest)
      exact tscFresh_pending (by exact ht)
    case kept =>
      have hrest : tscRests { s with cu.tscDem := true } = true := by
        unfold tscRests at htsc ⊢
        dsimp only
        rcases ht with e | e | e <;> rw [e] at htsc ⊢ <;> exact htsc
      refine hends _ ?_ (hr.coolant_of_none hc hr.flood hrest)
      exact tscFresh_kept (by exact ht)
    case pressure =>
      intro S write
      have hwends : ∀ u : Coolant, setPressure S (linkCleared s) = { linkCleared s with cu := u } →
          Resting { s with cu := u } → ends { s with cu := u } write := fun u hw hu =>
        coolantSet_ends h hfree hm (f := 0) (t := 0) (m := 0) (p := some v) rfl rfl rfl hw hu tag
      have hpermit : s.cu.tsc = .ramping ∨ s.cu.tsc = .on → permit s = true := fun ht =>
        h.1.permit (by unfold tscFlows; rcases ht with e | e <;> rw [e] <;> rfl)
      refine ⟨fun heq => ?_, fun hne ht => ?_, fun hne ht hl => ?_, fun hne ht hl hd => ?_, fun hne h1 h2 => ?_⟩
      · exact hwends s.cu (if_pos heq) hr
      · exact hwends _ (setPressure_ramping (by exact hne) (by exact ht))
          (hr.flows hc (hpermit (.inl ht)) rfl rfl (.inl ht))
      · refine hwends _ ?_ (hr.flows hc (hpermit (.inr ht)) rfl rfl (.inl rfl))
        exact (setPressure_on (by exact hne) (by exact ht)).trans (if_pos hl)
      · refine hwends _ ?_ (hr.flows hc (hpermit (.inr ht)) rfl rfl (.inl rfl))
        refine (setPressure_on (by exact hne) (by exact ht)).trans ((if_neg ?_).trans (if_neg ?_))
        · exact fun e => Bool.false_ne_true (hl.symm.trans e)
        · show ¬s.cu.p.dryTime = 0; omega
      · exact hwends _ (setPressure_still (by exact hne) (by exact h1) (by exact h2))
          (hr.coolant hr.flood htsc ⟨rfl, rfl, rfl, rfl⟩)

end Sys2Proof.Machine
end

section
/-! SUPPORT/CLAIMS. RESET_TRIP (R201): the closing rules that a machine made READY wakes are those of the clamps and the
supply. Their effect is followed by an invariant of the states that they lead through. -/

namespace Sys2Proof.Machine

theorem or_eq_some {α : Type} {a b : Option α} {v : α} : (a <|> b) = some v ↔ a = some v ∨ (a = none ∧ b = some v) := by
  cases a with
  | none => simp
  | some w => simp

/-- What the clamps and the supply of a tripped machine show when it is made READY. -/
structure Rearms (s : State) : Prop where
  rests : Resting s
  idle : s.sq.st = .idle
  phase : ∀ a, (s.ax.get a).phase = .none
  owner : ∀ a, (s.ax.get a).owner ≠ .pendant
  never : NeverInv s
  free : ReleasedFree s
  still : ∀ c, (s.cc.get c).st = .clamped ∨ (s.cc.get c).st = .clamping ∨ (s.cc.get c).st = .released ∨
    (s.cc.get c).st = .fault
  low : rawOf s .hydPressureLow = false

/-- A kept follow-on RELEASE of a CLAMPED axis (R104). -/
def FollowKept (n : Clamp) : Prop := n.st = .clamped ∧ n.follow = .release

/-- Between free and clamped, with the clamped sensor off. -/
def FreeSide (s : State) (c : ClampAxis) (n : Clamp) : Prop :=
  clampedSensor s c = false ∧ (n.st = .released ∨ n.st = .clampWait ∨ n.st = .clamping)

/-- A clamp that the closing rules have moved: one released by its kept follow-on, or one RELEASED that idles. -/
def Moved (s : State) (c : ClampAxis) (n : Clamp) : Prop :=
  (s.cc.get c).policy ≠ .never ∧
    ((FollowKept (s.cc.get c) ∧ n.follow = .none ∧ (n.st = .releaseWait ∨ n.st = .releasing ∨ FreeSide s c n)) ∨
      ((s.cc.get c).st = .released ∧ FreeSide s c n))

theorem Moved.st_ne {s : State} {c : ClampAxis} {n : Clamp} (h : Moved s c n) : n.st ≠ .clamped := by
  rcases h.2 with ⟨-, -, e | e | e⟩ | ⟨-, e⟩
  · rw [e]; decide
  · rw [e]; decide
  · rcases e.2 with e | e | e <;> rw [e] <;> decide
  · rcases e.2 with e | e | e <;> rw [e] <;> decide

/-- The states that the closing rules of a RESET_TRIP lead through. -/
structure Rearmed (s u : State) : Prop where
  same : u = { s with cn.machine := .ready, hlp := u.hlp, cc := u.cc, hs := u.hs }
  clamp : ∀ c, u.cc.get c = s.cc.get c ∨ Moved s c (u.cc.get c)
  fifo : ∀ q ∈ u.hs.fifo, ∃ c, q.who = .axis c
  work : u.hs.fifo ≠ [] ∨ u.hs.holder ≠ none ∨ u.hs.st ≠ .pumpOff → ∃ c, (u.cc.get c).st ≠ .clamped
  asked : u.hs.st ≠ .pumpOff → ∀ c, ¬FollowKept (u.cc.get c)

/-- Only the clamps and the supply have closing rules that apply. -/
theorem Rearmed.rules_cases {s u v : State} (hs : Rearms s) (h : Rearmed s u) (hv : rules u = some v) :
    grantRule u = some v ∨ (∃ c, clampRule u c = some v) ∨
      ((∀ c, clampRule u c = none) ∧ (pumpRule u = some v ∨ supplyRule u = some v)) := by
  have hr := hs.rests
  have hrec : recordRests u = true := by
    have hcur : currentRec u = currentRec s := by rw [h.same]; rfl
    have hst : u.sq.st = .idle := by rw [h.same]; exact hs.idle
    have hnm : nonMoveRuns u = false := by unfold nonMoveRuns; rw [hst]; rfl
    unfold recordRests
    rw [hnm, hst]
    split <;> simp
  have e1 : engagedRule u = none := (engagedRule_none u).2 (by rw [h.same]; exact hr.engaged)
  have e2 : levelRule .gearPositionLost (gearLostCause u) u.sgu.lostRange u = none :=
    (levelRule_none _ _ _ u).2 (by rw [h.same]; exact hr.lost)
  have e3 : levelRule .gearOilLow (oilLowCause u) u.sgu.sAct u = none :=
    (levelRule_none _ _ _ u).2 (by rw [h.same]; exact hr.oil)
  have e4 : overloadRule u = none := (overloadRule_none u).2 (by rw [h.same]; exact hr.overload)
  have e5 : spindleRule u = none := (spindleRule_none u).2 (by rw [h.same]; exact hr.spindle)
  have e6 : shiftRule u = none := (shiftRule_none u).2 (by rw [h.same]; exact hr.shift)
  have e7 : floodRule u = none := (floodRule_none u).2 (by rw [h.same]; exact hr.flood)
  have e8 : tscRule u = none := (tscRule_none u).2 (by rw [h.same]; exact hr.tsc)
  have e9 : ∀ a, homeRule u a = none := fun a => (homeRule_none u a).2 (by
    have : (u.ax.get a).phase = .none := by rw [h.same]; exact hs.phase a
    unfold homeRests
    rw [this])
  have e10 : ∀ a, giveBackRule u a = none := fun a => (giveBackRule_none u a).2 fun e =>
    hs.owner a (by rw [h.same] at e; exact e.1)
  have e11 : queueRule u = none := (queueRule_none u).2 ⟨hrec, by
    have hst : u.sq.st = .idle := by rw [h.same]; exact hs.idle
    unfold queueRests
    rw [hst]⟩
  have e12 : machineRule u = none := (machineRule_none u).2 fun e => by
    rw [h.same] at e
    exact (nomatch e.1)
  unfold rules at hv
  simp only [or_eq_some, e1, e2, e3, e4, e5, e6, e7, e8, e9, e10, e11, e12, reduceCtorEq, false_or, or_false,
    and_false, true_and] at hv
  rcases hv with e | ⟨-, e⟩
  · exact .inl e
  rcases e with e | ⟨hx, e⟩
  · exact .inr (.inl ⟨_, e⟩)
  rcases e with e | ⟨hy, e⟩
  · exact .inr (.inl ⟨_, e⟩)
  rcases e with e | ⟨hz, e⟩
  · exact .inr (.inl ⟨_, e⟩)
  rcases e with e | ⟨hb, e⟩
  · exact .inr (.inl ⟨_, e⟩)
  exact .inr (.inr ⟨fun c => by cases c <;> assumption, e.imp id fun e => e.2⟩)

/-- A clamp that is not CLAMPED keeps its place. -/
theorem Rearmed.st_ne {s u : State} (h : Rearmed s u) {c : ClampAxis} (hc : (s.cc.get c).st ≠ .clamped) :
    (u.cc.get c).st ≠ .clamped := by
  rcases h.clamp c with e | e
  · rw [e]; exact hc
  · exact e.st_ne

/-- One clamp moves, and HS queues at most its request and gives or takes at most one grant. -/
theorem Rearmed.move {s u v : State} (h : Rearmed s u) (c : ClampAxis) {f : Clamp → Clamp} {y : Hyd}
    (hv : v = { u with cc := u.cc.upd c f, hs := y }) (hn : Moved s c (f (u.cc.get c))) (hst : y.st = u.hs.st)
    (hfifo : ∀ q ∈ y.fifo, q ∈ u.hs.fifo ∨ q.who = .axis c) : Rearmed s v := by
  have hcc : v.cc = u.cc.upd c f := by rw [hv]
  have hhs : v.hs = y := by rw [hv]
  have hself : v.cc.get c = f (u.cc.get c) := by rw [hcc, PerClamp.get_upd, if_pos rfl]
  have hother : ∀ d, d ≠ c → v.cc.get d = u.cc.get d := fun d hd => by
    rw [hcc, PerClamp.get_upd, if_neg hd.symm]
  refine ⟨?_, fun d => ?_, fun q hq => ?_, fun _ => ⟨c, ?_⟩, fun hon d => ?_⟩
  · rw [hv, h.same]
  · by_cases e : d = c
    · subst e; rw [hself]; exact .inr hn
    · rw [hother d e]; exact h.clamp d
  · rw [hhs] at hq
    rcases hfifo q hq with e | e
    · exact h.fifo q e
    · exact ⟨c, e⟩
  · rw [hself]; exact hn.st_ne
  · by_cases e : d = c
    · subst e; rw [hself]; exact fun e => hn.st_ne e.1
    · rw [hother d e]
      exact h.asked (by rw [hhs, hst] at hon; exact hon) d

/-- A step of HS alone. -/
theorem Rearmed.supply {s u v : State} (h : Rearmed s u) {y : Hyd} (hv : v = { u with hs := y })
    (hfifo : ∀ q ∈ y.fifo, q ∈ u.hs.fifo) (hwork : ∃ c, (u.cc.get c).st ≠ .clamped)
    (hasked : y.st ≠ .pumpOff → ∀ c, ¬FollowKept (u.cc.get c)) : Rearmed s v := by
  subst hv
  refine ⟨?_, h.clamp, fun q hq => h.fifo q (hfifo q hq), fun _ => hwork, hasked⟩
  have := h.same
  rw [this]

/-! ## Each closing rule -/

/-- How many clamp rules can still apply to a clamp state while no grant is given. -/
def stateRank : ClampState → Nat
  | .releasing => 6
  | .clamped | .released => 4
  | _ => 0

/-- How many clamp rules can still apply to a clamp while no grant is given. -/
def clampRank (n : Clamp) : Nat := stateRank n.st + if n.idle = 0 then 0 else 1

/-- A clamp in one of the states between is one that has moved. -/
theorem Rearmed.moved {s u : State} (hs : Rearms s) (h : Rearmed s u) {c : ClampAxis}
    (hst : (u.cc.get c).st = .releaseWait ∨ (u.cc.get c).st = .releasing ∨ (u.cc.get c).st = .clampWait) :
    Moved s c (u.cc.get c) := by
  rcases h.clamp c with e | e
  · have := hs.still c
    rw [e] at hst
    rcases this with e | e | e | e <;> rw [e] at hst <;> simp at hst
  · exact e

theorem Rearmed.grant {s u v : State} (hs : Rearms s) (h : Rearmed s u) (hv : grantRule u = some v) :
    Rearmed s v ∧ v.hs.st = u.hs.st ∧ u.hs.st = .ready := by
  unfold grantRule at hv
  split at hv
  next r rs hst hholder hfifo =>
    have hne : ¬u.cn.machine = .tripped := by rw [h.same]; exact fun e => (nomatch e)
    rw [if_neg hne] at hv
    obtain ⟨c, hc⟩ := h.fifo r (by rw [hfifo]; exact List.mem_cons_self)
    dsimp only at hv
    rw [hc] at hv
    have hv' : v = startClampOp c { u with hs.holder := some r, hs.fifo := rs } := (Option.some.inj hv).symm
    have hsub : ∀ q ∈ rs, q ∈ u.hs.fifo := fun q hq => by rw [hfifo]; exact List.mem_cons_of_mem _ hq
    have hon : u.hs.st ≠ .pumpOff := by rw [hst]; decide
    unfold startClampOp at hv'
    split at hv'
    next hw =>
      have hw : (u.cc.get c).st = .releaseWait := hw
      refine ⟨h.move c hv' ?_ rfl (fun q hq => .inl (hsub q hq)), by rw [hv']; rfl, hst⟩
      obtain ⟨hp, ⟨hk, hf, -⟩ | ⟨-, -, hfree⟩⟩ := h.moved hs (.inl hw)
      · exact ⟨hp, .inl ⟨hk, hf, .inr (.inl rfl)⟩⟩
      · rw [hw] at hfree; simp at hfree
    next hw =>
      have hw : (u.cc.get c).st = .clampWait := hw
      refine ⟨h.move c hv' ?_ rfl (fun q hq => .inl (hsub q hq)), by rw [hv']; rfl, hst⟩
      obtain ⟨hp, ⟨hk, hf, hfree⟩ | ⟨hk, hfree⟩⟩ := h.moved hs (.inr (.inr hw))
      · rw [hw] at hfree
        refine ⟨hp, .inl ⟨hk, hf, .inr (.inr ⟨?_, .inr (.inr rfl)⟩)⟩⟩
        rcases hfree with e | e | e
        · cases e
        · cases e
        · exact e.1
      · exact ⟨hp, .inr ⟨hk, hfree.1, .inr (.inr rfl)⟩⟩
    next =>
      exact ⟨h.supply hv' hsub (h.work (.inr (.inr hon))) (fun _ => h.asked hon), by rw [hv'], hst⟩
  next => cases hv

theorem updClamp_get_self (c : ClampAxis) (f : Clamp → Clamp) (s : State) :
    (updClamp c f s).cc.get c = f (s.cc.get c) := by
  show (s.cc.upd c f).get c = _
  rw [PerClamp.get_upd, if_pos rfl]

theorem hydReturn_eq (w : Requester) (s : State) :
    ∃ y : Hyd, hydReturn w s = { s with hs := y } ∧ y.st = s.hs.st ∧ y.fifo = s.hs.fifo := by
  unfold hydReturn
  (repeat' split) <;> exact ⟨_, rfl, rfl, rfl⟩

theorem Rearmed.clampStep {s u v : State} (hs : Rearms s) (h : Rearmed s u) (c : ClampAxis)
    (hv : clampRule u c = some v) :
    Rearmed s v ∧ v.hs.st = u.hs.st ∧ clampRank (v.cc.get c) < clampRank (u.cc.get c) ∧
      ∀ d, d ≠ c → v.cc.get d = u.cc.get d := by
  have hm : u.cn.machine = .ready := by rw [h.same]
  have hsensor : clampedSensor u c = clampedSensor s c := by rw [h.same]; rfl
  obtain ⟨-, rclamp, -, -, ridle⟩ := hs.rests.clamp c
  have hend : ∀ (f : Clamp → Clamp) (y : Hyd), v = { u with cc := u.cc.upd c f, hs := y } →
      Moved s c (f (u.cc.get c)) → y.st = u.hs.st → (∀ q ∈ y.fifo, q ∈ u.hs.fifo ∨ q.who = .axis c) →
      clampRank (f (u.cc.get c)) < clampRank (u.cc.get c) → Rearmed s v ∧ v.hs.st = u.hs.st ∧
      clampRank (v.cc.get c) < clampRank (u.cc.get c) ∧ ∀ d, d ≠ c → v.cc.get d = u.cc.get d :=
    fun f y hv hn hst hfifo hrank => by
      refine ⟨h.move c hv hn hst hfifo, by rw [hv]; exact hst, ?_, fun d hd => ?_⟩
      · rw [hv]; dsimp only; rw [PerClamp.get_upd, if_pos rfl]; exact hrank
      · rw [hv]; dsimp only; rw [PerClamp.get_upd, if_neg hd.symm]
  unfold clampRule at hv
  dsimp only at hv
  split at hv
  next hmet =>
    have hmet' : (u.cc.get c).st = .releasing ∧ clampedSensor u c = false := by
      unfold releaseMet at hmet
      simp only [Bool.and_eq_true, beq_iff_eq, Bool.not_eq_true'] at hmet
      exact ⟨hmet.1.1, hmet.2⟩
    obtain ⟨hp, ⟨hk, hf, -⟩ | ⟨-, -, hfree⟩⟩ := h.moved hs (.inr (.inl hmet'.1))
    · obtain ⟨y, hy, hyst, hyfifo⟩ := hydReturn_eq (.axis c)
        (updClamp c (fun k => { k with st := .released, idle := 0, op := .stopped }) u)
      have hv' : v = { u with cc := u.cc.upd c (fun k => { k with st := .released, idle := 0, op := .stopped }), hs := y } := by
        rw [← Option.some.inj hv]
        unfold releaseDone
        rw [hf]
        exact (if_neg (fun e => (nomatch e))).trans hy
      refine hend _ y hv' ⟨hp, .inl ⟨hk, hf, .inr (.inr ⟨hsensor ▸ hmet'.2, .inl rfl⟩)⟩⟩ hyst
        (fun q hq => .inl (by rw [hyfifo] at hq; exact hq)) ?_
      show 4 + 0 < clampRank (u.cc.get c)
      unfold clampRank
      rw [hmet'.1]
      exact Nat.lt_add_right _ (by decide)
    · rw [hmet'.1] at hfree; simp at hfree
  next =>
  split at hv
  next hmet =>
    exfalso
    have hmet' : (u.cc.get c).st = .clamping ∧ clampedSensor s c = true := by
      unfold clampMet at hmet
      simp only [Bool.and_eq_true, beq_iff_eq] at hmet
      exact ⟨hmet.1, hsensor ▸ hmet.2⟩
    rcases h.clamp c with e | e
    · unfold clampMet at rclamp
      rw [← e, hmet'.1, hmet'.2] at rclamp
      cases rclamp
    · rcases e.2 with ⟨-, -, e | e | e⟩ | ⟨-, e⟩
      · rw [hmet'.1] at e; cases e
      · rw [hmet'.1] at e; cases e
      · exact Bool.false_ne_true (e.1.symm.trans hmet'.2)
      · exact Bool.false_ne_true (e.1.symm.trans hmet'.2)
  next =>
  split at hv
  next hfol =>
    obtain ⟨-, hst, hfollow⟩ := hfol
    have hk : u.cc.get c = s.cc.get c := (h.clamp c).resolve_right fun e => e.st_ne hst
    have hp : (s.cc.get c).policy ≠ .never := fun e => by
      have := hs.never c e
      rw [← hk, hst] at this
      cases this
    have hneed := releaseNeed_clamped (s := updClamp c (fun k => { k with follow := .none }) u) (c := c)
      (by show u.cn.machine ≠ _; rw [hm]; decide) (by rw [updClamp_get_self, hk]; exact hp)
      (by rw [updClamp_get_self]; exact hst)
    have hv' : v = { u with
        cc := u.cc.upd c fun k => { k with follow := .none, st := .releaseWait }
        hs.fifo := u.hs.fifo ++ [⟨.axis c, .release⟩] } := by
      rw [← Option.some.inj hv, hneed]
      have := PerClamp.upd_upd u.cc c (fun k => { k with follow := .none }) (fun k => { k with st := .releaseWait })
      exact congrArg (fun x => { u with cc := x, hs.fifo := u.hs.fifo ++ [(⟨.axis c, .release⟩ : HydReq)] }) this
    refine hend _ _ hv' ⟨hp, .inl ⟨⟨hk ▸ hst, hk ▸ hfollow⟩, rfl, .inl rfl⟩⟩ rfl
      (fun q hq => (List.mem_append.1 hq).imp id fun e => by rw [List.mem_singleton.1 e]) ?_
    show 0 + (if (u.cc.get c).idle = 0 then 0 else 1) < stateRank (u.cc.get c).st + _
    rw [hst]
    exact Nat.add_lt_add_right (by decide) _
  next =>
  split at hv
  next hidle =>
    obtain ⟨hruns, -, -⟩ := hidle
    unfold idleRuns at hruns
    simp only [Bool.and_eq_true, beq_iff_eq] at hruns
    obtain ⟨⟨hst, hpol⟩, -⟩ := hruns
    have hneed := clampNeed_released (s := updClamp c (fun k => { k with idle := 0 }) u) (c := c)
      (by show u.cn.machine ≠ _; rw [hm]; decide) (by rw [updClamp_get_self]; show (u.cc.get c).policy ≠ _; rw [hpol]; decide)
      (by rw [updClamp_get_self]; exact hst)
    have hv' : v = { u with
        cc := u.cc.upd c fun k => { k with st := .clampWait, fromFault := false, idle := 0 }
        hs.fifo := u.hs.fifo ++ [⟨.axis c, .clamp⟩] } := by
      rw [← Option.some.inj hv, hneed]
      have := PerClamp.upd_upd u.cc c (fun k => { k with idle := 0 })
        (fun k => { k with st := .clampWait, fromFault := false, idle := 0 })
      exact congrArg (fun x => { u with cc := x, hs.fifo := u.hs.fifo ++ [(⟨.axis c, .clamp⟩ : HydReq)] }) this
    refine hend _ _ hv' ?_ rfl
      (fun q hq => (List.mem_append.1 hq).imp id fun e => by rw [List.mem_singleton.1 e]) ?_
    · have hmoved : Moved s c (u.cc.get c) := by
        rcases h.clamp c with e | e
        · have hp : (s.cc.get c).policy ≠ .never := by rw [← e, hpol]; decide
          have hst' : (s.cc.get c).st = .released := e ▸ hst
          exact ⟨hp, .inr ⟨hst', hs.free c hp (.inl hst'), .inl hst⟩⟩
        · exact e
      obtain ⟨hp, ⟨hk, hf, hw⟩ | ⟨hk, hfree⟩⟩ := hmoved
      · rw [hst] at hw
        rcases hw with e | e | e
        · cases e
        · cases e
        · exact ⟨hp, .inl ⟨hk, hf, .inr (.inr ⟨e.1, .inr (.inl rfl)⟩)⟩⟩
      · exact ⟨hp, .inr ⟨hk, hfree.1, .inr (.inl rfl)⟩⟩
    · show 0 + 0 < clampRank (u.cc.get c)
      unfold clampRank
      rw [hst]
      exact Nat.lt_add_right _ (by decide)
  next =>
  split at hv
  next hidle =>
    obtain ⟨hruns, hne⟩ := hidle
    have hmoved : Moved s c (u.cc.get c) := by
      rcases h.clamp c with e | e
      · have : idleRuns u c = idleRuns s c := by
          unfold idleRuns
          rw [e, h.same]
        rw [this, Bool.not_eq_true'] at hruns
        rw [e] at hne
        exact absurd (ridle hruns) hne
      · exact e
    refine hend (fun k => { k with idle := 0 }) u.hs (Option.some.inj hv).symm hmoved rfl (fun q hq => .inl hq) ?_
    show stateRank (u.cc.get c).st + 0 < stateRank (u.cc.get c).st + _
    rw [if_neg hne]
    omega
  next => cases hv

/-- The pump is demanded once it runs or an axis is asked for. -/
theorem Rearmed.pumpDemand {u : State} (hwork : ∃ c, (u.cc.get c).st ≠ .clamped) : pumpDemand u = true := by
  obtain ⟨c, hc⟩ := hwork
  have : (allClamps.any fun c => (u.cc.get c).st != .clamped) = true :=
    List.any_eq_true.2 ⟨c, by cases c <;> decide, by simpa using hc⟩
  unfold Machine.pumpDemand
  rw [this, Bool.or_true]

theorem Rearmed.pump {s u v : State} (h : Rearmed s u) (hc : ∀ c, clampRule u c = none)
    (hv : pumpRule u = some v) : Rearmed s v ∧ v.hs.st ≠ .pumpOff := by
  have hasked : ∀ c, ¬FollowKept (u.cc.get c) := fun c hk =>
    ((clampRule_none u c).1 (hc c)).2.2.1 ⟨by rw [h.same], hk⟩
  unfold pumpRule at hv
  split at hv
  next hoff =>
    split at hv
    next hd =>
      have hwork : ∃ c, (u.cc.get c).st ≠ .clamped := by
        have hdem := hd.2
        unfold Machine.pumpDemand at hdem
        simp only [Bool.or_eq_true, Bool.not_eq_true', List.any_eq_true, bne_iff_ne] at hdem
        rcases hdem with (e | e) | ⟨c, -, e⟩
        · exact h.work (.inl fun e' => by rw [e'] at e; cases e)
        · exact h.work (.inr (.inl fun e' => by rw [e'] at e; cases e))
        · exact ⟨c, e⟩
      have hv' := (Option.some.inj hv).symm
      exact ⟨h.supply hv' (fun _ hq => hq) hwork fun _ => hasked, by rw [hv']; exact fun e => (nomatch e)⟩
    next => cases hv
  next hon =>
    have hwork := h.work (.inr (.inr hon))
    rw [if_pos (Rearmed.pumpDemand hwork)] at hv
    split at hv
    next =>
      have hv' := (Option.some.inj hv).symm
      exact ⟨h.supply hv' (fun _ hq => hq) hwork fun _ => hasked, by rw [hv']; exact hon⟩
    next => cases hv

theorem Rearmed.ready {s u v : State} (hs : Rearms s) (h : Rearmed s u) (hv : supplyRule u = some v) :
    Rearmed s v ∧ v.hs.st ≠ .pumpOff ∧ u.hs.st ≠ .pumpOff := by
  unfold supplyRule at hv
  split at hv
  next hd =>
    have hon : u.hs.st ≠ .pumpOff := by rcases hd.1 with e | e <;> rw [e] <;> decide
    have hraw : rawOf { u with hs.st := .ready, hs.startT := .stopped } .hydPressureLow = false := by
      rw [h.same]; exact hs.low
    have hv' : v = { u with hs.st := .ready, hs.startT := .stopped } :=
      (Option.some.inj hv).symm.trans (if_neg (by rw [hraw]; decide))
    exact ⟨h.supply hv' (fun _ hq => hq) (h.work (.inr (.inr hon))) (fun _ => h.asked hon),
      by rw [hv']; exact fun e => (nomatch e), hon⟩
  next => cases hv

/-! ## The closing rules together -/

/-- The ranks of the four clamps. -/
def clampRanks (u : State) : Nat :=
  clampRank (u.cc.get .x) + clampRank (u.cc.get .y) + clampRank (u.cc.get .z) + clampRank (u.cc.get .b)

theorem clampRanks_lt {u v : State} (c : ClampAxis) (h : clampRank (v.cc.get c) < clampRank (u.cc.get c))
    (ho : ∀ d, d ≠ c → v.cc.get d = u.cc.get d) : clampRanks v < clampRanks u := by
  have hle : ∀ d, clampRank (v.cc.get d) ≤ clampRank (u.cc.get d) := fun d => by
    by_cases e : d = c
    · rw [e]; exact h.le
    · rw [ho d e]
  have hx := hle .x
  have hy := hle .y
  have hz := hle .z
  have hb := hle .b
  unfold clampRanks
  cases c <;> omega

/-- With fuel for the clamps' steps before the pump starts, the closing rules lead to a state in which the pump runs or
none applies. -/
theorem Rearmed.settle {s : State} (hs : Rearms s) (n : Nat) {u : State} (h : Rearmed s u)
    (hfuel : u.hs.st = .pumpOff → clampRanks u < n) :
    Rearmed s (settle n u) ∧ ((Machine.settle n u).hs.st ≠ .pumpOff ∨ rules (Machine.settle n u) = none) := by
  induction n generalizing u with
  | zero => exact ⟨h, .inl fun e => absurd (hfuel e) (by omega)⟩
  | succ n ih =>
    unfold Machine.settle
    cases hv : rules u with
    | none => exact ⟨h, .inr hv⟩
    | some v =>
      dsimp only
      rcases h.rules_cases hs hv with hg | ⟨c, hc⟩ | ⟨hnone, hp | hr⟩
      · obtain ⟨h', hst, hon⟩ := h.grant hs hg
        exact ih h' fun e => by rw [hst, hon] at e; cases e
      · obtain ⟨h', hst, hrank, hother⟩ := h.clampStep hs c hc
        have := clampRanks_lt c hrank hother
        exact ih h' fun e => by
          have := hfuel (hst ▸ e)
          omega
      · obtain ⟨h', hon⟩ := h.pump hnone hp
        exact ih h' fun e => absurd e hon
      · obtain ⟨h', hon, -⟩ := h.ready hs hr
        exact ih h' fun e => absurd e hon

/-- What the clamps and the pump show where the closing rules have run (R101, R104). -/
theorem Rearmed.settled {s t : State} (hs : Rearms s) (h : Rearmed s t) (hend : t.hs.st ≠ .pumpOff ∨ rules t = none)
    (c : ClampAxis) :
    ((s.cc.get c).policy = .never → valveOn t c = true) ∧
      ((s.cc.get c).st = .clamped → (s.cc.get c).follow = .none → t.cc.get c = s.cc.get c) ∧
      ((s.cc.get c).st = .clamped → (s.cc.get c).follow = .release → (s.cc.get c).policy ≠ .never →
        (t.cc.get c).st ≠ .clamped ∧ (t.cc.get c).follow = .none ∧ contactorOn t = true) ∧
      ((s.cc.get c).st ≠ .clamped → contactorOn t = true) := by
  have hm : t.cn.machine = .ready := by rw [h.same]
  have hon : (∃ d, (t.cc.get d).st ≠ .clamped) → contactorOn t = true := fun hw => by
    have hst : t.hs.st ≠ .pumpOff := by
      rcases hend with e | e
      · exact e
      · intro hoff
        have hrest : pumpRests t = true := ((calm_iff t).1 e).pump
        unfold pumpRests at hrest
        rw [hoff, hm, Rearmed.pumpDemand hw] at hrest
        cases hrest
    unfold contactorOn
    simpa using hst
  have hkept : ¬FollowKept (t.cc.get c) := by
    rcases hend with e | e
    · exact h.asked e c
    · exact fun hk => ((calm_iff t).1 e).clamp c |>.2.2.1 ⟨hm, hk⟩
  refine ⟨fun hn => ?_, fun h1 h2 => ?_, fun h1 h2 h3 => ?_, fun hne => hon ⟨c, h.st_ne hne⟩⟩
  · have hk : t.cc.get c = s.cc.get c := (h.clamp c).resolve_right fun e => e.1 hn
    have hst : (t.cc.get c).st = .released := by rw [hk]; exact hs.never c hn
    unfold valveOn
    dsimp only
    rw [hst, hm]
    rfl
  · refine (h.clamp c).resolve_right fun e => ?_
    rcases e.2 with ⟨hk, -⟩ | ⟨hst, -⟩
    · rw [hk.2] at h2; cases h2
    · rw [h1] at hst; cases hst
  · rcases h.clamp c with e | e
    · exact absurd ⟨e ▸ h1, e ▸ h2⟩ hkept
    · refine ⟨e.st_ne, ?_, hon ⟨c, e.st_ne⟩⟩
      rcases e.2 with ⟨-, hf, -⟩ | ⟨hst, -⟩
      · exact hf
      · rw [h1] at hst; cases hst

/-! ## RESET_TRIP -/

theorem serve_resetTrip {s : State} (hm : s.cn.machine = .tripped) (he : rawOf s .estopOpen = false)
    (hd : rawOf s .drivesNotReady = false) :
    serve .resetTrip (linkCleared s) = (⟨.ok, []⟩, linkCleared { s with cn.machine := .ready }) := by
  show serveResetTrip (linkCleared s) = _
  unfold serveResetTrip
  rw [if_neg (by exact fun e => e hm), if_neg (by
    show ¬((rawOf s .estopOpen || rawOf s .drivesNotReady) = true)
    rw [he, hd]; decide)]
  rfl

/-- Settles O18: the first part leaves a state at rest, the second follows `Rearmed` through the closing rules. -/
theorem resetTripMakesReady : Obligations.ResetTripMakesReady := by
  refine ⟨fun s tag h hfree hm he hd hcl hoff hfifo hholder howner => ?still,
    fun s tag h hfree hm he hd hoffs haxes hnever hrel hfifo hholder hlow => ?moved⟩
  case still =>
    refine exec_taken (c := .resetTrip tag) (r := .resetTrip) rfl hfree (serve_resetTrip hm he hd)
      (Resting.still ?_ h.2)
    have hr := h.resting
    have hdem : pumpDemand { s with cn.machine := .ready } = false := by
      unfold pumpDemand
      dsimp only
      rw [hfifo, hholder]
      simp [fun c => (hcl c).1]
    refine { hr with
      grant := fun e => e.2.2.1 hfifo
      clamp := fun c => ⟨(hr.clamp c).1, (hr.clamp c).2.1, fun e => ?_, fun e => ?_, (hr.clamp c).2.2.2.2⟩
      giveBack := fun a e => ?_
      pump := ?_
      machine := fun e => (nomatch e.1) }
    · have := e.2.2
      rw [show _ = Follow.none from (hcl c).2] at this
      cases this
    · have := e.1
      unfold idleRuns at this
      rw [show _ = ClampState.clamped from (hcl c).1] at this
      cases this
    · exact absurd e.1 (not_owner howner a)
    · unfold pumpRests
      rw [hdem]
      show (match s.hs.st with
        | .pumpOff => _
        | _ => _) = true
      rw [hoff]
      rfl
  case moved =>
    obtain ⟨hidle, -, -, -, -, -, -, hcu, hpump, hstates⟩ := hoffs hm
    have hs : Rearms s := ⟨h.resting, hidle, fun a => (haxes hm a).1, fun a => (haxes hm a).2.2, hnever, hrel, hstates, hlow⟩
    obtain ⟨r, hr⟩ : ∃ r : State, replied 0x04 tag ⟨.ok, []⟩ { s with cn.machine := .ready } = r := ⟨_, rfl⟩
    have hexec : exec (.resetTrip tag) s = .next (finish r) := by
      rw [← hr]
      exact exec_taken_finish (c := .resetTrip tag) (r := .resetTrip) rfl hfree (serve_resetTrip hm he hd)
    have hcc : r.cc = s.cc := by rw [← hr]; rfl
    have hhs : r.hs = s.hs := by rw [← hr]; rfl
    have h0 : Rearmed s r := by
      refine ⟨?_, fun c => .inl (by rw [hcc]), fun q hq => ?_, fun e => ?_, fun e => absurd (hhs ▸ hpump) e⟩
      · rw [← hr]; rfl
      · rw [hhs, hfifo] at hq; cases hq
      · rw [hhs] at e
        rcases e with e | e | e
        · exact absurd hfifo e
        · exact absurd hholder e
        · exact absurd hpump e
    have hranks : clampRanks r < 512 := by
      have hle : ∀ n : Clamp, clampRank n ≤ 7 := fun n => by
        unfold clampRank stateRank
        (repeat' split) <;> omega
      have hx := hle (r.cc.get .x)
      have hy := hle (r.cc.get .y)
      have hz := hle (r.cc.get .z)
      have hb := hle (r.cc.get .b)
      unfold clampRanks
      omega
    obtain ⟨ht, hend⟩ := h0.settle hs 512 fun _ => hranks
    have hfin : finish r = transmit (Machine.settle 512 r) := by
      have hguard : tscGuard (Machine.settle 512 r) = Machine.settle 512 r := by
        have hoffTsc : (Machine.settle 512 r).cu.tsc = .off := by rw [ht.same]; show s.cu.tsc = _; rw [hcu]; rfl
        refine if_neg ?_
        unfold tscFlows
        rw [hoffTsc]
        exact fun e => (nomatch e)
      unfold finish quiesce
      rw [hguard, pendantSend_of_not_due (by rw [ht.same]; exact h.2)]
    have hslot : (finish r).hlp.slot = some ⟨0x04, tag, ⟨.ok, []⟩⟩ := by
      rw [finish_hlp, ← hr]; rfl
    refine ⟨finish r, hexec, ?_⟩
    have hsettled := fun c => ht.settled hs hend c
    rw [hslot, hfin]
    generalize Machine.settle 512 r = t at ht hsettled
    rw [transmit_eq]
    have hsame := ht.same
    generalize (transmit t).hlp = l
    refine ⟨?_, rfl, fun d => ?_, ?_, ?_, ?_, ?_, ?_, ?_, ?_, hsettled⟩ <;> rw [hsame]
    rfl

end Sys2Proof.Machine
end

section
/-! SUPPORT. The work of a path period on one axis: what its owner does to its setpoint (R57, R58, R69 to R72, R170 to
R175), as functions of the axis channel and the jog. -/

namespace Sys2Proof.Machine

/-! ## Updates of one axis -/

theorem PerAxis.upd_congr {α : Type} {v : PerAxis α} {a : Axis} {f g : α → α} (h : f (v.get a) = g (v.get a)) :
    v.upd a f = v.upd a g := by
  cases a <;> simp only [PerAxis.get] at h <;> simp [PerAxis.upd, h]

theorem PerAxis.upd_upd {α : Type} (v : PerAxis α) (a : Axis) (f g : α → α) :
    (v.upd a f).upd a g = v.upd a fun k => g (f k) := by
  cases a <;> rfl

theorem PerAxis.upd_self {α : Type} {v : PerAxis α} {a : Axis} {f : α → α} (h : f (v.get a) = v.get a) :
    v.upd a f = v := by
  cases a <;> simp only [PerAxis.get] at h <;> simp [PerAxis.upd, h]

theorem updAx_congr {s : State} {a : Axis} {f g : AxisCh → AxisCh} (h : f (s.ax.get a) = g (s.ax.get a)) :
    updAx a f s = updAx a g s := by
  unfold updAx; rw [PerAxis.upd_congr h]

theorem updAx_self {s : State} {a : Axis} {f : AxisCh → AxisCh} (h : f (s.ax.get a) = s.ax.get a) : updAx a f s = s := by
  unfold updAx; rw [PerAxis.upd_self h]

theorem updAx_updAx (a : Axis) (f g : AxisCh → AxisCh) (s : State) :
    updAx a g (updAx a f s) = updAx a (fun k => g (f k)) s := by
  exact congrArg (fun x => ({ s with ax := x } : State)) (PerAxis.upd_upd s.ax a f g)

/-! ## The homing of one axis, as a function of its channel -/

/-- A failure recorded (R73). -/
def failCh (r : HomeReason) (k : AxisCh) : AxisCh := { k with hFail := some (r, k.phase), phase := .ending }

/-- The reason of a failure where a limit may be active (R73). -/
def reasonOf (lim : Bool) (r : HomeReason) : HomeReason := if lim then .limit else r

/-- SEARCH under the home switch (R70). -/
def searchCh (on : Bool) (k : AxisCh) : AxisCh :=
  if k.phase = .search ∧ on = true then { k with phase := .searchStop } else k

/-- LATCH under the home switch (R71). -/
def latchCh (on : Bool) (k : AxisCh) : AxisCh :=
  if k.phase = .latch then
    match k.hStep with
    | .active => if on then { k with hStep := .inactive } else k
    | .inactive => if on then k else { k with hStep := .index, hFrom := k.setpoint, latch := none }
    | .index => k
  else k

/-- The checks at the start of a period (R70 to R72). -/
def checksCh (on lim : Bool) (k : AxisCh) : AxisCh :=
  match k.phase with
  | .search => if on then searchCh on k else if lim then failCh .limit k else k
  | .latch =>
    match k.hStep, k.latch with
    | .index, some l => homeShift (latchCh on k) l
    | _, _ => if lim then failCh .limit (latchCh on k) else latchCh on k
  | _ => k

/-- The checks after the setpoint has moved (R70, R71). -/
def movedCh (on lim : Bool) (k : AxisCh) : AxisCh :=
  match k.phase with
  | .search => if k.p.homeTravel < (k.setpoint - k.hFrom).natAbs then failCh (reasonOf lim .travel) k else k
  | .searchStop =>
    if k.hVel = 0 then latchCh on { k with phase := .latch, hStep := .active, hFrom := k.setpoint, latch := none } else k
  | .latch =>
    if k.hStep = .index then
      (if k.p.indexWindow < (k.setpoint - k.hFrom).natAbs then failCh (reasonOf lim .index) k else k)
    else if k.p.homeTravel < (k.setpoint - k.hFrom).natAbs then failCh (reasonOf lim .travel) k
    else k
  | _ => k

/-- The homing of one axis in a path period. -/
def homeCh (on lim free : Bool) (k : AxisCh) : AxisCh :=
  if profileRuns k.phase then movedCh on lim (homeProfile free (checksCh on lim k)) else k

theorem homeFail_eq (a : Axis) (r : HomeReason) (s : State) :
    homeFail a r s = updAx a (failCh (reasonOf (limitActive s a) r)) s := rfl

theorem searchSwitch_eq (a : Axis) (s : State) : searchSwitch a s = updAx a (searchCh (homeSwitch s a)) s := by
  unfold searchSwitch
  split
  next h => exact updAx_congr (by rw [searchCh, if_pos h])
  next h => rw [updAx_self (f := searchCh (homeSwitch s a)) (by rw [searchCh, if_neg h])]

theorem latchSwitch_eq (a : Axis) (s : State) : latchSwitch a s = updAx a (latchCh (homeSwitch s a)) s := by
  unfold latchSwitch
  dsimp only
  split
  next hp =>
    split
    next hs =>
      split
      next hon => exact updAx_congr (by simp [latchCh, hp, hs, hon])
      next hon => exact (updAx_self (by simp [latchCh, hp, hs, hon])).symm
    next hs =>
      split
      next hon => exact (updAx_self (by simp [latchCh, hp, hs, hon])).symm
      next hon => exact updAx_congr (by simp [latchCh, hp, hs, hon])
    next hs => exact (updAx_self (by simp [latchCh, hp, hs])).symm
  next hp => exact (updAx_self (by simp [latchCh, hp])).symm

theorem homeChecks_eq (a : Axis) (s : State) :
    homeChecks a s = updAx a (checksCh (homeSwitch s a) (limitActive s a)) s := by
  unfold homeChecks
  dsimp only
  split
  next hp =>
    split
    next hon =>
      rw [searchSwitch_eq]
      exact updAx_congr (by simp [checksCh, hp, hon])
    next hon =>
      split
      next hl =>
        rw [homeFail_eq]
        exact updAx_congr (by simp [checksCh, hp, hon, hl, reasonOf])
      next hl => exact (updAx_self (by simp [checksCh, hp, hon, hl])).symm
  next hp =>
    rw [latchSwitch_eq]
    split
    next l hs hl =>
      rw [updAx_updAx]
      exact updAx_congr (by simp [checksCh, hp, hs, hl])
    next hn =>
      have hch : checksCh (homeSwitch s a) (limitActive s a) (s.ax.get a) =
          if limitActive s a then failCh .limit (latchCh (homeSwitch s a) (s.ax.get a))
          else latchCh (homeSwitch s a) (s.ax.get a) := by
        unfold checksCh
        rw [hp]
        dsimp only
        split
        next l hs hl => exact (hn l hs hl).elim
        next => rfl
      split
      next hl =>
        rw [homeFail_eq, updAx_updAx]
        exact updAx_congr (by rw [hch, if_pos hl, reasonOf, ite_self])
      next hl => exact updAx_congr (by rw [hch, if_neg hl])
  next h₁ h₂ =>
    refine (updAx_self ?_).symm
    unfold checksCh
    split
    next hp => exact (h₁ hp).elim
    next hp => exact (h₂ hp).elim
    next => rfl

theorem homeMoved_eq (a : Axis) (s : State) :
    homeMoved a s = updAx a (movedCh (homeSwitch s a) (limitActive s a)) s := by
  unfold homeMoved
  dsimp only
  split
  next hp =>
    split
    next h =>
      rw [homeFail_eq]
      exact updAx_congr (by simp [movedCh, hp, h])
    next h => exact (updAx_self (by simp [movedCh, hp, h])).symm
  next hp =>
    split
    next h =>
      unfold beginLatch
      rw [latchSwitch_eq, updAx_updAx]
      exact updAx_congr (by simp [movedCh, hp, h]; rfl)
    next h => exact (updAx_self (by simp [movedCh, hp, h])).symm
  next hp =>
    split
    next hs =>
      split
      next h =>
        rw [homeFail_eq]
        exact updAx_congr (by simp [movedCh, hp, hs, h])
      next h => exact (updAx_self (by simp [movedCh, hp, hs, h])).symm
    next hs =>
      split
      next h =>
        rw [homeFail_eq]
        exact updAx_congr (by simp [movedCh, hp, hs, h])
      next h => exact (updAx_self (by simp [movedCh, hp, hs, h])).symm
  next h₁ h₂ h₃ =>
    refine (updAx_self ?_).symm
    unfold movedCh
    split
    next hp => exact (h₁ hp).elim
    next hp => exact (h₂ hp).elim
    next hp => exact (h₃ hp).elim
    next => rfl

theorem homeWork_eq (a : Axis) (s : State) :
    homeWork a s = updAx a (homeCh (homeSwitch s a) (limitActive s a) (released s a)) s := by
  unfold homeWork
  split
  next h =>
    dsimp only
    rw [homeChecks_eq, updAx_updAx, homeMoved_eq, updAx_updAx]
    exact updAx_congr (by rw [homeCh, if_pos h]; rfl)
  next h => exact (updAx_self (by rw [homeCh, if_neg h])).symm

end Sys2Proof.Machine
end

section
/-! SUPPORT. The setpoints that a path period gives (R57, R58, R170, R175), as functions of the axis channels and the
jogs: one step of the period for each owner. -/

namespace Sys2Proof.Machine

/-- An axis takes a setpoint (R58). -/
def givenCh (z : Int) (k : AxisCh) : AxisCh := { k with setpoint := z, atRest := k.atRest && z == k.setpoint }

/-- PP's motion of a RELEASED axis that it owns (R170, R175). -/
def jogCh (s : State) (k : AxisCh) (j : Jog) : AxisCh :=
  match j.mode with
  | .button => givenCh (jogProfile s k j).1 k
  | .wheel => givenCh (toward k.setpoint j.wheel (k.p.hwSpeed / 1000)) k
  | .none => k

/-- The owner's setpoint of an axis, or the follow-up in TRIPPED (R57, R64, R69). -/
def ownerCh (s : State) (a : Axis) (k : AxisCh) (j : Jog) : AxisCh :=
  if s.cn.machine = .tripped then { k with setpoint := k.enc - (s.cs.get a).c }
  else if k.owner = .homing then homeCh (homeSwitch s a) (limitActive s a) (released s a) k
  else if k.owner = .pendant ∧ released s a = true then jogCh s k j
  else k

theorem updJog_self {s : State} {a : Axis} {f : Jog → Jog} (h : f (s.pp.jogs.get a) = s.pp.jogs.get a) :
    updJog a f s = s := by
  unfold updJog; rw [PerAxis.upd_self h]

theorem giveSetpoint_of_released {a : Axis} {z : Int} {s : State} (h : released s a = true) :
    giveSetpoint a z s = updAx a (givenCh z) s := if_pos h

theorem updJog_congr {s : State} {a : Axis} {f g : Jog → Jog} (h : f (s.pp.jogs.get a) = g (s.pp.jogs.get a)) :
    updJog a f s = updJog a g s := by
  unfold updJog; rw [PerAxis.upd_congr h]

/-- The jog of an axis after its profile, where PP moves it (R170). -/
def profiled (s : State) (a : Axis) (k : AxisCh) (j : Jog) : Jog :=
  if k.owner = .pendant ∧ released s a = true ∧ j.mode = .button then (jogProfile s k j).2 else j

/-- The jog of an axis after its period's profile (R170, R171). -/
def ownerJog (s : State) (a : Axis) (k : AxisCh) (j : Jog) : Jog :=
  if s.cn.machine = .tripped then j else profiled s a k j

theorem jogWork_eq (a : Axis) (s : State) :
    jogWork a s = updJog a (profiled s a (s.ax.get a))
      (updAx a (fun k => if k.owner = .pendant ∧ released s a = true then jogCh s k (s.pp.jogs.get a) else k) s) := by
  have hax : ∀ f : AxisCh → AxisCh, ((s.ax.get a).owner = .pendant ∧ released s a = true) →
      jogCh s (s.ax.get a) (s.pp.jogs.get a) = f (s.ax.get a) →
      updAx a (fun k => if k.owner = .pendant ∧ released s a = true then jogCh s k (s.pp.jogs.get a) else k) s =
        updAx a f s := fun f h hf => updAx_congr ((if_pos h).trans hf)
  unfold jogWork
  dsimp only
  split
  next h =>
    split
    next hm =>
      rw [giveSetpoint_of_released h.2, hax (givenCh (jogProfile s (s.ax.get a) (s.pp.jogs.get a)).1) h (by rw [jogCh, hm])]
      exact updJog_congr (if_pos ⟨h.1, h.2, hm⟩).symm
    next hm =>
      rw [giveSetpoint_of_released h.2, approach_eq_toward,
        hax (givenCh (toward (s.ax.get a).setpoint (s.pp.jogs.get a).wheel ((s.ax.get a).p.hwSpeed / 1000))) h
          (by rw [jogCh, hm])]
      exact (updJog_self (f := profiled s a (s.ax.get a)) (if_neg fun e => absurd (hm.symm.trans e.2.2) (by decide))).symm
    next hm =>
      rw [hax (fun k => k) h (by rw [jogCh, hm]), updAx_self rfl]
      exact (updJog_self (f := profiled s a (s.ax.get a)) (if_neg fun e => absurd (hm.symm.trans e.2.2) (by decide))).symm
  next h =>
    rw [updAx_self (f := fun k => if k.owner = .pendant ∧ released s a = true then jogCh s k (s.pp.jogs.get a) else k)
      (if_neg h)]
    exact (updJog_self (f := profiled s a (s.ax.get a)) (if_neg fun e => h ⟨e.1, e.2.1⟩)).symm

/-- In TRIPPED the setpoint follows the encoder (R64). -/
theorem ownerCh_of_tripped {s : State} (h : s.cn.machine = .tripped) (a : Axis) (k : AxisCh) (j : Jog) :
    ownerCh s a k j = { k with setpoint := k.enc - (s.cs.get a).c } := if_pos h

/-- An axis that no homing and no jog moves keeps its channel. -/
theorem ownerCh_of_unmoved {s : State} (h : s.cn.machine ≠ .tripped) {a : Axis} {k : AxisCh} (hh : k.owner ≠ .homing)
    (hp : k.owner ≠ .pendant) (j : Jog) : ownerCh s a k j = k := by
  rw [ownerCh, if_neg h, if_neg hh, if_neg fun e => hp e.1]

theorem ownerCh_of_homing {s : State} (h : s.cn.machine ≠ .tripped) {a : Axis} {k : AxisCh} (hh : k.owner = .homing)
    (j : Jog) : ownerCh s a k j = homeCh (homeSwitch s a) (limitActive s a) (released s a) k := by
  rw [ownerCh, if_neg h, if_pos hh]

theorem ownerCh_of_pendant {s : State} (h : s.cn.machine ≠ .tripped) {a : Axis} {k : AxisCh} (hp : k.owner = .pendant)
    (hr : released s a = true) (j : Jog) : ownerCh s a k j = jogCh s k j := by
  rw [ownerCh, if_neg h, if_neg (by rw [hp]; exact fun e => (nomatch e)), if_pos ⟨hp, hr⟩]

theorem ownerCh_of_held {s : State} {a : Axis} {k : AxisCh} (h : s.cn.machine ≠ .tripped) (hp : k.owner = .pendant)
    (hr : ¬(k.owner = .pendant ∧ released s a = true)) (j : Jog) : ownerCh s a k j = k := by
  rw [ownerCh, if_neg h, if_neg (by rw [hp]; exact fun e => (nomatch e)), if_neg hr]

theorem ownerJog_of_other {s : State} {a : Axis} {k : AxisCh} (h : k.owner ≠ .pendant) (j : Jog) :
    ownerJog s a k j = j := by
  unfold ownerJog
  split
  · rfl
  · exact if_neg fun e => h e.1

theorem ownerWork_eq (s : State) (a : Axis) :
    ownerWork s a = updJog a (ownerJog s a (s.ax.get a))
      (updAx a (fun k => ownerCh s a k (s.pp.jogs.get a)) s) := by
  unfold ownerWork
  split
  next ht =>
    rw [updJog_self (f := ownerJog s a (s.ax.get a)) (if_pos ht)]
    exact updAx_congr (if_pos ht).symm
  next ht =>
    split
    next ho =>
      rw [homeWork_eq, updJog_self (f := ownerJog s a (s.ax.get a))
        (ownerJog_of_other (by rw [ho]; exact fun e => (nomatch e)) _)]
      exact updAx_congr (ownerCh_of_homing ht ho _).symm
    next ho =>
      rw [jogWork_eq, updJog_congr (g := ownerJog s a (s.ax.get a)) (if_neg ht).symm]
      refine congrArg (updJog a _) (updAx_congr ?_)
      split
      next h => exact (ownerCh_of_pendant ht ho h.2 _).symm
      next h => exact (ownerCh_of_held ht ho h _).symm
    next ho =>
      have hh : (s.ax.get a).owner ≠ .homing := by rw [ho]; exact fun e => (nomatch e)
      have hp : (s.ax.get a).owner ≠ .pendant := by rw [ho]; exact fun e => (nomatch e)
      rw [updAx_self (ownerCh_of_unmoved ht hh hp _), updJog_self (ownerJog_of_other hp _)]
    next ho =>
      have hh : (s.ax.get a).owner ≠ .homing := by rw [ho]; exact fun e => (nomatch e)
      have hp : (s.ax.get a).owner ≠ .pendant := by rw [ho]; exact fun e => (nomatch e)
      rw [updAx_self (ownerCh_of_unmoved ht hh hp _), updJog_self (ownerJog_of_other hp _)]

/-- Every axis and jog after its owner's work of a path period. -/
def owned (s : State) : State :=
  { s with ax := s.ax.map fun a k => ownerCh s a k (s.pp.jogs.get a)
           pp.jogs := s.pp.jogs.map fun a j => ownerJog s a (s.ax.get a) j }

theorem ownerCh_moved (s : State) (v : PerAxis AxisCh) (g : PerAxis Jog) (a : Axis) (k : AxisCh) (j : Jog) :
    ownerCh { s with ax := v, pp.jogs := g } a k j = ownerCh s a k j := rfl

theorem ownerJog_moved (s : State) (v : PerAxis AxisCh) (g : PerAxis Jog) (a : Axis) (k : AxisCh) (j : Jog) :
    ownerJog { s with ax := v, pp.jogs := g } a k j = ownerJog s a k j := rfl

theorem ownerWork_moved (s : State) (v : PerAxis AxisCh) (g : PerAxis Jog) (a : Axis) :
    ownerWork { s with ax := v, pp.jogs := g } a =
      { s with ax := v.upd a fun k => ownerCh s a k (g.get a), pp.jogs := g.upd a fun j => ownerJog s a (v.get a) j } := by
  rw [ownerWork_eq]
  rfl

theorem foldl_ownerWork (s : State) : allAxes.foldl ownerWork s = owned s := by
  show [Axis.x, .y, .z, .w, .b].foldl ownerWork { s with ax := s.ax, pp.jogs := s.pp.jogs } = owned s
  simp only [List.foldl, ownerWork_moved]
  rfl

theorem periodSetpoints_eq (s : State) : periodSetpoints s = owned (compWork (pathWork s)) := foldl_ownerWork _

theorem owned_ax (s : State) (a : Axis) : ((owned s).ax.get a) = ownerCh s a (s.ax.get a) (s.pp.jogs.get a) := by
  simp [owned]

theorem owned_jog (s : State) (a : Axis) : (owned s).pp.jogs.get a = ownerJog s a (s.ax.get a) (s.pp.jogs.get a) := by
  simp [owned]

/-! ## What the setpoints' work keeps of an axis channel -/

/-- The parts of a channel that the owner's work leaves alone. -/
def fixedCh (k : AxisCh) : AxisParams × Owner × Bool × Int × Nat × Int := (k.p, k.owner, k.refd, k.out, k.satCount, k.e)

@[simp] theorem fixedCh_failCh (r : HomeReason) (k : AxisCh) : fixedCh (failCh r k) = fixedCh k := rfl

@[simp] theorem fixedCh_homeShift (k : AxisCh) (l : Int) : fixedCh (homeShift k l) = fixedCh k := rfl

@[simp] theorem fixedCh_searchCh (on : Bool) (k : AxisCh) : fixedCh (searchCh on k) = fixedCh k := by
  unfold searchCh; split <;> rfl

@[simp] theorem fixedCh_latchCh (on : Bool) (k : AxisCh) : fixedCh (latchCh on k) = fixedCh k := by
  unfold latchCh; (repeat' split) <;> rfl

@[simp] theorem fixedCh_checksCh (on lim : Bool) (k : AxisCh) : fixedCh (checksCh on lim k) = fixedCh k := by
  unfold checksCh; (repeat' split) <;> simp

@[simp] theorem fixedCh_homeProfile (free : Bool) (k : AxisCh) : fixedCh (homeProfile free k) = fixedCh k := by
  unfold homeProfile; dsimp only; split <;> rfl

@[simp] theorem fixedCh_movedCh (on lim : Bool) (k : AxisCh) : fixedCh (movedCh on lim k) = fixedCh k := by
  unfold movedCh; (repeat' split) <;> simp <;> rfl

@[simp] theorem fixedCh_homeCh (on lim free : Bool) (k : AxisCh) : fixedCh (homeCh on lim free k) = fixedCh k := by
  unfold homeCh; split <;> simp

@[simp] theorem fixedCh_jogCh (s : State) (k : AxisCh) (j : Jog) : fixedCh (jogCh s k j) = fixedCh k := by
  unfold jogCh; split <;> rfl

@[simp] theorem fixedCh_ownerCh (s : State) (a : Axis) (k : AxisCh) (j : Jog) :
    fixedCh (ownerCh s a k j) = fixedCh k := by
  unfold ownerCh
  split
  · rfl
  · split
    · simp
    · split <;> simp

end Sys2Proof.Machine
end

section
/-! SUPPORT. What follows the setpoints in a path period (R60 to R66, R72, R110, R122): the loops, their checks and the
spindle's work keep the setpoints, and where no reaction comes the path, the jogs and the homings too. -/

namespace Sys2Proof.Machine

/-- How far a queue state is from IDLE: a STOP and a TRIP only lower it (R12, R14). -/
def stopRank : QState → Nat
  | .idle => 0
  | .stopping => 1
  | _ => 2

/-- The second state is one that the first may be left in by checks and their STOP and TRIP reactions. -/
structure After (x y : State) : Prop where
  settings : settings y = settings x
  tripped : x.cn.machine = .tripped → y.cn.machine = .tripped
  ready : y.cn.machine = .ready → x.cn.machine = .ready
  jogs : y.cn.machine ≠ .tripped → ∀ a, (y.pp.jogs.get a).vel = (x.pp.jogs.get a).vel ∧
    (y.pp.jogs.get a).rem = (x.pp.jogs.get a).rem
  order : y.sq.st = x.sq.st ∨ stopRank y.sq.st < stopRank x.sq.st
  path : y.sq.st = x.sq.st → x.sq.st ≠ .idle → { y.sq with armed := x.sq.armed } = x.sq ∧ y.pi = x.pi

theorem After.refl (x : State) : After x x :=
  ⟨rfl, id, id, fun _ _ => ⟨rfl, rfl⟩, .inl rfl, fun _ _ => ⟨rfl, rfl⟩⟩

theorem After.trans {x y z : State} (h : After x y) (g : After y z) : After x z := by
  have hrank : stopRank z.sq.st ≤ stopRank y.sq.st ∧ stopRank y.sq.st ≤ stopRank x.sq.st := by
    constructor
    · rcases g.order with e | e
      · rw [e]
      · exact e.le
    · rcases h.order with e | e
      · rw [e]
      · exact e.le
  refine ⟨g.settings.trans h.settings, fun e => g.tripped (h.tripped e), fun e => h.ready (g.ready e), fun e a => ?_, ?_,
    fun e hi => ?_⟩
  · have hy := h.jogs (fun hy => e (g.tripped hy)) a
    have hz := g.jogs e a
    exact ⟨hz.1.trans hy.1, hz.2.trans hy.2⟩
  · rcases g.order with e | e
    · rw [e]; exact h.order
    · exact .inr (e.trans_le hrank.2)
  · have hyx : y.sq.st = x.sq.st := by
      rcases h.order with hy | hy
      · exact hy
      · exact absurd (e ▸ hrank.1) (by omega)
    obtain ⟨hsq, hpi⟩ := h.path hyx hi
    obtain ⟨gsq, gpi⟩ := g.path (e.trans hyx.symm) (hyx ▸ hi)
    refine ⟨?_, gpi.trans hpi⟩
    rw [← hsq, ← gsq]

theorem After.of_fields {x y : State} (hs : Machine.settings y = Machine.settings x) (hm : y.cn.machine = x.cn.machine)
    (hj : y.pp.jogs = x.pp.jogs) (hsq : { y.sq with armed := x.sq.armed } = x.sq) (hpi : y.pi = x.pi) : After x y :=
  ⟨hs, fun e => hm.trans e, fun e => hm.symm.trans e, fun _ a => by rw [hj]; exact ⟨rfl, rfl⟩,
    .inl (congrArg (fun q => q.st) hsq), fun _ _ => ⟨hsq, hpi⟩⟩

theorem cs_of_settings {s t : State} (h : Machine.settings t = Machine.settings s) : t.cs = s.cs :=
  congrArg (fun v => v.2.2.2.1) h

theorem After.foldl {f : State → Axis → State} (h : ∀ s a, After s (f s a)) (l : List Axis) (s : State) :
    After s (l.foldl f s) := by
  induction l generalizing s with
  | nil => exact .refl s
  | cons a l ih => exact (h s a).trans (ih _)

/-- And where no STOP or TRIP came the axis channels stayed as they were. -/
structure Checked (x y : State) : Prop extends After x y where
  axes : y.cn.machine = .ready → y.ax = x.ax

theorem Checked.refl (x : State) : Checked x x := ⟨.refl x, fun _ => rfl⟩

theorem Checked.trans {x y z : State} (h : Checked x y) (g : Checked y z) : Checked x z :=
  ⟨h.toAfter.trans g.toAfter, fun e => (g.axes e).trans (h.axes (g.ready e))⟩

theorem Checked.of_fields {x y : State} (hs : Machine.settings y = Machine.settings x)
    (hm : y.cn.machine = x.cn.machine) (hax : y.ax = x.ax) (hj : y.pp.jogs = x.pp.jogs)
    (hsq : { y.sq with armed := x.sq.armed } = x.sq) (hpi : y.pi = x.pi) : Checked x y :=
  ⟨.of_fields hs hm hj hsq hpi, fun _ => hax⟩

theorem Checked.foldl {f : State → Axis → State} (h : ∀ s a, Checked s (f s a)) (l : List Axis) (s : State) :
    Checked s (l.foldl f s) := by
  induction l generalizing s with
  | nil => exact .refl s
  | cons a l ih => exact (h s a).trans (ih _)

theorem Checked.ite {p : Prop} [Decidable p] {s x y : State} (hx : Checked s x) (hy : Checked s y) :
    Checked s (if p then x else y) := by split <;> assumption

/-! ## Raises -/

theorem checked_queueReport (k : Report) (s : State) : Checked s (queueReport k s) :=
  .of_fields (settings_queueReport k s) (by simp) (by simp) (by simp) (by simp) (by simp)

theorem checked_setRaw (c : Cond) (b : Bool) (s : State) : Checked s (setRaw c b s) := .of_fields rfl rfl rfl rfl rfl rfl

theorem checked_latch (c : Cond) (q : Nat) (v : Int) (s : State) : Checked s (latch c q v s) :=
  .of_fields (settings_of_steady (steady_latch ..)) (by simp) (by simp) (by simp) (by simp) (by simp)

theorem checked_fall (c : Cond) (s : State) : Checked s (fall c s) :=
  .of_fields (settings_fall c s) (by simp) (by simp) (by simp) (by simp) (by simp)

theorem checked_riseNote (c : Cond) (q : Nat) (v : Int) (s : State) : Checked s (riseNote c q v s) :=
  .ite (.refl s) ((checked_setRaw ..).trans (checked_latch ..))

theorem endJogOf_motion (step : EndStep) (z : Int) (j : Jog) :
    (endJogOf step z j).vel = j.vel ∧ (endJogOf step z j).rem = j.rem := by
  unfold endJogOf; (repeat' split) <;> exact ⟨rfl, rfl⟩

theorem sqStop_order (s : State) : (sqStop s).sq.st = s.sq.st ∨ stopRank (sqStop s).sq.st < stopRank s.sq.st := by
  obtain ⟨hmove, hflush, hstay⟩ := sqStop_queue s
  rcases sqStop_cases s with ⟨h, -⟩ | ⟨h, -⟩ | h
  · exact .inl (congrArg SegQueue.st (hstay h))
  · right; rw [(hflush (.inr h)).1, h]; decide
  · have hrank : stopRank s.sq.st = 2 := by rcases h with h | h | h <;> rw [h] <;> rfl
    right
    by_cases hr : s.pi.r = 0
    · rw [(hflush (.inl ⟨h, hr⟩)).1, hrank]; decide
    · rw [(hmove h hr).1, hrank]; decide

/-- A STOP that leaves the queue state as it was leaves the queue and the path as they were (R12). -/
theorem sqStop_of_same {s : State} (h : (sqStop s).sq.st = s.sq.st) : sqStop s = s := by
  obtain ⟨hmove, hflush, -⟩ := sqStop_queue s
  rcases sqStop_cases s with ⟨-, heq⟩ | ⟨hst, -⟩ | hm
  · exact heq
  · rw [(hflush (.inr hst)).1, hst] at h; exact absurd h (by decide)
  · have hne : s.sq.st ≠ .idle ∧ s.sq.st ≠ .stopping := by
      rcases hm with hm | hm | hm <;> rw [hm] <;> decide
    by_cases hr : s.pi.r = 0
    · rw [(hflush (.inl ⟨hm, hr⟩)).1] at h; exact absurd h.symm hne.1
    · rw [(hmove hm hr).1] at h; exact absurd h.symm hne.2

theorem raiseStop_machine (c : Cond) (h : c.cls = .stop) (q : Nat) (v : Int) (s : State) :
    (raiseStop c q v s).cn.machine = machineAfter .stop s.cn.machine := by
  rw [raiseStop_eq_raise h, ← h]
  exact congrArg Prod.fst (watched_raise c q v s)

theorem machine_of_watched {d : Cond} {s t : State} (h : watched d t = watched d s) : t.cn.machine = s.cn.machine :=
  congrArg Prod.fst h

theorem after_stopDeliveries {x s t : State} (ht : stopDeliveries x = t) (h : s.cn.machine ≠ .tripped)
    (hm : x.cn.machine = .stopping) (hset : Machine.settings x = Machine.settings s) (hsq : x.sq = s.sq)
    (hpi : x.pi = s.pi) (hpp : x.pp = s.pp) : After s t := by
  have hb := stopDeliveries_blocks x
  dsimp only at hb
  have htm : t.cn.machine = .stopping := by
    rw [← ht, machine_of_watched (watched_stopDeliveries (d := .estopOpen) (by decide) x), hm]
  have hts : Machine.settings t = Machine.settings x := by rw [← ht]; exact settings_of_steady (steady_stopDeliveries x)
  rw [ht] at hb
  obtain ⟨htsq, htpi, -, -, -, -, hjogs⟩ := hb
  refine ⟨hts.trans hset, fun e => absurd e h, fun e => ?_, fun _ a => ?_, ?_, fun e _ => ?_⟩
  · rw [htm] at e; cases e
  · rw [hjogs, hpp]; exact endJogOf_motion ..
  · rw [htsq, ← hsq]; exact sqStop_order x
  · have hsame := sqStop_of_same (s := x) (by rw [← htsq, e, hsq])
    rw [htsq, htpi, hsame, hsq, hpi]
    exact ⟨rfl, rfl⟩

theorem checked_raiseStop {c : Cond} (h : c.cls = .stop) (q : Nat) (v : Int) (s : State) :
    Checked s (raiseStop c q v s) := by
  have hm' := raiseStop_machine c h q v s
  by_cases hm : s.cn.machine = .tripped
  · rw [raiseStop_eq_raise h, raise_of_no_reaction (.inl hm)]; exact checked_latch ..
  · refine ⟨?_, fun e => ?_⟩
    · rw [raiseStop_eq_raise h, raise_of_stop h hm]
      exact after_stopDeliveries rfl hm rfl (checked_latch c q v s).settings (latch_sq ..) (latch_pi ..) (latch_pp ..)
    · rw [hm'] at e
      cases hs : s.cn.machine <;> rw [hs] at e <;> cases e

theorem checked_riseStop {c : Cond} (h : c.cls = .stop) (q : Nat) (v : Int) (s : State) : Checked s (riseStop c q v s) :=
  .ite (.refl s) ((checked_setRaw ..).trans (checked_raiseStop h ..))

theorem sguTrip_sq {s : State} (h : s.sq.st = .idle) : (sguTrip s).sq = s.sq := by
  have hidle : ∀ u : State, u.sq.st = s.sq.st → u.sq.st ≠ .running := fun u hu => by rw [hu, h]; decide
  unfold sguTrip
  dsimp only
  rw [fall_sq]
  obtain ⟨n, y, g, rq, heq, -⟩ := abandonShift_of_not_running (hidle
    { s with sgu.reqSpeed := 0, sgu.target := 0, sgu.ramped := 0, sgu.out := 0, sgu.satCount := 0 } rfl)
  rw [heq]
  split
  · rfl
  · rw [spindleOff_of_not_running (by exact hidle _ rfl)]

theorem homeTrip_sq (s : State) (a : Axis) : (homeTrip s a).sq = s.sq := by
  unfold homeTrip
  split
  · rfl
  · unfold homeOk; rw [queueReport_sq]; rfl
  · rfl
  · rfl

theorem homeReport_sq (s : State) (a : Axis) : (homeReport s a).sq = s.sq := by
  unfold homeReport
  split
  · simp
  · rfl

theorem foldl_sq {f : State → Axis → State} (h : ∀ s a, (f s a).sq = s.sq) (l : List Axis) (s : State) :
    (l.foldl f s).sq = s.sq := by
  induction l generalizing s with
  | nil => rfl
  | cons a l ih => exact (ih _).trans (h s a)

theorem tripDeliveries_idle (s : State) : (tripDeliveries s).sq.st = .idle := by
  have hidle : (fall .hydPressureLow (clampsTrip (axesTrip (sqTrip s)))).sq.st = .idle := by
    rw [fall_sq, clampsTrip_sq, (axesTrip_keeps _).1]
    exact (sqTrip_spec s).1
  have hcoolant : ∀ u : State, (jogsDrop (coolantTrip u)).sq = u.sq := fun _ => rfl
  unfold tripDeliveries
  dsimp only
  generalize fall .hydPressureLow (clampsTrip (axesTrip (sqTrip s))) = u at hidle ⊢
  rw [foldl_sq homeTrip_sq, hcoolant, sguTrip_sq hidle]
  exact hidle

theorem raiseTrip_eq_raise {c : Cond} (h : c.cls = .trip) (q : Nat) (v : Int) (s : State) :
    raiseTrip c q v s = raise c q v s := by
  unfold raise; rw [h]

theorem raiseTrip_tripped {c : Cond} (h : c.cls = .trip) (q : Nat) (v : Int) (s : State) :
    (raiseTrip c q v s).cn.machine = .tripped := by
  rw [raiseTrip_eq_raise h]
  refine (congrArg Prod.fst (watched_raise c q v s)).trans ?_
  rw [h]
  cases s.cn.machine <;> rfl

theorem checked_raiseTrip {c : Cond} (h : c.cls = .trip) (q : Nat) (v : Int) (s : State) :
    Checked s (raiseTrip c q v s) := by
  have htr := raiseTrip_tripped h q v s
  by_cases hm : s.cn.machine = .tripped
  · rw [raiseTrip_eq_raise h, raise_of_no_reaction (.inl hm)]; exact checked_latch ..
  · have hst : (raiseTrip c q v s).sq.st = .idle := by
      rw [raiseTrip_eq_raise h, raise_of_trip h hm, foldl_sq homeReport_sq, tripDeliveries_idle]
    refine ⟨⟨settings_raiseTrip c q v s, fun _ => htr, fun e => ?_, fun e => absurd htr e, ?_, fun e hi => ?_⟩, fun e => ?_⟩
    · rw [htr] at e; cases e
    · rw [hst]
      cases s.sq.st
      case idle => exact .inl rfl
      all_goals exact .inr (by decide)
    · exact absurd (e.symm.trans hst) hi
    · rw [htr] at e; cases e

/-! ## The loops and the checks of the axes -/

theorem after_updAx {a : Axis} {f : AxisCh → AxisCh} {s : State} (h : setCh (f (s.ax.get a)) = setCh (s.ax.get a)) :
    After s (updAx a f s) := by
  rw [updAx_congr (g := fun k => if setCh (f k) = setCh k then f k else k) (if_pos h).symm]
  exact .of_fields (settings_updAx fun k => by split <;> [assumption; rfl]) rfl rfl rfl rfl

theorem checked_saturation (d : Drive) (q : Nat) (z : Int) (s : State) : Checked s (saturation d q z s) :=
  .ite (checked_riseNote ..) (.refl s)

/-- The channel of an axis after its loop (R60 to R62). -/
def loopCh (c : Int) (k : AxisCh) : AxisCh :=
  let k := errorOf c k
  let z := loopOutput k.p.kp k.p.kff k.e (k.setpoint - k.prev)
  { k with out := clampOut z, satCount := satNext k.satCount z }

/-- The unclamped output of an axis (R61). -/
def loopZ (c : Int) (k : AxisCh) : Int := loopOutput k.p.kp k.p.kff (k.setpoint + c - k.enc) (k.setpoint - k.prev)

/-- The loop of one axis without its following-error check (R60 to R62). -/
def loopStep (s : State) (a : Axis) : State :=
  let s1 := saturation (.axis a) (axisSeq s a) (loopZ (s.cs.get a).c (s.ax.get a))
    (updAx a (fun _ => loopCh (s.cs.get a).c (s.ax.get a)) s)
  if satNext (s.ax.get a).satCount (loopZ (s.cs.get a).c (s.ax.get a)) = 20 then fall (.driveSaturated (.axis a)) s1 else s1

theorem axisLoop_of_tripped {s : State} (h : s.cn.machine = .tripped) (a : Axis) :
    axisLoop s a = updAx a (fun _ => { errorOf (s.cs.get a).c (s.ax.get a) with out := 0 }) s := if_pos h

theorem axisLoop_of_not_tripped {s : State} (h : s.cn.machine ≠ .tripped) (a : Axis) :
    axisLoop s a =
      if (s.ax.get a).p.feLimit < ((s.ax.get a).setpoint + (s.cs.get a).c - (s.ax.get a).enc).natAbs then
        raiseTrip (.followingError (.axis a)) (axisSeq s a)
          ((s.ax.get a).setpoint + (s.cs.get a).c - (s.ax.get a).enc) (loopStep s a)
      else loopStep s a := if_neg h

theorem after_loopStep (s : State) (a : Axis) : After s (loopStep s a) := by
  have hupd : After s (updAx a (fun _ => loopCh (s.cs.get a).c (s.ax.get a)) s) := after_updAx rfl
  have hsat := hupd.trans (checked_saturation (.axis a) (axisSeq s a) (loopZ (s.cs.get a).c (s.ax.get a)) _).toAfter
  unfold loopStep
  dsimp only
  split
  · exact hsat.trans (checked_fall ..).toAfter
  · exact hsat

theorem loopStep_ax (s : State) (a : Axis) :
    (loopStep s a).ax = s.ax.upd a (fun _ => loopCh (s.cs.get a).c (s.ax.get a)) := by
  have hsat : ∀ u : State, (saturation (.axis a) (axisSeq s a) (loopZ (s.cs.get a).c (s.ax.get a)) u).ax = u.ax := fun u => by
    unfold saturation riseNote; (repeat' split) <;> simp
  unfold loopStep
  dsimp only
  split
  · rw [fall_ax, hsat]; rfl
  · rw [hsat]; rfl

theorem after_axisLoop (s : State) (a : Axis) : After s (axisLoop s a) := by
  by_cases h : s.cn.machine = .tripped
  · rw [axisLoop_of_tripped h]; exact after_updAx rfl
  · rw [axisLoop_of_not_tripped h]
    split
    · exact (after_loopStep s a).trans (checked_raiseTrip rfl ..).toAfter
    · exact after_loopStep s a

theorem axisLoop_ax {s : State} {a : Axis} (h : (axisLoop s a).cn.machine = .ready) :
    (axisLoop s a).ax = s.ax.upd a (fun _ => loopCh (s.cs.get a).c (s.ax.get a)) := by
  have hm : s.cn.machine ≠ .tripped := fun e => by rw [(after_axisLoop s a).tripped e] at h; cases h
  rw [axisLoop_of_not_tripped hm] at h ⊢
  split at h
  next => rw [raiseTrip_tripped rfl] at h; cases h
  next hfe => rw [if_neg hfe]; exact loopStep_ax s a

theorem axisLoop_cs (s : State) (a : Axis) : (axisLoop s a).cs = s.cs :=
  cs_of_settings (after_axisLoop s a).settings

theorem foldl_axisLoop_ax {s : State} (h : (allAxes.foldl axisLoop s).cn.machine = .ready) (a : Axis) :
    (allAxes.foldl axisLoop s).ax.get a = loopCh (s.cs.get a).c (s.ax.get a) := by
  simp only [allAxes, List.foldl] at h ⊢
  have hb := h
  have hw := (after_axisLoop _ _).ready hb
  have hz := (after_axisLoop _ _).ready hw
  have hy := (after_axisLoop _ _).ready hz
  have hx := (after_axisLoop _ _).ready hy
  rw [axisLoop_ax hb, axisLoop_ax hw, axisLoop_ax hz, axisLoop_ax hy, axisLoop_ax hx]
  simp only [axisLoop_cs]
  cases a <;> rfl

theorem checked_hardLimitTest (s : State) (a : Axis) : Checked s (hardLimitTest s a) :=
  .ite (checked_riseStop rfl ..) (checked_fall ..)

/-- The channel of an axis after the end of a homing in SETTLE (R72). -/
def settledCh (k : AxisCh) : AxisCh :=
  if k.phase = .settle ∧ k.hVel = 0 ∧ k.atRest = true then
    { k with phase := .none, owner := .none, refd := true, hVel := 0, hRem := 0 }
  else k

theorem settleHoming_eq (s : State) (a : Axis) : ∃ rq : List RptEntry,
    settleHoming s a = { updAx a settledCh s with rq := rq } := by
  unfold settleHoming
  dsimp only
  split
  next h =>
    have hupd : updAx a (fun k => { k with phase := .none, owner := .none, refd := true, hVel := 0, hRem := 0 }) s =
        updAx a settledCh s := updAx_congr (if_pos h).symm
    refine ⟨(homeOk a s).rq, ?_⟩
    unfold homeOk
    rw [hupd]
    exact queueReport_eq ..
  next h => exact ⟨s.rq, by rw [updAx_self (f := settledCh) (if_neg h)]⟩

theorem after_settleHoming (s : State) (a : Axis) : After s (settleHoming s a) := by
  obtain ⟨rq, heq⟩ := settleHoming_eq s a
  have hset : setCh (settledCh (s.ax.get a)) = setCh (s.ax.get a) := by unfold settledCh; split <;> rfl
  have h : After s (updAx a settledCh s) := after_updAx hset
  rw [heq]
  exact h.trans (.of_fields rfl rfl rfl rfl rfl)

theorem foldl_settleHoming_ax (s : State) (a : Axis) :
    (allAxes.foldl settleHoming s).ax.get a = settledCh (s.ax.get a) := by
  have hstep : ∀ (u : State) (b : Axis), (settleHoming u b).ax = u.ax.upd b settledCh := fun u b => by
    obtain ⟨rq, heq⟩ := settleHoming_eq u b
    rw [heq]; rfl
  simp only [allAxes, List.foldl, hstep]
  cases a <;> rfl

theorem checked_drainTest (s : State) : Checked s (drainTest s) := by
  unfold drainTest
  split
  · have h : Checked s { s with sq.armed := false } := .of_fields rfl rfl rfl rfl rfl rfl
    exact h.trans (checked_queueReport ..)
  · exact .refl s

theorem after_prevWork (s : State) : After s (prevWork s) :=
  .of_fields (settings_mapAx fun _ _ => rfl) rfl rfl rfl rfl

theorem after_axesLoops {s x : State} (h : allAxes.foldl axisLoop s = x) :
    After s (prevWork (if cameToRest s x then drainTest (allAxes.foldl settleHoming (allAxes.foldl hardLimitTest x))
      else allAxes.foldl settleHoming (allAxes.foldl hardLimitTest x))) := by
  have hx : After s x := h ▸ After.foldl after_axisLoop allAxes s
  have hy := hx.trans (Checked.foldl checked_hardLimitTest allAxes x).toAfter
  have hz := hy.trans (After.foldl after_settleHoming allAxes _)
  split
  · exact (hz.trans (checked_drainTest _).toAfter).trans (after_prevWork _)
  · exact hz.trans (after_prevWork _)

/-! ## The spindle's work -/

theorem Checked.of_sgu {x : State} {g : Sgu} {y : Hyd} (hp : g.p = x.sgu.p) (hy : keptHs y = keptHs x.hs) :
    Checked x { x with sgu := g, hs := y } := by
  refine .of_fields ?_ rfl rfl rfl rfl rfl
  unfold Machine.settings
  dsimp only
  rw [hp, hy]

theorem checked_spindleMeasure (s : State) : Checked s (spindleMeasure s) := by
  obtain ⟨l, n, d, heq⟩ := spindleMeasure_eq s
  rw [heq]
  exact .of_sgu rfl rfl

theorem checked_spindleRamp (s : State) : Checked s (spindleRamp s) := .ite (.of_sgu rfl rfl) (.refl s)

theorem checked_atSpeedTest (s : State) : Checked s (atSpeedTest s) := by
  refine .ite ?_ (.refl s)
  unfold setSpindle
  dsimp only
  rw [if_neg fun e => e.2.2.1 rfl]
  exact .of_sgu rfl rfl

theorem checked_spindleOutput (z : Int) (s : State) : Checked s (spindleOutput z s) := by
  have hout : Checked s { s with sgu.out := clampOut z, sgu.satCount := satNext s.sgu.satCount z } :=
    .of_sgu (y := s.hs) rfl rfl
  have hsat := hout.trans (checked_saturation .spindle 0 z _)
  unfold spindleOutput
  dsimp only
  split
  · exact hsat.trans (checked_fall ..)
  · exact hsat

theorem checked_positionStep (s : State) : Checked s (positionStep s) := by
  unfold positionStep
  dsimp only
  (repeat' split) <;> exact .of_sgu rfl rfl

theorem checked_positionDone (s : State) : Checked s (positionDone s) := by
  unfold positionDone strokeWait hydJoin
  dsimp only
  split
  · split <;> exact .of_sgu rfl rfl
  · exact .refl s

theorem checked_positionLoop (s : State) : Checked s (positionLoop s) := by
  have hprev : Checked (positionStep s) { positionStep s with sgu.pPrev := (positionStep s).sgu.pSet } :=
    .of_sgu (y := (positionStep s).hs) rfl rfl
  have h := ((checked_positionStep s).trans hprev).trans (checked_spindleOutput (loopOutput s.sgu.p.kp s.sgu.p.kff
    (positionError (positionStep s)) ((positionStep s).sgu.pSet - (positionStep s).sgu.pPrev)) _)
  unfold positionLoop
  dsimp only at h ⊢
  split
  · exact h.trans (checked_raiseTrip rfl ..)
  · exact h.trans (checked_positionDone _)

theorem checked_spindleWork (s : State) : Checked s (spindleWork s) := by
  have hm := checked_spindleMeasure s
  unfold spindleWork
  dsimp only
  split
  · exact hm
  · split
    case h_1 | h_2 | h_3 =>
      exact ((hm.trans (checked_spindleRamp _)).trans (checked_atSpeedTest _)).trans (checked_spindleOutput ..)
    · exact hm.trans (checked_positionLoop _)
    all_goals exact hm.trans (checked_spindleOutput ..)

/-! ## The period -/

theorem periodWork_eq {s x : State} (h : allAxes.foldl axisLoop (periodSetpoints s) = x) :
    periodWork s = spindleWork (prevWork
      (if cameToRest (periodSetpoints s) x then drainTest (allAxes.foldl settleHoming (allAxes.foldl hardLimitTest x))
       else allAxes.foldl settleHoming (allAxes.foldl hardLimitTest x))) := by
  rw [← h]; rfl

/-- The rest of a path period behind its setpoints. -/
theorem after_periodWork (s : State) : After (periodSetpoints s) (periodWork s) := by
  rw [periodWork_eq rfl]
  exact (after_axesLoops rfl).trans (checked_spindleWork _).toAfter

/-- In a period without STOP and TRIP an axis ends with its loop done and its setpoint in the previous one (R60, R72). -/
theorem periodWork_ax {s : State} (h : (periodWork s).cn.machine = .ready) (a : Axis) :
    (periodWork s).ax.get a =
      { settledCh (loopCh ((periodSetpoints s).cs.get a).c ((periodSetpoints s).ax.get a)) with
        prev := ((periodSetpoints s).ax.get a).setpoint } := by
  obtain ⟨x, hx⟩ : ∃ x, allAxes.foldl axisLoop (periodSetpoints s) = x := ⟨_, rfl⟩
  rw [periodWork_eq hx] at h ⊢
  have hdrain : ∀ u : State, Checked u (if cameToRest (periodSetpoints s) x then drainTest u else u) := fun u =>
    .ite (checked_drainTest u) (.refl u)
  have hspin := checked_spindleWork (prevWork (if cameToRest (periodSetpoints s) x then
    drainTest (allAxes.foldl settleHoming (allAxes.foldl hardLimitTest x))
    else allAxes.foldl settleHoming (allAxes.foldl hardLimitTest x)))
  have hm1 := hspin.ready h
  rw [hspin.axes h]
  have hm2 := (after_prevWork _).ready hm1
  have hm3 := (hdrain _).ready hm2
  have hax3 := (hdrain _).axes hm2
  have hm4 := (After.foldl after_settleHoming allAxes _).ready hm3
  have hhard := Checked.foldl checked_hardLimitTest allAxes x
  have hm5 := hhard.ready hm4
  have hloop := foldl_axisLoop_ax (s := periodSetpoints s) (by rw [hx]; exact hm5) a
  rw [hx] at hloop
  unfold prevWork
  rw [mapAx_ax, PerAxis.get_map, hax3, foldl_settleHoming_ax, hhard.axes hm4, hloop]
  generalize (periodSetpoints s).ax.get a = k
  have hset : (settledCh (loopCh ((periodSetpoints s).cs.get a).c k)).setpoint = k.setpoint := by
    unfold settledCh; split <;> rfl
  exact congrArg (fun z => { settledCh (loopCh ((periodSetpoints s).cs.get a).c k) with prev := z }) hset

end Sys2Proof.Machine
end

section
/-! SUPPORT/CLAIMS. A homing in the path period (R69 to R73). -/

namespace Sys2Proof.Machine

/-! ## One period of a homing -/

/-- The homing profile of a RELEASED axis at a velocity (R69). -/
def profiledCh (v : Int) (k : AxisCh) : AxisCh :=
  { k with
    hVel := v
    hRem := (k.hRem + v) - (k.hRem + v).tdiv 1000 * 1000
    setpoint := k.setpoint + (k.hRem + v).tdiv 1000 }

/-- The velocity that a homing steps to (R69). -/
def steppedTo (k : AxisCh) (V : Int) : Int := toward k.hVel V (max 1 (k.p.jogAccel / 1000))

theorem homeProfile_true (k : AxisCh) : homeProfile true k = profiledCh (steppedTo k (homeVelocity k)) k := by
  unfold homeProfile
  dsimp only
  rw [if_pos rfl, approach_eq_toward]
  rfl

theorem homeCh_of_runs {on lim : Bool} {k : AxisCh} (h : profileRuns k.phase = true) {c : AxisCh}
    (hc : checksCh on lim k = c) {v : Int} (hv : steppedTo c (homeVelocity c) = v) :
    homeCh on lim true k = movedCh on lim (profiledCh v c) := by
  unfold homeCh
  rw [if_pos h, homeProfile_true, hc, hv]

/-- The channel that a homing leaves where its axis has not come to the end of SETTLE. -/
theorem settledCh_loopCh {c : Int} {k : AxisCh} (h : ¬(k.phase = .settle ∧ k.hVel = 0)) :
    settledCh (loopCh c k) = loopCh c k :=
  if_neg fun e => h ⟨e.1, e.2.1⟩

theorem movedCh_search {on : Bool} {k : AxisCh} (h : k.phase = .search) :
    movedCh on false k = if k.p.homeTravel < (k.setpoint - k.hFrom).natAbs then failCh .travel k else k := by
  unfold movedCh; rw [h]; rfl

theorem movedCh_searchStop {on lim : Bool} {k : AxisCh} (h : k.phase = .searchStop) :
    movedCh on lim k = if k.hVel = 0 then
      { k with phase := .latch, hStep := if on then .inactive else .active, hFrom := k.setpoint, latch := none }
    else k := by
  unfold movedCh
  rw [h]
  dsimp only
  split
  · cases on <;> rfl
  · rfl

theorem movedCh_latch {on : Bool} {k : AxisCh} (h : k.phase = .latch) :
    movedCh on false k =
      if k.hStep = .index then
        (if k.p.indexWindow < (k.setpoint - k.hFrom).natAbs then failCh .index k else k)
      else if k.p.homeTravel < (k.setpoint - k.hFrom).natAbs then failCh .travel k else k := by
  unfold movedCh; rw [h]; rfl

theorem movedCh_end {on lim : Bool} {k : AxisCh} (h : k.phase = .settle ∨ k.phase = .ending) : movedCh on lim k = k := by
  unfold movedCh; rcases h with h | h <;> rw [h]

theorem profileRuns_of {p : HomePhase} (h : p ≠ .none ∧ p ≠ .waitRelease) : profileRuns p = true := by
  unfold profileRuns; simp [h.1, h.2]

/-- A homing axis in a period without STOP and TRIP. -/
theorem homing_period {s : State} {a : Axis} (h : HomingRuns s a) (hr : (periodWork s).cn.machine = .ready) :
    (periodWork s).ax.get a =
      { settledCh (loopCh ((periodWork s).cs.get a).c
          (homeCh (homeSwitch s a) (limitActive s a) true (s.ax.get a))) with
        prev := (homeCh (homeSwitch s a) (limitActive s a) true (s.ax.get a)).setpoint } := by
  obtain ⟨hm, hsq, ho, hrel⟩ := h
  have hpath : pathWork s = s := if_neg (by rw [hsq]; decide)
  have hax : (periodSetpoints s).ax.get a = homeCh (homeSwitch s a) (limitActive s a) true (s.ax.get a) := by
    rw [periodSetpoints_eq, hpath, owned_ax, ← hrel]
    exact ownerCh_of_homing (s := compWork s) (by rw [show (compWork s).cn = s.cn from rfl, hm]; decide) ho _
  have hcs : (periodWork s).cs = (periodSetpoints s).cs :=
    cs_of_settings (after_periodWork s).settings
  rw [periodWork_ax hr, hax, hcs]

/-- The period of O31 in the terms of the channel before it and after its homing's step. -/
theorem homing_steps {s : State} {a : Axis} (h : HomingRuns s a) (hr : (periodWork s).cn.machine = .ready)
    {c : AxisCh} (hc : homeCh (homeSwitch s a) (limitActive s a) true (s.ax.get a) = c)
    (hs : ¬(c.phase = .settle ∧ c.hVel = 0)) :
    (periodWork s).ax.get a = { loopCh ((periodWork s).cs.get a).c c with prev := c.setpoint } := by
  rw [homing_period h hr, hc, settledCh_loopCh hs]

/-! ## The phases -/

section Phases

variable {on : Bool} {k : AxisCh}

theorem homeCh_search (hp : k.phase = .search) {v : Int}
    (hv : steppedTo k ((if k.p.homeDir = 0 then -1 else 1) * k.p.searchSpeed) = v) :
    homeCh false false true k =
      if k.p.homeTravel < ((profiledCh v k).setpoint - k.hFrom).natAbs then failCh .travel (profiledCh v k)
      else profiledCh v k := by
  have hc : checksCh false false k = k := by unfold checksCh; rw [hp]; rfl
  rw [homeCh_of_runs (v := v) (profileRuns_of (by rw [hp]; decide)) hc (by rw [homeVelocity, hp]; exact hv)]
  exact movedCh_search hp

theorem homeCh_searchStop {lim : Bool} (h : (k.phase = .search ∧ on = true) ∨ k.phase = .searchStop) {v : Int}
    (hv : steppedTo k 0 = v) :
    homeCh on lim true k =
      if v = 0 then { profiledCh v k with phase := .latch, hStep := if on then .inactive else .active,
                                          hFrom := (profiledCh v k).setpoint, latch := none }
      else { profiledCh v k with phase := .searchStop } := by
  have hc : checksCh on lim k = { k with phase := .searchStop } := by
    unfold checksCh
    rcases h with ⟨hp, hon⟩ | hp
    · simp [hp, hon, searchCh]
    · have hk : k = { k with phase := .searchStop } := by rw [← hp]
      rw [hp]
      exact hk
  have hr : profileRuns k.phase = true := profileRuns_of (by rcases h with ⟨hp, -⟩ | hp <;> rw [hp] <;> decide)
  rw [homeCh_of_runs (v := v) hr hc hv, movedCh_searchStop rfl]
  rfl

/-- LATCH under the switch before the profile runs, where no index has been latched (R71). -/
theorem checksCh_latch {lim : Bool} (hp : k.phase = .latch) (hl : k.hStep = .index → k.latch = none) :
    checksCh on lim k = if lim then failCh .limit (latchCh on k) else latchCh on k := by
  unfold checksCh
  rw [hp]
  dsimp only
  split
  next l hs he => rw [hl hs] at he; cases he
  next => rfl

theorem latchCh_step (hp : k.phase = .latch) (h : k.hStep = .active ∨ (k.hStep = .inactive ∧ on = true)) :
    latchCh on k = { k with hStep := if on then .inactive else .active } := by
  unfold latchCh
  rw [if_pos hp]
  rcases h with hs | ⟨hs, hon⟩
  · rw [hs]
    cases on
    · rw [show k = { k with hStep := .active } by rw [← hs]]; rfl
    · rfl
  · rw [hs, hon]
    rw [show k = { k with hStep := .inactive } by rw [← hs]]; rfl

theorem latchCh_index (hp : k.phase = .latch) (h : (k.hStep = .inactive ∧ on = false) ∨ (k.hStep = .index ∧ k.latch = none)) :
    latchCh on k = { k with hStep := .index, latch := none,
                            hFrom := if k.hStep = .index then k.hFrom else k.setpoint } := by
  unfold latchCh
  rw [if_pos hp]
  rcases h with ⟨hs, hon⟩ | ⟨hs, hl⟩
  · rw [hs, hon]; rfl
  · have hk : k = { k with hStep := .index, latch := none } := by rw [← hl, ← hs]
    rw [hs, if_pos rfl]
    exact hk

theorem homeCh_latch (hp : k.phase = .latch) (hl : k.hStep = .index → k.latch = none) {c : AxisCh}
    (hc : latchCh on k = c) (hcp : c.phase = .latch) {v : Int}
    (hv : steppedTo c (-(if c.p.homeDir = 0 then -1 else 1) * c.p.latchSpeed) = v) :
    homeCh on false true k =
      if c.hStep = .index then
        (if c.p.indexWindow < ((profiledCh v c).setpoint - c.hFrom).natAbs then failCh .index (profiledCh v c)
         else profiledCh v c)
      else if c.p.homeTravel < ((profiledCh v c).setpoint - c.hFrom).natAbs then failCh .travel (profiledCh v c)
      else profiledCh v c := by
  have hchk : checksCh on false k = c := by rw [checksCh_latch hp hl, hc]; rfl
  have hr : profileRuns k.phase = true := profileRuns_of (by rw [hp]; decide)
  rw [homeCh_of_runs (v := v) hr hchk (by rw [homeVelocity, hcp]; exact hv)]
  exact movedCh_latch hcp

theorem homeCh_limit (h : (k.phase = .search ∧ on = false) ∨ (k.phase = .latch ∧ (k.hStep = .index → k.latch = none)))
    {c : AxisCh} (hc : c = if k.phase = .latch then latchCh on k else k) {v : Int}
    (hv : steppedTo c 0 = v) : homeCh on true true k = profiledCh v (failCh .limit c) := by
  have hchk : checksCh on true k = failCh .limit c := by
    rcases h with ⟨hp, hon⟩ | ⟨hp, hl⟩
    · rw [if_neg (by rw [hp]; decide)] at hc
      unfold checksCh
      rw [hp, hon, hc]; rfl
    · rw [if_pos hp] at hc
      rw [checksCh_latch hp hl, hc]; rfl
  have hr : profileRuns k.phase = true := profileRuns_of (by rcases h with ⟨hp, -⟩ | ⟨hp, -⟩ <;> rw [hp] <;> decide)
  rw [homeCh_of_runs (v := v) hr hchk hv]
  exact movedCh_end (.inr rfl)

theorem homeCh_index {lim : Bool} {l : Int} (hp : k.phase = .latch) (hs : k.hStep = .index) (hl : k.latch = some l) {v : Int}
    (hv : steppedTo k 0 = v) : homeCh on lim true k = profiledCh v (homeShift k l) := by
  have hlatch : latchCh on k = k := by unfold latchCh; rw [if_pos hp, hs]
  have hchk : checksCh on lim k = homeShift k l := by
    unfold checksCh
    rw [hp, hs, hl, hlatch]
  rw [homeCh_of_runs (v := v) (profileRuns_of (by rw [hp]; decide)) hchk hv]
  exact movedCh_end (.inl rfl)

theorem homeCh_end {lim : Bool} (h : k.phase = .settle ∨ k.phase = .ending) {v : Int} (hv : steppedTo k 0 = v) :
    homeCh on lim true k = profiledCh v k := by
  have hchk : checksCh on lim k = k := by unfold checksCh; rcases h with hp | hp <;> rw [hp]
  have hr : profileRuns k.phase = true := profileRuns_of (by rcases h with hp | hp <;> rw [hp] <;> decide)
  rw [homeCh_of_runs (v := v) hr hchk (by rw [homeVelocity]; rcases h with hp | hp <;> rw [hp] <;> exact hv)]
  exact movedCh_end h

end Phases

/-- A homing phase that fails behind a travel (R70, R71). -/
theorem travel_outcome {n c : AxisCh} {z : Int} {L : Nat} {r : HomeReason} {ph : HomePhase} (hc : c.phase = ph)
    (hph : ph ≠ .settle) {d : AxisCh}
    (hd : (if L < (c.setpoint - c.hFrom).natAbs then failCh r c else c) = d)
    (hn : n = { settledCh (loopCh z d) with prev := d.setpoint }) :
    (n.hVel = c.hVel ∧ n.hRem = c.hRem ∧ n.setpoint = c.setpoint ∧ n.owner = c.owner) ∧ n.hFrom = c.hFrom ∧
      n.latch = c.latch ∧ ((n.setpoint - n.hFrom).natAbs ≤ L → n.phase = ph ∧ n.hStep = c.hStep) ∧
      (L < (n.setpoint - n.hFrom).natAbs → n.phase = .ending ∧ n.hFail = some (r, ph)) := by
  subst hc
  by_cases hg : L < (c.setpoint - c.hFrom).natAbs
  · rw [if_pos hg] at hd
    rw [settledCh_loopCh (by rw [← hd]; exact fun e => (nomatch e.1)), ← hd] at hn
    rw [hn]
    exact ⟨⟨rfl, rfl, rfl, rfl⟩, rfl, rfl, fun e => absurd hg (not_lt.2 e), fun _ => ⟨rfl, rfl⟩⟩
  · rw [if_neg hg] at hd
    rw [settledCh_loopCh (by rw [← hd]; exact fun e => hph e.1), ← hd] at hn
    rw [hn]
    exact ⟨⟨rfl, rfl, rfl, rfl⟩, rfl, rfl, fun _ => ⟨rfl, rfl⟩, fun e => absurd e hg⟩

/-- The homing of an axis in a path period without STOP and TRIP (R69 to R73). -/
theorem homing_goes (s : State) (a : Axis) (h : HomingRuns s a) (hr : (periodWork s).cn.machine = .ready) :
    let k := s.ax.get a
    let vel := fun V : Int => toward k.hVel V (max 1 (k.p.jogAccel / 1000))
    let sign : Int := if k.p.homeDir = 0 then -1 else 1
    let on := homeSwitch s a
    let lim := limitActive s a
    let u := periodWork s
    let n := u.ax.get a
    let moved := fun (v d : Int) => n.hVel = v ∧ n.hRem = (k.hRem + v) - (k.hRem + v).tdiv 1000 * 1000 ∧
      n.setpoint = k.setpoint + d + (k.hRem + v).tdiv 1000 ∧ n.owner = .homing
    let gone := (n.setpoint - n.hFrom).natAbs
    (k.phase = .search → on = false → lim = false → moved (vel (sign * k.p.searchSpeed)) 0 ∧ n.hFrom = k.hFrom ∧
      (gone ≤ k.p.homeTravel → n.phase = .search) ∧
      (k.p.homeTravel < gone → n.phase = .ending ∧ n.hFail = some (.travel, .search))) ∧
    ((k.phase = .search ∧ on = true) ∨ k.phase = .searchStop → moved (vel 0) 0 ∧
      (vel 0 ≠ 0 → n.phase = .searchStop ∧ n.hFrom = k.hFrom) ∧
      (vel 0 = 0 → n.phase = .latch ∧ n.hStep = (if on then .inactive else .active) ∧ n.hFrom = n.setpoint ∧
        n.latch = none)) ∧
    (k.phase = .latch → k.hStep = .active ∨ (k.hStep = .inactive ∧ on = true) → lim = false →
      moved (vel (-sign * k.p.latchSpeed)) 0 ∧ n.hFrom = k.hFrom ∧
      (gone ≤ k.p.homeTravel → n.phase = .latch ∧ n.hStep = (if on then .inactive else .active)) ∧
      (k.p.homeTravel < gone → n.phase = .ending ∧ n.hFail = some (.travel, .latch))) ∧
    (k.phase = .latch → (k.hStep = .inactive ∧ on = false) ∨ (k.hStep = .index ∧ k.latch = none) → lim = false →
      moved (vel (-sign * k.p.latchSpeed)) 0 ∧ n.latch = none ∧
      n.hFrom = (if k.hStep = .index then k.hFrom else k.setpoint) ∧
      (gone ≤ k.p.indexWindow → n.phase = .latch ∧ n.hStep = .index) ∧
      (k.p.indexWindow < gone → n.phase = .ending ∧ n.hFail = some (.index, .latch))) ∧
    ((k.phase = .search ∧ on = false) ∨ (k.phase = .latch ∧ (k.hStep = .index → k.latch = none)) → lim = true →
      moved (vel 0) 0 ∧ n.phase = .ending ∧ n.hFail = some (.limit, k.phase)) ∧
    (∀ l, k.phase = .latch → k.hStep = .index → k.latch = some l → vel 0 ≠ 0 →
      moved (vel 0) (k.p.homePosition - l) ∧ n.enc = fit32 (k.enc + (k.p.homePosition - l)) ∧ n.latch = none ∧
        n.phase = .settle) ∧
    (k.phase = .settle ∨ k.phase = .ending → vel 0 ≠ 0 → moved (vel 0) 0 ∧ n.phase = k.phase) ∧
    (k.phase = .settle → k.hVel = 0 → k.hRem.natAbs < 1000 → standsAt k (u.cs.get a).c →
      n.owner = .none ∧ n.phase = .none ∧ n.refd = true ∧ n.setpoint = k.setpoint) := by
  have hn := homing_period h hr
  have ho := h.2.2.1
  dsimp only
  generalize (periodWork s).ax.get a = n at hn ⊢
  generalize ((periodWork s).cs.get a).c = z at hn ⊢
  generalize homeSwitch s a = on at hn ⊢
  generalize limitActive s a = lim at hn ⊢
  generalize s.ax.get a = k at hn ho ⊢
  have hstep : ∀ {c : AxisCh}, homeCh on lim true k = c → ¬(c.phase = .settle ∧ c.hVel = 0) →
      n = { loopCh z c with prev := c.setpoint } := fun hc hs => by
    rw [hn, hc, settledCh_loopCh hs]
  refine ⟨fun hp hon hlim => ?_, fun hp => ?_, fun hp hs hlim => ?_, fun hp hs hlim => ?_, fun hp hlim => ?_,
    fun l hp hs hl hv => ?_, fun hp hv => ?_, fun hp hv hrem hstand => ?_⟩
  · subst hon hlim
    obtain ⟨⟨h1, h2, h3, h4⟩, h5, -, h6, h7⟩ := travel_outcome (ph := .search) (by exact hp) (by decide)
      (homeCh_search hp rfl).symm hn
    exact ⟨⟨h1, h2, by rw [h3, add_zero]; rfl, h4.trans ho⟩, h5, fun e => (h6 e).1, h7⟩
  · have hc := homeCh_searchStop (lim := lim) hp rfl
    by_cases hv : steppedTo k 0 = 0
    · rw [if_pos hv] at hc
      rw [hstep hc (fun e => (nomatch e.1))]
      exact ⟨⟨rfl, rfl, by rw [add_zero]; rfl, ho⟩, fun e => absurd hv e, fun _ => ⟨rfl, rfl, rfl, rfl⟩⟩
    · rw [if_neg hv] at hc
      rw [hstep hc (fun e => (nomatch e.1))]
      exact ⟨⟨rfl, rfl, by rw [add_zero]; rfl, ho⟩, fun _ => ⟨rfl, rfl⟩, fun e => absurd e hv⟩
  · subst hlim
    have hlatch : k.hStep ≠ .index := by rcases hs with hs | ⟨hs, -⟩ <;> rw [hs] <;> decide
    have hc := homeCh_latch hp (fun e => absurd e hlatch) (latchCh_step hp hs) hp rfl
    rw [if_neg (by cases on <;> exact fun e => (nomatch e))] at hc
    obtain ⟨⟨h1, h2, h3, h4⟩, h5, -, h6, h7⟩ := travel_outcome (ph := .latch) (by exact hp) (by decide) hc.symm hn
    exact ⟨⟨h1, h2, by rw [h3, add_zero]; rfl, h4.trans ho⟩, h5, h6, h7⟩
  · subst hlim
    have hlatch : k.hStep = .index → k.latch = none := fun e => by
      rcases hs with ⟨hs, -⟩ | ⟨-, hl⟩
      · rw [hs] at e; cases e
      · exact hl
    have hc := homeCh_latch hp hlatch (latchCh_index hp hs) hp rfl
    rw [if_pos rfl] at hc
    obtain ⟨⟨h1, h2, h3, h4⟩, h5, hl, h6, h7⟩ := travel_outcome (ph := .latch) (by exact hp) (by decide) hc.symm hn
    exact ⟨⟨h1, h2, by rw [h3, add_zero]; rfl, h4.trans ho⟩, hl, h5, h6, h7⟩
  · subst hlim
    obtain ⟨c, hcdef⟩ : ∃ c, c = if k.phase = .latch then latchCh on k else k := ⟨_, rfl⟩
    have hkeep : c.phase = k.phase ∧ c.hVel = k.hVel ∧ c.hRem = k.hRem ∧ c.setpoint = k.setpoint ∧ c.owner = k.owner ∧
        c.p = k.p := by
      rw [hcdef]
      unfold latchCh
      (repeat' split) <;> exact ⟨rfl, rfl, rfl, rfl, rfl, rfl⟩
    obtain ⟨k1, k2, k3, k4, k5, k6⟩ := hkeep
    rw [hstep (homeCh_limit hp hcdef rfl) (fun e => (nomatch e.1))]
    have hv : steppedTo c 0 = toward k.hVel 0 (max 1 (k.p.jogAccel / 1000)) := by unfold steppedTo; rw [k2, k6]
    rw [hv]
    refine ⟨⟨rfl, ?_, ?_, k5.trans ho⟩, rfl, ?_⟩
    · rw [← k3]; rfl
    · rw [add_zero, ← k3, ← k4]; rfl
    · rw [← k1]; rfl
  · rw [hstep (homeCh_index hp hs hl rfl) (fun e => hv e.2)]
    exact ⟨⟨rfl, rfl, rfl, ho⟩, rfl, rfl, rfl⟩
  · rw [hstep (homeCh_end hp rfl) (fun e => hv e.2)]
    exact ⟨⟨rfl, rfl, by rw [add_zero]; rfl, ho⟩, rfl⟩
  · have hzero : steppedTo k 0 = 0 := by
      unfold steppedTo; rw [hv]; exact toward_self 0 _
    have hdiv : (k.hRem + 0).tdiv 1000 = 0 := by rw [add_zero, ← Int.natAbs_eq_zero, Int.natAbs_tdiv]; exact Nat.div_eq_of_lt hrem
    have hsp : (profiledCh 0 k).setpoint = k.setpoint := by
      show k.setpoint + _ = _
      rw [hdiv, add_zero]
    rw [hn, homeCh_end (.inl hp) hzero]
    obtain ⟨hin, hprev⟩ := hstand
    have hrest : (loopCh z (profiledCh 0 k)).atRest = true := by
      show (decide (((profiledCh 0 k).setpoint + z - k.enc).natAbs ≤ k.p.inposWindow) &&
        (profiledCh 0 k).setpoint == k.prev) = true
      rw [hsp, decide_eq_true hin, hprev]
      simp
    have hset : settledCh (loopCh z (profiledCh 0 k)) = _ := if_pos ⟨hp, rfl, hrest⟩
    rw [hset]
    exact ⟨rfl, rfl, rfl, hsp⟩

end Sys2Proof.Machine
end

section
/-! CLAIMS. HOME and the ends of a homing (R68 to R74). -/

namespace Sys2Proof.Machine

/-! ## One closing rule that applies -/

/-- An event in which one closing rule applies and leaves a still state. -/
theorem finish_of_rule {s t : State} (h : rules s = some t) (ht : Still t) : finish s = transmit t := by
  have hstop : settle 511 t = t := by
    show settle (510 + 1) t = t
    unfold settle; rw [show rules t = none from ht.1]
  have hq : quiesce s = quiesce t := by
    rw [quiesce_calm ht.1]
    unfold quiesce tscGuard
    have : settle 512 s = t := by
      show settle (511 + 1) s = t
      unfold settle; rw [h]; exact hstop
    rw [this]
    cases hf : tscFlows t
    · rfl
    · rw [ht.1.permit hf]; rfl
  unfold finish
  rw [hq, quiesce_calm ht.1, pendantSend_of_not_due ht.2]

/-- The pump starts where every other rule rests. -/
theorem rules_pump {s t : State} {y : Hyd} (h : Resting { s with hs := y }) (hoff : s.hs.st = .pumpOff)
    (hp : pumpRule s = some t) : rules s = some t := by
  have hgrant : grantRule s = none := (grantRule_none s).2 fun e => by rw [hoff] at e; exact absurd e.1 (by decide)
  unfold rules
  rw [(engagedRule_none s).2 h.engaged, (levelRule_none _ (gearLostCause s) _ s).2 h.lost,
    (levelRule_none _ (oilLowCause s) _ s).2 h.oil,
    (overloadRule_none s).2 h.overload, hgrant, (clampRule_none s .x).2 (h.clamp .x), (clampRule_none s .y).2 (h.clamp .y),
    (clampRule_none s .z).2 (h.clamp .z), (clampRule_none s .b).2 (h.clamp .b), (spindleRule_none s).2 h.spindle,
    (shiftRule_none s).2 h.shift, (floodRule_none s).2 h.flood, (tscRule_none s).2 h.tsc,
    (homeRule_none s .x).2 (h.home .x), (homeRule_none s .y).2 (h.home .y), (homeRule_none s .z).2 (h.home .z),
    (homeRule_none s .w).2 (h.home .w), (homeRule_none s .b).2 (h.home .b),
    (giveBackRule_none s .x).2 (h.giveBack .x), (giveBackRule_none s .y).2 (h.giveBack .y),
    (giveBackRule_none s .z).2 (h.giveBack .z), (giveBackRule_none s .w).2 (h.giveBack .w),
    (giveBackRule_none s .b).2 (h.giveBack .b), (queueRule_none s).2 ⟨h.record, h.queue⟩, hp]
  rfl

/-- A homing's rule applies where every other rule rests. -/
theorem rules_home {s t : State} {a : Axis} {f : AxisCh → AxisCh} (h : Resting (updAx a f s))
    (hf : (f (s.ax.get a)).owner = (s.ax.get a).owner) (ho : (s.ax.get a).owner = .homing)
    (ht : homeRule s a = some t) : rules s = some t := by
  have howner : ∀ b, ((updAx a f s).ax.get b).owner = (s.ax.get b).owner := fun b => by
    show ((s.ax.upd a f).get b).owner = _
    rw [PerAxis.get_upd]
    split
    · next e => subst e; exact hf
    · rfl
  have hclamp : ∀ c, clampRule s c = none := fun c => by
    have := h.clamp c
    unfold ClampRests at this
    rw [show idleRuns (updAx a f s) c = idleRuns s c by unfold idleRuns; rw [howner]; rfl] at this
    exact (clampRule_none s c).2 this
  have hhome : ∀ b, b ≠ a → homeRule s b = none := fun b hb => by
    have := h.home b
    unfold homeRests at this
    rw [show (updAx a f s).ax.get b = s.ax.get b by
      show (s.ax.upd a f).get b = _
      rw [PerAxis.get_upd, if_neg hb.symm]] at this
    exact (homeRule_none s b).2 this
  unfold rules
  rw [(engagedRule_none s).2 h.engaged, (levelRule_none _ (gearLostCause s) _ s).2 h.lost,
    (levelRule_none _ (oilLowCause s) _ s).2 h.oil,
    (overloadRule_none s).2 h.overload, (grantRule_none s).2 h.grant, hclamp, hclamp, hclamp, hclamp,
    (spindleRule_none s).2 h.spindle, (shiftRule_none s).2 h.shift, (floodRule_none s).2 h.flood,
    (tscRule_none s).2 h.tsc]
  cases a
  · rw [ht]; rfl
  · rw [hhome .x (by decide), ht]; rfl
  · rw [hhome .x (by decide), hhome .y (by decide), ht]; rfl
  · rw [hhome .x (by decide), hhome .y (by decide), hhome .z (by decide), ht]; rfl
  · rw [hhome .x (by decide), hhome .y (by decide), hhome .z (by decide), hhome .w (by decide), ht]; rfl

/-! ## Axes that rest -/

/-- Axis channels that the closing rules do not tell apart but for their homings. -/
theorem Resting.homings {s : State} (h : Resting s) {v : PerAxis AxisCh}
    (hrest : ∀ a, (v.get a).atRest = (s.ax.get a).atRest)
    (hhome : ∀ a, homeRests { s with ax := v } a = true)
    (howner : ∀ a, (v.get a).owner = (s.ax.get a).owner ∨
      ((v.get a).owner = .homing ∧ (s.ax.get a).owner ≠ .queue ∧ ∀ c, clampAxis c = a → (s.cc.get c).idle = 0))
    (hset : ∀ a, (v.get a).setpoint = (s.ax.get a).setpoint) : Resting { s with ax := v } := by
  have hall : allAtRest { s with ax := v } = allAtRest s := by unfold allAtRest; simp only [hrest]
  have hqueue : queueAxesAtRest { s with ax := v } = queueAxesAtRest s := by
    unfold queueAxesAtRest
    congr 1
    funext a
    simp only [hrest]
    rcases howner a with e | ⟨e, hn, -⟩
    · rw [e]
    · rw [e]
      cases ho : (s.ax.get a).owner
      case queue => exact absurd ho hn
      all_goals rfl
  have hjog : ∀ a, jogOver { s with ax := v } a = jogOver s a := fun a => by unfold jogOver; simp only [hset]
  refine { h with clamp := fun c => ?_, home := hhome, giveBack := fun a => ?_, record := ?_, machine := ?_ }
  · obtain ⟨h1, h2, h3, h4, h5⟩ := h.clamp c
    rcases howner (clampAxis c) with e | ⟨e, -, hidle⟩
    · have hi : idleRuns { s with ax := v } c = idleRuns s c := by unfold idleRuns; rw [e]
      exact ⟨h1, h2, h3, by rw [hi]; exact h4, by rw [hi]; exact h5⟩
    · have hi : idleRuns { s with ax := v } c = false := by unfold idleRuns; rw [e]; simp
      exact ⟨h1, h2, h3, by rw [hi]; exact fun e => (nomatch e.1), fun _ => hidle c rfl⟩
  · rw [hjog]
    dsimp only
    rcases howner a with e | ⟨e, -⟩
    · rw [e, hrest]; exact h.giveBack a
    · rw [e]; exact fun e => (nomatch e.1)
  · have := h.record
    unfold recordRests at this ⊢
    rw [hqueue]
    exact this
  · unfold readyTest; rw [hall]; exact h.machine

/-! ## HOME (R68) -/

/-- The channel of an axis that HOME takes (R68). -/
def homeTaken (ph : HomePhase) (k : AxisCh) : AxisCh :=
  { k with owner := .homing, refd := false, hVel := 0, hRem := 0, hFail := none, phase := ph }

/-- A free axis taken by HOME, its homing not about to change, rests. -/
theorem Resting.homed {s : State} (h : Resting s) {a : Axis} (ho : (s.ax.get a).owner = .none)
    (hidle : ∀ c, (s.cc.get c).idle = 0) {f : AxisCh → AxisCh}
    (hf : (f (s.ax.get a)).owner = .homing ∧ (f (s.ax.get a)).atRest = (s.ax.get a).atRest ∧
      (f (s.ax.get a)).setpoint = (s.ax.get a).setpoint)
    (hph : (f (s.ax.get a)).phase = .search ∨ ((f (s.ax.get a)).phase = .waitRelease ∧ released s a = false)) :
    Resting (Machine.updAx a f s) := by
  have hself : (s.ax.upd a f).get a = f (s.ax.get a) := by rw [PerAxis.get_upd, if_pos rfl]
  have hother : ∀ b, b ≠ a → (s.ax.upd a f).get b = s.ax.get b := fun b hb => by rw [PerAxis.get_upd, if_neg hb.symm]
  refine h.homings (fun b => ?_) (fun b => ?_) (fun b => ?_) (fun b => ?_) <;> by_cases hb : b = a
  · subst hb; rw [hself]; exact hf.2.1
  · rw [hother b hb]
  · subst hb
    unfold homeRests
    dsimp only
    rw [hself]
    rcases hph with e | ⟨e, hr⟩
    · rw [e]
    · rw [e]
      dsimp only
      rw [show released { s with ax := s.ax.upd b f } b = released s b from rfl, hr]; rfl
  · have := h.home b
    unfold homeRests at this ⊢
    dsimp only
    rw [hother b hb]
    exact this
  · subst hb
    exact .inr ⟨by rw [hself]; exact hf.1, by rw [ho]; decide, fun c _ => hidle c⟩
  · exact .inl (by rw [hother b hb])
  · subst hb; rw [hself]; exact hf.2.2
  · rw [hother b hb]

theorem serveHome_taken {s : State} {i : Nat} {a : Axis} (hi : axisOf i = some a) (hm : s.cn.machine = .ready)
    (hsq : s.sq.st = .idle) (ho : (s.ax.get a).owner = .none) (hl : limitActive s a = false) :
    serveHome i s = plain .ok (takeHome a s) := by
  unfold serveHome
  rw [hi]
  dsimp only
  rw [if_neg (by rw [hm]; decide), if_neg (by rw [hm]; decide), if_neg (by rw [hsq]; decide), if_neg (by rw [ho]; decide),
    if_neg (by rw [hl]; decide)]

theorem home_released {s : State} {tag i : Nat} {a : Axis} (h : Still s) (hfree : LinkFree s) (hi : axisOf i = some a)
    (hm : s.cn.machine = .ready) (hsq : s.sq.st = .idle) (ho : (s.ax.get a).owner = .none) (hl : limitActive s a = false)
    (hidle : ∀ c, (s.cc.get c).idle = 0) (hr : released s a = true) :
    exec (.home tag i) s = .next (transmit (replied 0x18 tag ⟨.ok, []⟩
      (updAx a (fun k => { homeTaken .search k with hFrom := k.setpoint }) s))) := by
  have hserve : serve (.home i) (linkCleared s) = (⟨.ok, []⟩, linkCleared (updAx a (homeTaken .waitRelease) s)) := by
    refine (serveHome_taken (s := linkCleared s) hi hm hsq ho hl).trans ?_
    unfold takeHome
    rw [if_pos (by exact hr)]
    rfl
  rw [exec_taken_finish (c := .home tag i) (r := .home i) rfl hfree hserve]
  congr 1
  have hrest := h.resting.homed (a := a) ho hidle (f := fun k => { homeTaken .search k with hFrom := k.setpoint })
    ⟨rfl, rfl, rfl⟩ (.inl rfl)
  have heq : updAx a (fun k => { k with phase := .search, hFrom := k.setpoint, hVel := 0, hRem := 0 })
      (replied 0x18 tag ⟨.ok, []⟩ (updAx a (homeTaken .waitRelease) s)) =
      replied 0x18 tag ⟨.ok, []⟩ (updAx a (fun k => { homeTaken .search k with hFrom := k.setpoint }) s) := by
    have := updAx_updAx a (homeTaken .waitRelease)
      (fun k => { k with phase := .search, hFrom := k.setpoint, hVel := 0, hRem := 0 }) s
    exact congrArg (replied 0x18 tag ⟨.ok, []⟩) this
  have hrule : homeRule (replied 0x18 tag ⟨.ok, []⟩ (updAx a (homeTaken .waitRelease) s)) a =
      some (replied 0x18 tag ⟨.ok, []⟩ (updAx a (fun k => { homeTaken .search k with hFrom := k.setpoint }) s)) := by
    rw [← heq]
    have hget : ((updAx a (homeTaken .waitRelease) s).ax.get a).phase = .waitRelease := by
      show ((s.ax.upd a _).get a).phase = _
      rw [PerAxis.get_upd, if_pos rfl]; rfl
    unfold homeRule
    dsimp only
    rw [show (replied 0x18 tag ⟨.ok, []⟩ (updAx a (homeTaken .waitRelease) s)).ax.get a =
      (updAx a (homeTaken .waitRelease) s).ax.get a from rfl, hget]
    exact if_pos hr
  have hown : ((updAx a (homeTaken .waitRelease) s).ax.get a).owner = .homing := by
    show ((s.ax.upd a _).get a).owner = _
    rw [PerAxis.get_upd, if_pos rfl]; rfl
  refine finish_of_rule (rules_home (s := replied 0x18 tag ⟨.ok, []⟩ (updAx a (homeTaken .waitRelease) s))
    (f := fun k => { k with phase := .search, hFrom := k.setpoint, hVel := 0, hRem := 0 }) ?_ rfl hown hrule)
    ((hrest.replied ..).still h.2)
  rw [heq]
  exact hrest.replied ..

/-- An asked clamp of a supply that is off: the pump starts for it (R100). -/
theorem Resting.askedOff {s : State} (h : Resting s) (hp : hydMin s = false) {c : ClampAxis} (t : Timer)
    (hidle : (s.cc.get c).idle = 0) (r : HydReq) :
    Resting { s with
      cc := s.cc.upd c fun k => { k with st := .releaseWait }
      hs := { s.hs with fifo := [r], st := .starting, startT := t, offDelay := .stopped } } := by
  have hheld : Resting { s with hs := { s.hs with holder := some r, st := .starting, startT := t, offDelay := .stopped } } :=
    { h with
      grant := fun e => (nomatch e.1)
      pump := by
        unfold pumpRests
        dsimp only
        rw [show pumpDemand { s with hs := { s.hs with holder := some r, st := .starting, startT := t, offDelay := .stopped } } =
          true by unfold pumpDemand; simp]
        rfl
      supply := fun e => by
        have hmin : hydMin s = true := e.2.1
        rw [hp] at hmin
        cases hmin }
  have hasked := hheld.asked (by simp) c (f := fun k => { k with st := .releaseWait }) r (.inr rfl) hidle
  exact { hasked with
    grant := fun e => (nomatch e.1)
    pump := by
      unfold pumpRests
      dsimp only
      rw [show pumpDemand { s with
        cc := s.cc.upd c fun k => { k with st := .releaseWait }
        hs := { s.hs with fifo := [r], st := .starting, startT := t, offDelay := .stopped } } = true by
          unfold pumpDemand; simp]
      rfl }

theorem axisNeed_clamped {u : State} {a : Axis} {c : ClampAxis} (hc : clampOfAxis a = some c) (hm : u.cn.machine = .ready)
    (hpol : (u.cc.get c).policy ≠ .never) (hst : (u.cc.get c).st = .clamped) (q : Nat) :
    axisNeed a q u = { u with
      cc := u.cc.upd c fun k => { k with st := .releaseWait }
      hs.fifo := u.hs.fifo ++ [⟨.axis c, .release⟩] } := by
  unfold axisNeed moveNeed
  rw [hc]
  dsimp only
  rw [if_neg (by rw [hst]; exact fun e => (nomatch e.2.2))]
  exact releaseNeed_clamped (by rw [hm]; decide) hpol hst

theorem takeHome_clamped {s : State} {a : Axis} {c : ClampAxis} (hc : clampOfAxis a = some c) (hm : s.cn.machine = .ready)
    (hpol : (s.cc.get c).policy ≠ .never) (hst : (s.cc.get c).st = .clamped) (hnot : released s a = false)
    (hfifo : s.hs.fifo = []) :
    takeHome a s = { s with
      ax := s.ax.upd a (homeTaken .waitRelease)
      cc := s.cc.upd c fun k => { k with st := .releaseWait }
      hs.fifo := [⟨.axis c, .release⟩] } := by
  unfold takeHome
  rw [if_neg (by rw [hnot]; decide), axisNeed_clamped hc (by exact hm) (by exact hpol) (by exact hst)]
  show ({ s with
      ax := s.ax.upd a (homeTaken .waitRelease)
      cc := s.cc.upd c fun k => { k with st := .releaseWait }
      hs.fifo := s.hs.fifo ++ [⟨.axis c, .release⟩] } : State) = _
  rw [hfifo]
  rfl

theorem home_clamped {s : State} {tag i : Nat} {a : Axis} (h : Still s) (hfree : LinkFree s) (hi : axisOf i = some a)
    (hm : s.cn.machine = .ready) (hsq : s.sq.st = .idle) (ho : (s.ax.get a).owner = .none) (hl : limitActive s a = false)
    (hidle : ∀ c, (s.cc.get c).idle = 0) {c : ClampAxis} (hc : clampOfAxis a = some c) (hst : (s.cc.get c).st = .clamped)
    (hpol : (s.cc.get c).policy ≠ .never) (hoff : s.hs.st = .pumpOff) (hfifo : s.hs.fifo = []) (hmin : hydMin s = false) :
    exec (.home tag i) s = .next (transmit (replied 0x18 tag ⟨.ok, []⟩
      { s with
        ax := s.ax.upd a (homeTaken .waitRelease)
        cc := s.cc.upd c fun k => { k with st := .releaseWait }
        hs := { s.hs with fifo := [⟨.axis c, .release⟩], st := .starting, startT := .start s.hs.startTimeP,
                          offDelay := .stopped } })) := by
  have hnot : released s a = false := by
    rw [← Bool.not_eq_true, released_iff]
    intro e
    rw [e c hc] at hst
    cases hst
  obtain ⟨t, ht⟩ : ∃ t : State, t = { s with
      ax := s.ax.upd a (homeTaken .waitRelease)
      cc := s.cc.upd c fun k => { k with st := .releaseWait }
      hs.fifo := [⟨.axis c, .release⟩] } := ⟨_, rfl⟩
  have hserve : serve (.home i) (linkCleared s) = (⟨.ok, []⟩, linkCleared t) := by
    refine (serveHome_taken (s := linkCleared s) hi hm hsq ho hl).trans ?_
    rw [takeHome_clamped (s := linkCleared s) hc hm hpol hst hnot hfifo, ht]
    rfl
  rw [exec_taken_finish (c := .home tag i) (r := .home i) rfl hfree hserve, show requestKind (.home i) = 0x18 from rfl]
  have hrest := ((h.resting.homed (a := a) ho hidle (f := homeTaken .waitRelease) ⟨rfl, rfl, rfl⟩
    (.inr ⟨rfl, hnot⟩)).askedOff (c := c) hmin (.start s.hs.startTimeP) (hidle c) ⟨.axis c, .release⟩).replied 0x18 tag ⟨.ok, []⟩
  refine congrArg _ (finish_of_rule (rules_pump (y := { s.hs with
    fifo := [⟨.axis c, .release⟩], st := .starting, startT := .start s.hs.startTimeP, offDelay := .stopped }) ?_ ?_ ?_)
    (hrest.still h.2))
  · rw [ht]; exact hrest
  · rw [ht]; exact hoff
  · have hdemand : pumpDemand (replied 0x18 tag ⟨.ok, []⟩ t) = true := by rw [ht]; unfold pumpDemand; simp [replied]
    have hpump : (replied 0x18 tag ⟨.ok, []⟩ t).hs.st = .pumpOff := by rw [ht]; exact hoff
    have hmach : (replied 0x18 tag ⟨.ok, []⟩ t).cn.machine = .ready := by rw [ht]; exact hm
    unfold pumpRule
    rw [hpump]
    dsimp only
    rw [if_pos ⟨by rw [hmach]; decide, hdemand⟩, ht]
    rfl

/-! ## The home switch (R70, R71) -/

/-- The closing rules read no limit and no home switch. -/
theorem Resting.switches {s : State} (h : Resting s) {v : Vector InputCh 32}
    (hv : ∀ n : Fin 32, n.val < 4 ∨ 16 < n.val → v[n].filt = s.inp[n].filt) : Resting { s with inp := v } := by
  have hin : ∀ n : Fin 32, n.val < 4 ∨ 16 < n.val → inputOn { s with inp := v } n = inputOn s n := hv
  have hend : endSensor { s with inp := v } = endSensor s := by
    funext c e; cases c <;> cases e <;> exact hin _ (by decide)
  have hclamped : clampedSensor { s with inp := v } = clampedSensor s := by
    funext c; cases c <;> exact hin _ (by decide)
  have hreleased : releasedSensor { s with inp := v } = releasedSensor s := by
    funext c; cases c <;> exact hin _ (by decide)
  have hwith : consistentWith { s with inp := v } = consistentWith s := by
    funext r; unfold consistentWith shownEnd; rw [hend]
  have htarget : targetOn { s with inp := v } = targetOn s := by funext r c; unfold targetOn; rw [hend]
  have hopposite : oppositeOn { s with inp := v } = oppositeOn s := by funext r c; unfold oppositeOn; rw [hend, htarget]
  have hready : spindleReady { s with inp := v } = spindleReady s := hin 2 (by decide)
  have henable : enableContact { s with inp := v } = enableContact s := hin 3 (by decide)
  have hover : hydOverload { s with inp := v } = hydOverload s := hin 29 (by decide)
  exact { h with
    engaged := fun r hr => by rw [hwith]; exact h.engaged r hr
    lost := by
      show rawOf s _ = _
      unfold gearLostCause consistentRange; rw [hwith]; exact h.lost
    clamp := fun c => by
      unfold ClampRests releaseMet clampMet; rw [hclamped, hreleased]; exact h.clamp c
    spindle := by unfold SpindleRests; rw [hready]; exact h.spindle
    shift := by unfold shiftRests; rw [htarget, hopposite, hready]; exact h.shift
    giveBack := fun a => by
      unfold jogPermitted; rw [henable]; exact h.giveBack a
    supply := by rw [hover]; exact h.supply }

/-- A homing before its end wakes no closing rule with its phase. -/
theorem Resting.phased {s : State} (h : Resting s) {a : Axis} {f : AxisCh → AxisCh}
    (hf : (f (s.ax.get a)).owner = (s.ax.get a).owner ∧ (f (s.ax.get a)).atRest = (s.ax.get a).atRest ∧
      (f (s.ax.get a)).setpoint = (s.ax.get a).setpoint ∧ (f (s.ax.get a)).hVel = (s.ax.get a).hVel)
    (hph : (f (s.ax.get a)).phase = (s.ax.get a).phase ∨ (f (s.ax.get a)).phase = .searchStop) :
    Resting (Machine.updAx a f s) := by
  have hself : (s.ax.upd a f).get a = f (s.ax.get a) := by rw [PerAxis.get_upd, if_pos rfl]
  have hother : ∀ b, b ≠ a → (s.ax.upd a f).get b = s.ax.get b := fun b hb => by rw [PerAxis.get_upd, if_neg hb.symm]
  refine h.homings (fun b => ?_) (fun b => ?_) (fun b => ?_) (fun b => ?_) <;> by_cases hb : b = a
  · subst hb; rw [hself]; exact hf.2.1
  · rw [hother b hb]
  · subst hb
    have := h.home b
    unfold homeRests at this ⊢
    dsimp only
    rw [hself]
    rcases hph with e | e
    · rw [e, hf.2.1, hf.2.2.2]; exact this
    · rw [e]
  · have := h.home b
    unfold homeRests at this ⊢
    dsimp only
    rw [hother b hb]
    exact this
  · subst hb; exact .inl (by rw [hself]; exact hf.1)
  · exact .inl (by rw [hother b hb])
  · subst hb; rw [hself]; exact hf.2.2.1
  · rw [hother b hb]

/-- A change of a home switch: the input, and what the homing makes of it. -/
theorem homeSwitch_due {s : State} {a : Axis} {n : Fin 32} (h : Still s) (hn : n.val = 12 + axisIdx a)
    (hft : s.inp[n].ft ≤ s.inp[n].t) (hdue : s.inp[n].settled = false ∨ s.inp[n].raw ≠ s.inp[n].filt) :
    exec (.inputFilterTimeReached n) s = .next (transmit
      { s with
        inp := s.inp.set n { s.inp[n] with filt := s.inp[n].raw, settled := true }
        ax := s.ax.upd a fun k => latchCh s.inp[n].raw (searchCh s.inp[n].raw k) }) := by
  have hd : s.inp[n].due = true := by
    unfold InputCh.due; rw [decide_eq_true hft, Bool.true_and]; simpa using hdue
  obtain ⟨w, hw⟩ : ∃ w, updInp n (fun i => { i with filt := i.raw, settled := true }) s = w := ⟨_, rfl⟩
  have hdel : ∀ u : State, deliver n u = homeSwitchChanged a u := fun u => by
    cases a
    · obtain rfl : n = 12 := Fin.ext hn
      rfl
    · obtain rfl : n = 13 := Fin.ext hn
      rfl
    · obtain rfl : n = 14 := Fin.ext hn
      rfl
    · obtain rfl : n = 15 := Fin.ext hn
      rfl
    · obtain rfl : n = 16 := Fin.ext hn
      rfl
  have hsw : homeSwitch w a = s.inp[n].raw := by
    have hget : w.inp[n].filt = s.inp[n].raw := by rw [← hw]; simp [updInp]
    rw [← hget]
    cases a
    · obtain rfl : n = 12 := Fin.ext hn
      rfl
    · obtain rfl : n = 13 := Fin.ext hn
      rfl
    · obtain rfl : n = 14 := Fin.ext hn
      rfl
    · obtain rfl : n = 15 := Fin.ext hn
      rfl
    · obtain rfl : n = 16 := Fin.ext hn
      rfl
  have hstep : filterStep n s = updAx a (fun k => latchCh s.inp[n].raw (searchCh s.inp[n].raw k)) w := by
    unfold filterStep
    rw [if_pos hd, hw, hdel]
    unfold homeSwitchChanged
    rw [searchSwitch_eq, latchSwitch_eq, updAx_updAx]
    rw [show homeSwitch (updAx a _ w) a = homeSwitch w a from rfl, hsw]
  have hrest : Resting w := by
    rw [← hw]
    refine h.resting.switches fun m hm => ?_
    show (s.inp.set n.val _)[m.val].filt = s.inp[m.val].filt
    rw [Vector.getElem_set, if_neg]
    have : axisIdx a ≤ 4 := by cases a <;> decide
    omega
  have hkeep : ∀ k : AxisCh, (latchCh s.inp[n].raw (searchCh s.inp[n].raw k)).owner = k.owner ∧
      (latchCh s.inp[n].raw (searchCh s.inp[n].raw k)).atRest = k.atRest ∧
      (latchCh s.inp[n].raw (searchCh s.inp[n].raw k)).setpoint = k.setpoint ∧
      (latchCh s.inp[n].raw (searchCh s.inp[n].raw k)).hVel = k.hVel := fun k => by
    unfold latchCh searchCh; (repeat' split) <;> exact ⟨rfl, rfl, rfl, rfl⟩
  have hphase : ∀ k : AxisCh, (latchCh s.inp[n].raw (searchCh s.inp[n].raw k)).phase = k.phase ∨
      (latchCh s.inp[n].raw (searchCh s.inp[n].raw k)).phase = .searchStop := fun k => by
    have hl : ∀ k : AxisCh, (latchCh s.inp[n].raw k).phase = k.phase := fun k => by
      unfold latchCh; (repeat' split) <;> rfl
    rw [hl]
    unfold searchCh
    split
    · exact .inr rfl
    · exact .inl rfl
  show done (filterStep n s) = _
  rw [hstep, done_still ((hrest.phased (a := a) (hkeep _) (hphase _)).still (by rw [← hw]; exact h.2)), ← hw]
  rfl

/-! ## The ends of a homing -/

/-- A homing in ENDING whose axis is at rest ends (R73). -/
theorem homeRule_end {s : State} {a : Axis} {r : HomeReason} {ph : HomePhase} (hp : (s.ax.get a).phase = .ending)
    (hv : (s.ax.get a).hVel = 0) (hrest : (s.ax.get a).atRest = true) (hf : (s.ax.get a).hFail = some (r, ph)) :
    homeRule s a = some (queueReport (.homeDone a (.failed r ph)) (latch (.referenceFailed a) 0 r.num
      (updAx a (fun k => { k with phase := .none, owner := .none, refd := false, hVel := 0, hRem := 0, hFail := none })
        s))) := by
  have hclose : ((homeClose a s).ax.get a).phase = .none ∧ ((homeClose a s).ax.get a).hFail = some (r, ph) := by
    show ((s.ax.upd a _).get a).phase = _ ∧ ((s.ax.upd a _).get a).hFail = _
    rw [PerAxis.get_upd, if_pos rfl]
    exact ⟨rfl, hf⟩
  have hupd : updAx a (fun k => { k with hFail := none }) (homeClose a s) =
      updAx a (fun k => { k with phase := .none, owner := .none, refd := false, hVel := 0, hRem := 0, hFail := none }) s := by
    unfold homeClose
    rw [updAx_updAx]
    exact updAx_congr (by rw [hf]; simp)
  unfold homeRule
  dsimp only
  rw [hp]
  dsimp only
  rw [if_pos ⟨hv, hrest⟩]
  unfold homeEnd homeReport
  rw [hclose.1, hclose.2]
  dsimp only
  rw [hupd]

/-! ## A TRIP of a homing (R74) -/

/-- What a TRIP leaves of a homing before its report, with the reason of a failure (R74). -/
def trippedCh (why : HomeReason) (k : AxisCh) : AxisCh :=
  match k.phase with
  | .none => k
  | .settle => { k with phase := .none, owner := .none, refd := true, hVel := 0, hRem := 0 }
  | .ending => { k with phase := .none, owner := .none, refd := k.refd && k.hFail.isNone, hVel := 0, hRem := 0 }
  | ph => { k with phase := .none, owner := .none, refd := false, hVel := 0, hRem := 0, hFail := some (why, ph) }

/-- The part of a state that the end of one homing reads and writes. -/
def homingView (a : Axis) (s : State) : AxisCh × CondEntry × Nat :=
  (s.ax.get a, condEntry s (.referenceFailed a), s.hlp.ms)

theorem trippedCh_settle {why : HomeReason} {k : AxisCh} (h : k.phase = .settle) :
    trippedCh why k = { k with phase := .none, owner := .none, refd := true, hVel := 0, hRem := 0 } := by
  unfold trippedCh; rw [h]

theorem trippedCh_ending {why : HomeReason} {k : AxisCh} (h : k.phase = .ending) :
    trippedCh why k = { k with phase := .none, owner := .none, refd := k.refd && k.hFail.isNone, hVel := 0, hRem := 0 } := by
  unfold trippedCh; rw [h]

theorem trippedCh_aborted {why : HomeReason} {k : AxisCh} (h1 : k.phase ≠ .none) (h2 : k.phase ≠ .settle)
    (h3 : k.phase ≠ .ending) :
    trippedCh why k = { k with phase := .none, owner := .none, refd := false, hVel := 0, hRem := 0,
                               hFail := some (why, k.phase) } := by
  unfold trippedCh
  split
  next hp => exact absurd hp h1
  next hp => exact absurd hp h2
  next hp => exact absurd hp h3
  next => rfl

theorem homeTrip_ax (s : State) (a : Axis) : (homeTrip s a).ax = s.ax.upd a (trippedCh (homeReason s a .aborted)) := by
  unfold homeTrip
  split
  next hp => exact (PerAxis.upd_self (by unfold trippedCh; rw [hp])).symm
  next hp =>
    unfold homeOk
    rw [queueReport_ax, updAx_ax]
    exact PerAxis.upd_congr (trippedCh_settle hp).symm
  next hp =>
    unfold homeClose
    rw [updAx_ax]
    exact PerAxis.upd_congr (trippedCh_ending hp).symm
  next h1 h2 h3 =>
    unfold homeClose homeFail
    rw [updAx_updAx, updAx_ax]
    refine PerAxis.upd_congr ?_
    rw [trippedCh_aborted h1 h2 h3]
    simp

theorem homingView_homeTrip_other {s : State} {a b : Axis} (h : b ≠ a) :
    homingView a (homeTrip s b) = homingView a s ∧ (homeTrip s b).inp = s.inp := by
  have hcond : condEntry (homeTrip s b) (.referenceFailed a) = condEntry s (.referenceFailed a) :=
    congrArg Prod.snd (watched_homeTrip (.referenceFailed a) s b)
  have hhlp : (homeTrip s b).hlp = s.hlp ∧ (homeTrip s b).inp = s.inp := by
    unfold homeTrip homeOk
    split <;> simp [homeClose, homeFail]
  unfold homingView
  rw [homeTrip_ax, PerAxis.get_upd, if_neg h, hcond, hhlp.1]
  exact ⟨rfl, hhlp.2⟩

theorem homingView_homeTrip (s : State) (a : Axis) :
    homingView a (homeTrip s a) = (trippedCh (if limitActive s a then .limit else .aborted) (s.ax.get a),
      (homingView a s).2) := by
  have hcond : condEntry (homeTrip s a) (.referenceFailed a) = condEntry s (.referenceFailed a) :=
    congrArg Prod.snd (watched_homeTrip (.referenceFailed a) s a)
  have hhlp : (homeTrip s a).hlp = s.hlp := by
    unfold homeTrip homeOk
    split <;> simp [homeClose, homeFail]
  unfold homingView
  rw [homeTrip_ax, PerAxis.get_upd, if_pos rfl, hcond, hhlp]
  rfl

/-- A homing's part of a state after the report of its failure (R73). -/
def reportedView (a : Axis) (v : AxisCh × CondEntry × Nat) : AxisCh × CondEntry × Nat :=
  match v.1.phase, v.1.hFail with
  | .none, some (r, _) =>
    ({ v.1 with hFail := none }, { v.2.1 with latched := true, last := some ⟨v.2.2, 0, fit32 r.num⟩ }, v.2.2)
  | _, _ => v

theorem homingView_homeReport (s : State) (a : Axis) : homingView a (homeReport s a) = reportedView a (homingView a s) := by
  unfold homeReport
  split
  next r ph hp hf =>
    have hv : reportedView a (homingView a s) =
        ({ s.ax.get a with hFail := none },
          { condEntry s (.referenceFailed a) with latched := true, last := some ⟨s.hlp.ms, 0, fit32 r.num⟩ }, s.hlp.ms) := by
      unfold reportedView homingView
      dsimp only
      rw [hp, hf]
    rw [hv]
    unfold homingView
    rw [condEntry_queueReport, condEntry_latch, if_pos rfl]
    simp only [queueReport_ax, latch_ax, queueReport_hlp, latch_hlp]
    refine Prod.ext ?_ rfl
    show (s.ax.upd a _).get a = _
    rw [PerAxis.get_upd, if_pos rfl]
  next h =>
    unfold reportedView
    split
    next r ph hp hf => exact (h r ph hp hf).elim
    next => rfl

theorem homingView_homeReport_other {s : State} {a b : Axis} (h : b ≠ a) :
    homingView a (homeReport s b) = homingView a s := by
  unfold homeReport
  split
  · unfold homingView
    rw [condEntry_queueReport, condEntry_latch, if_neg (fun e => h (by cases e; rfl))]
    simp only [queueReport_ax, latch_ax, queueReport_hlp, latch_hlp]
    refine Prod.ext ?_ rfl
    show (s.ax.upd b _).get a = _
    rw [PerAxis.get_upd, if_neg h]
  · rfl

theorem foldl_homeReport_view (s : State) (a : Axis) :
    homingView a (allAxes.foldl homeReport s) = reportedView a (homingView a s) := by
  simp only [allAxes, List.foldl]
  have hne : ∀ {b : Axis} (u : State), b ≠ a → homingView a (homeReport u b) = homingView a u :=
    fun u h => homingView_homeReport_other h
  cases a
  · rw [hne _ (by decide), hne _ (by decide), hne _ (by decide), hne _ (by decide), homingView_homeReport]
  · rw [hne _ (by decide), hne _ (by decide), hne _ (by decide), homingView_homeReport, hne _ (by decide)]
  · rw [hne _ (by decide), hne _ (by decide), homingView_homeReport, hne _ (by decide), hne _ (by decide)]
  · rw [hne _ (by decide), homingView_homeReport, hne _ (by decide), hne _ (by decide), hne _ (by decide)]
  · rw [homingView_homeReport, hne _ (by decide), hne _ (by decide), hne _ (by decide), hne _ (by decide)]

theorem limitActive_homeTrip (s : State) (a b : Axis) : limitActive (homeTrip s b) a = limitActive s a := by
  refine limitActive_of_inp ?_ a
  unfold homeTrip homeOk
  split <;> simp [homeClose, homeFail]

theorem foldl_homeTrip_view (s : State) (a : Axis) :
    homingView a (allAxes.foldl homeTrip s) =
      (trippedCh (if limitActive s a then .limit else .aborted) (s.ax.get a), (homingView a s).2) := by
  have hne : ∀ {b : Axis} (u : State), b ≠ a → homingView a (homeTrip u b) = homingView a u :=
    fun u h => (homingView_homeTrip_other h).1
  have hax : ∀ {b : Axis} (u : State), b ≠ a → (homeTrip u b).ax.get a = u.ax.get a :=
    fun u h => congrArg Prod.fst (hne u h)
  simp only [allAxes, List.foldl]
  cases a
  · rw [hne _ (by decide), hne _ (by decide), hne _ (by decide), hne _ (by decide), homingView_homeTrip]
  · rw [hne _ (by decide), hne _ (by decide), hne _ (by decide), homingView_homeTrip, hne _ (by decide)]
    simp only [limitActive_homeTrip]
    rw [hax _ (by decide)]
  · rw [hne _ (by decide), hne _ (by decide), homingView_homeTrip, hne _ (by decide), hne _ (by decide)]
    simp only [limitActive_homeTrip]
    rw [hax _ (by decide), hax _ (by decide)]
  · rw [hne _ (by decide), homingView_homeTrip, hne _ (by decide), hne _ (by decide), hne _ (by decide)]
    simp only [limitActive_homeTrip]
    rw [hax _ (by decide), hax _ (by decide), hax _ (by decide)]
  · rw [homingView_homeTrip, hne _ (by decide), hne _ (by decide), hne _ (by decide), hne _ (by decide)]
    simp only [limitActive_homeTrip]
    rw [hax _ (by decide), hax _ (by decide), hax _ (by decide), hax _ (by decide)]

end Sys2Proof.Machine
end

section
/-! CLAIMS. What a STOP and a TRIP do to a homing (R74), and O31. -/

namespace Sys2Proof.Machine

/-- What of an axis channel a TRIP keeps until it ends the homings. -/
def homeMemory (k : AxisCh) : HomePhase × Option (HomeReason × HomePhase) := (k.phase, k.hFail)

theorem homeMemory_sqTrip (s : State) (a : Axis) :
    homeMemory ((sqTrip s).ax.get a) = homeMemory (s.ax.get a) := by
  unfold sqTrip
  split
  · rfl
  · obtain ⟨⟨-, -, -, -, hax⟩, -⟩ := flushIdle_parts s
    rw [hax]
    unfold dropQueueOwners
    rw [mapAx_ax, PerAxis.get_map]
    split <;> rfl

theorem homeMemory_axesTrip (s : State) (a : Axis) :
    homeMemory ((axesTrip s).ax.get a) = homeMemory (s.ax.get a) := by
  have hfall : ∀ (l : List Axis) (u : State),
      (l.foldl (fun s a => fall (.driveSaturated (.axis a)) s) u).ax = u.ax := fun l => by
    induction l with
    | nil => exact fun u => rfl
    | cons b l ih => exact fun u => (ih _).trans (fall_ax _ u)
  unfold axesTrip
  rw [hfall, mapAx_ax, PerAxis.get_map]
  rfl

theorem sguTrip_ax {s : State} (h : s.sq.st = .idle) : (sguTrip s).ax = s.ax := by
  have hidle : ∀ u : State, u.sq.st = s.sq.st → u.sq.st ≠ .running := fun u hu => by rw [hu, h]; decide
  unfold sguTrip
  dsimp only
  rw [fall_ax]
  obtain ⟨n, y, g, rq, heq, -⟩ := abandonShift_of_not_running (hidle
    { s with sgu.reqSpeed := 0, sgu.target := 0, sgu.ramped := 0, sgu.out := 0, sgu.satCount := 0 } rfl)
  rw [heq]
  split
  · rfl
  · rw [spindleOff_of_not_running (by exact hidle _ rfl)]

theorem homeMemory_jogsDrop (s : State) (a : Axis) :
    homeMemory ((jogsDrop s).ax.get a) = homeMemory (s.ax.get a) := by
  unfold jogsDrop
  rw [mapAx_ax, PerAxis.get_map]
  split <;> rfl

theorem homeMemory_tripStart (s : State) (a : Axis) :
    homeMemory ((jogsDrop (coolantTrip (sguTrip (fall .hydPressureLow (clampsTrip (axesTrip (sqTrip s))))))).ax.get a) =
      homeMemory (s.ax.get a) := by
  have hidle : (fall .hydPressureLow (clampsTrip (axesTrip (sqTrip s)))).sq.st = .idle := by
    rw [fall_sq, clampsTrip_sq, (axesTrip_keeps _).1]
    exact (sqTrip_spec s).1
  have hcoolant : ∀ u : State, (coolantTrip u).ax = u.ax := fun _ => rfl
  have hclamps : ∀ u : State, (clampsTrip u).ax = u.ax := fun _ => rfl
  rw [homeMemory_jogsDrop, hcoolant, sguTrip_ax hidle, fall_ax, hclamps, homeMemory_axesTrip, homeMemory_sqTrip]

/-- A homing under a TRIP raise (R74). -/
theorem raise_trip_homing {c : Cond} (hc : c.cls = .trip) {s : State} (hm : s.cn.machine ≠ .tripped) (q : Nat) (v : Int)
    (a : Axis) : ∃ (k : AxisCh) (e : CondEntry), homeMemory k = homeMemory (s.ax.get a) ∧
      homingView a (raise c q v s) =
        reportedView a (trippedCh (if limitActive s a then .limit else .aborted) k, e, s.hlp.ms) := by
  rw [raise_of_trip hc hm, foldl_homeReport_view]
  obtain ⟨x, hx⟩ : ∃ x : State, ({ latch c q v s with cn.machine := .tripped } : State) = x := ⟨_, rfl⟩
  have hxax : x.ax = s.ax := by rw [← hx]; exact latch_ax ..
  have hxinp : x.inp = s.inp := by rw [← hx]; exact latch_inp ..
  have hxhlp : x.hlp = s.hlp := by rw [← hx]; exact latch_hlp ..
  rw [hx]
  have hmem := homeMemory_tripStart x a
  have hside : aside (jogsDrop (coolantTrip (sguTrip (fall .hydPressureLow (clampsTrip (axesTrip (sqTrip x))))))) = aside x := by
    simp
  unfold tripDeliveries
  dsimp only
  generalize jogsDrop (coolantTrip (sguTrip (fall .hydPressureLow (clampsTrip (axesTrip (sqTrip x)))))) = y at hmem hside ⊢
  simp only [aside, Prod.mk.injEq] at hside
  obtain ⟨-, -, hinp, -, hhlp⟩ := hside
  refine ⟨y.ax.get a, condEntry y (.referenceFailed a), by rw [hmem, hxax], ?_⟩
  rw [foldl_homeTrip_view, limitActive_of_inp (hinp.trans hxinp)]
  show reportedView a (_, condEntry y _, y.hlp.ms) = _
  rw [hhlp, hxhlp]

/-- What a homing makes of its switch (R70, R71). -/
theorem switchedCh (on : Bool) (k : AxisCh) :
    (k.phase = .search → on = true → latchCh on (searchCh on k) = { k with phase := .searchStop }) ∧
    (k.phase = .latch → k.hStep = .active → on = true → latchCh on (searchCh on k) = { k with hStep := .inactive }) ∧
    (k.phase = .latch → k.hStep = .inactive → on = false →
      latchCh on (searchCh on k) = { k with hStep := .index, hFrom := k.setpoint, latch := none }) ∧
    ((k.phase = .search ∧ on = false) ∨ (k.phase ≠ .search ∧ k.phase ≠ .latch) ∨
        (k.phase = .latch ∧ (k.hStep = .active → on = false) ∧ (k.hStep = .inactive → on = true)) →
      latchCh on (searchCh on k) = k) := by
  refine ⟨fun hp hon => ?_, fun hp hs hon => ?_, fun hp hs hon => ?_, fun hno => ?_⟩
  · simp [searchCh, latchCh, hp, hon]
  · simp [searchCh, latchCh, hp, hs, hon]
  · simp [searchCh, latchCh, hp, hs, hon]
  · rcases hno with ⟨hp, hon⟩ | ⟨h1, h2⟩ | ⟨hp, h1, h2⟩
    · simp [searchCh, latchCh, hp, hon]
    · simp [searchCh, latchCh, h1, h2]
    · cases hs : k.hStep
      · simp [searchCh, latchCh, hp, hs, h1 hs]
      · simp [searchCh, latchCh, hp, hs, h2 hs]
      · simp [searchCh, latchCh, hp, hs]

/-- Settles O31. -/
theorem homeTakesTheAxis : Obligations.HomeTakesTheAxis := by
  refine ⟨fun s tag i a h hfree hi hm hsq ho hl hidle => ⟨fun hr => ?released, fun c hc hst hpol hoff hfifo _ hmin => ?clamped⟩,
    fun s a h => ?period, fun s a n h hn hft hdue => ?switch, fun s a r ph hp hv hrest hf => homeRule_end hp hv hrest hf,
    fun s a c q v hm => ?raises⟩
  case released => exact home_released h hfree hi hm hsq ho hl hidle hr
  case clamped => exact home_clamped h hfree hi hm hsq ho hl hidle hc hst hpol hoff hfifo hmin
  case period => exact ⟨rfl, homing_goes s a h⟩
  case switch =>
    have hexec := homeSwitch_due h hn hft hdue
    have hupd : ∀ f : AxisCh → AxisCh, latchCh s.inp[n].raw (searchCh s.inp[n].raw (s.ax.get a)) = f (s.ax.get a) →
        (s.ax.upd a fun k => latchCh s.inp[n].raw (searchCh s.inp[n].raw k)) = s.ax.upd a f := fun f hf =>
      PerAxis.upd_congr hf
    dsimp only
    obtain ⟨h1, h2, h3, h4⟩ := switchedCh s.inp[n].raw (s.ax.get a)
    refine ⟨fun hp hon => ?_, fun hp hs hon => ?_, fun hp hs hon => ?_, fun hno => ?_⟩
    · rw [hexec, hupd (fun k => { k with phase := .searchStop }) (h1 hp hon)]
    · rw [hexec, hupd (fun k => { k with hStep := .inactive }) (h2 hp hs hon)]
    · rw [hexec, hupd (fun k => { k with hStep := .index, hFrom := k.setpoint, latch := none }) (h3 hp hs hon)]
    · rw [hexec, hupd (fun k => k) (h4 hno), PerAxis.upd_self rfl]
  case raises =>
    dsimp only
    refine ⟨fun hc ho => ?stop, fun hc => ?trip⟩
    case stop =>
      rw [raise_of_stop hc hm]
      obtain ⟨x, hx⟩ : ∃ x : State, ({ latch c q v s with cn.machine := .stopping } : State) = x := ⟨_, rfl⟩
      have hxax : x.ax = s.ax := by rw [← hx]; exact latch_ax ..
      have hxinp : x.inp = s.inp := by rw [← hx]; exact latch_inp ..
      obtain ⟨-, -, -, -, -, hax, -⟩ := stopDeliveries_blocks x
      obtain ⟨o, hn, hkeep⟩ := hax a
      rw [hx, hn, limitActive_of_inp hxinp, hxax, hkeep (by rw [hxax, ho]; decide), hxax]
      unfold abortedCh homeAbortable
      refine ⟨fun hp => ?_, fun hp => ?_⟩
      · rw [if_pos (by rcases hp with e | e | e | e <;> rw [e] <;> rfl)]
        exact ⟨rfl, rfl, rfl⟩
      · rw [if_neg (by rcases hp with e | e <;> rw [e] <;> decide)]
        exact ⟨rfl, rfl, rfl⟩
    case trip =>
      obtain ⟨k, e, hk, hview⟩ := raise_trip_homing hc hm q v a
      obtain ⟨hphase, hfail⟩ := Prod.mk.inj hk
      have hn : (raise c q v s).ax.get a = _ := congrArg Prod.fst hview
      have he : condEntry (raise c q v s) (.referenceFailed a) = _ := congrArg (fun p => p.2.1) hview
      rw [hn, he]
      refine ⟨fun hp => ?_, fun hp => ?_⟩
      · rw [trippedCh_settle (hphase.trans hp)]
        unfold reportedView
        split <;> exact ⟨rfl, rfl, rfl⟩
      · rw [← hphase] at hp
        have h1 : k.phase ≠ .none ∧ k.phase ≠ .settle ∧ k.phase ≠ .ending := by
          rcases hp with e | e | e | e <;> rw [e] <;> decide
        rw [trippedCh_aborted h1.1 h1.2.1 h1.2.2]
        refine ⟨rfl, rfl, rfl, rfl, ?_⟩
        unfold reportedView
        dsimp only
        cases limitActive s a <;> rfl

end Sys2Proof.Machine
end

section
/-! CLAIMS. The rate, the phase and the setpoints of a path period (R31 to R44). -/

namespace Sys2Proof.Machine

/-! ## The rate step (Table 2-2) -/

theorem brakeStep_eq (r p : Nat) : brakeStep r p = max (r - p) p := rfl

theorem rateToward_up {r t p : Nat} (h : r < t) : rateToward r t p = min (r + p) t := if_pos h

theorem rateToward_down {r t p : Nat} (h : t ≤ r) : rateToward r t p = max (r - p) t := if_neg (not_lt.2 h)

/-- A rate moves by its step at most, and not beyond its target. -/
theorem rateToward_within (r t p : Nat) :
    rateToward r t p ≤ max r t ∧ rateToward r t p ≤ r + p ∧ r ≤ rateToward r t p + p := by
  rcases lt_or_ge r t with h | h
  · rw [rateToward_up h]; omega
  · rw [rateToward_down h]; omega

/-- The rate step of RUNNING and RETURNING. -/
theorem rateStep_of_runs (p : PathInt) {st : QState} (h : st = .running ∨ st = .returning) (t : Nat) (braking slows : Bool) :
    rateStep p st t braking slows =
      if braking then brakeStep p.r p.pathRamp
      else if slows then min (brakeStep p.r p.pathRamp) (rateToward p.r t p.pathRamp)
      else rateToward p.r t p.pathRamp := by
  unfold rateStep; rcases h with h | h <;> rw [h]

theorem rateStep_within (p : PathInt) {st : QState} (h : st = .running ∨ st = .returning) {t : Nat} (braking slows : Bool)
    (hr : p.r ≤ 131072) (ht : t ≤ 131072) (hp : p.pathRamp ≤ 65536) :
    rateStep p st t braking slows ≤ 131072 ∧ rateStep p st t braking slows ≤ p.r + p.pathRamp ∧
      p.r ≤ rateStep p st t braking slows + p.pathRamp := by
  obtain ⟨h1, h2, h3⟩ := rateToward_within p.r t p.pathRamp
  rw [rateStep_of_runs p h, brakeStep_eq]
  cases braking <;> cases slows <;> simp only [if_true, if_false, Bool.false_eq_true] <;> omega

/-! ## The lookahead (R39) -/

theorem currentMove_of_head {s : State} {q : Nat} {c : MoveRec} {rs : List QRec} (hc : s.sq.current = true)
    (hr : s.sq.recs = ⟨q, .move c⟩ :: rs) : currentMove s = some c := by
  unfold currentMove currentRec
  rw [hc, hr]; rfl

theorem lookahead_eq {s : State} {m : ActiveMove} {q : Nat} {c : MoveRec} {rs : List QRec} (hc : s.sq.current = true)
    (hr : s.sq.recs = ⟨q, .move c⟩ :: rs) :
    lookahead s m = (m.n * 65536 - m.p + (if s.sq.st = .stopping then (0, true) else walk s 16 c rs).1,
      (if s.sq.st = .stopping then (0, true) else walk s 16 c rs).2) := by
  unfold lookahead
  rw [currentMove_of_head hc hr, hr]; rfl

theorem walk_of_stop {s : State} {c : MoveRec} (h : c.stop = true) (n : Nat) (rs : List QRec) :
    walk s (n + 1) c rs = (0, true) := by
  cases rs with
  | nil => unfold walk; rw [h]
  | cons r rs => unfold walk; rw [if_pos h]

theorem walk_of_next {s : State} {c d : MoveRec} {k : Nat} (hc : c.stop = false) (hm : d.motion = c.motion)
    (hr : ∀ l ∈ d.legs, released s l.1 = true) (n : Nat) :
    walk s (n + 2) c [⟨k, .move d⟩] = (d.n * 65536, d.stop) := by
  have hnil : walk s (n + 1) d [] = (0, d.stop) := by unfold walk; rfl
  unfold walk
  rw [if_neg (by rw [hc]; decide)]
  dsimp only
  rw [if_pos ⟨hm, (legsReleased_iff s d).2 hr⟩, hnil, Nat.zero_add]

/-! ## The setpoints of a move (R44) -/

/-- The state with some axes at the positions of their legs. -/
structure Gave (n p : Nat) (legs : List Leg) (s t : State) : Prop where
  only : ∃ v, t = { s with ax := v }
  keeps : ∀ a, ∃ z b, t.ax.get a = { s.ax.get a with setpoint := z, atRest := b }
  unlisted : ∀ a, (∀ l ∈ legs, l.ax ≠ a) → (t.ax.get a).setpoint = (s.ax.get a).setpoint
  listed : LegsApart legs → ∀ l ∈ legs, released s l.ax = true → (t.ax.get l.ax).setpoint = legAt n p l

theorem gave_giveSetpoint (a : Axis) (z : Int) (s : State) :
    (∃ v, giveSetpoint a z s = { s with ax := v }) ∧
    (∀ b, ∃ y r, (giveSetpoint a z s).ax.get b = { s.ax.get b with setpoint := y, atRest := r }) ∧
    (∀ b, a ≠ b → ((giveSetpoint a z s).ax.get b).setpoint = (s.ax.get b).setpoint) ∧
    (released s a = true → ((giveSetpoint a z s).ax.get a).setpoint = z) := by
  unfold giveSetpoint
  split
  next h =>
    refine ⟨⟨_, rfl⟩, fun b => ?_, fun b hb => ?_, fun _ => ?_⟩
    · rw [updAx_ax, PerAxis.get_upd]
      split <;> exact ⟨_, _, rfl⟩
    · rw [updAx_ax, PerAxis.get_upd, if_neg hb]
    · rw [updAx_ax, PerAxis.get_upd, if_pos rfl]
  next h => exact ⟨⟨_, rfl⟩, fun b => ⟨_, _, rfl⟩, fun _ _ => rfl, fun e => absurd e h⟩

theorem gave_giveMove (n p : Nat) (legs : List Leg) (s : State) : Gave n p legs s (giveMove n p legs s) := by
  unfold giveMove
  induction legs generalizing s with
  | nil => exact ⟨⟨_, rfl⟩, fun a => ⟨_, _, rfl⟩, fun _ _ => rfl, fun _ _ h => nomatch h⟩
  | cons l ls ih =>
    obtain ⟨⟨v, hv⟩, hkeep, hother, hgive⟩ := gave_giveSetpoint l.ax (legAt n p l) s
    obtain ⟨⟨w, hw⟩, gkeep, gother, ggive⟩ := ih (giveSetpoint l.ax (legAt n p l) s)
    rw [List.foldl_cons]
    have hrel : ∀ a, released (giveSetpoint l.ax (legAt n p l) s) a = released s a := fun a => by rw [hv]; rfl
    refine ⟨⟨w, by rw [hw, hv]⟩, fun a => ?_, fun a ha => ?_, fun hap k hk hr => ?_⟩
    · obtain ⟨z, b, hz⟩ := gkeep a
      obtain ⟨y, c, hy⟩ := hkeep a
      exact ⟨z, b, by rw [hz, hy]⟩
    · rw [gother a fun k hk => ha k (List.mem_cons_of_mem _ hk), hother a (ha l List.mem_cons_self)]
    · obtain ⟨hnot, hap'⟩ := List.nodup_cons.1 hap
      rcases List.mem_cons.1 hk with rfl | hk
      · rw [gother k.ax fun j hj e => hnot (List.mem_map.2 ⟨j, hj, e⟩)]
        exact hgive hr
      · exact ggive hap' k hk (by rw [hrel]; exact hr)

theorem Gave.owner {n p : Nat} {legs : List Leg} {s t : State} (h : Gave n p legs s t) (a : Axis) :
    (t.ax.get a).owner = (s.ax.get a).owner := by
  obtain ⟨z, b, hz⟩ := h.keeps a; rw [hz]

/-! ## The rest of a path period behind PI's work -/

theorem records_of_armed {p q : SegQueue} (h : { p with armed := q.armed } = q) :
    p.recs = q.recs ∧ p.current = q.current ∧ p.lastSeq = q.lastSeq := by
  rw [← h]; exact ⟨rfl, rfl, rfl⟩

/-- What PI has given stands at the end of a period whose checks leave the queue state (R31). -/
theorem period_keeps {s x : State} (hx : pathWork s = x) (hm : x.cn.machine ≠ .tripped)
    (hst : (periodWork s).sq.st = x.sq.st) (hne : x.sq.st ≠ .idle) :
    (periodWork s).pi = x.pi ∧ { (periodWork s).sq with armed := x.sq.armed } = x.sq ∧
      ∀ a, (x.ax.get a).owner = .queue → ((periodWork s).ax.get a).setpoint = (x.ax.get a).setpoint := by
  have hafter := after_periodWork s
  have hw : periodSetpoints s = owned (compWork x) := by rw [periodSetpoints_eq, hx]
  rw [hw] at hafter
  obtain ⟨hsq, hpi⟩ := hafter.path hst hne
  refine ⟨hpi, hsq, fun a ho => ?_⟩
  rw [(setpoint_of_settings hafter.settings a).1, owned_ax, ownerCh_of_unmoved (by exact hm)]
  · rfl
  · show (x.ax.get a).owner ≠ .homing
    rw [ho]; decide
  · show (x.ax.get a).owner ≠ .pendant
    rw [ho]; decide

theorem starvedTest_keeps (braking real : Bool) (r target : Nat) (s : State) :
    (starvedTest braking real r target s).sq = s.sq ∧ (starvedTest braking real r target s).pi = s.pi ∧
    (starvedTest braking real r target s).ax = s.ax ∧ (starvedTest braking real r target s).cc = s.cc ∧
    (starvedTest braking real r target s).sgu = s.sgu ∧
    (starvedTest braking real r target s).cn.machine = s.cn.machine := by
  unfold starvedTest riseNote
  (repeat' split) <;> simp [setRaw, updCond]

/-- PI's work on a move, behind the rate (R31, R41). -/
theorem moveWork_spec (m : ActiveMove) (isReturn : Bool) (rem : Nat) (real : Bool) (s : State) :
    ∃ s1 : State, moveWork m isReturn rem real s =
        (if isReturn then advanceReturn m (m.p + nextRate s m rem real) (nextRate s m rem real) s1
         else advanceMove 4 m (m.p + nextRate s m rem real) (nextRate s m rem real) s1) ∧
      s1.sq = s.sq ∧ s1.ax = s.ax ∧ s1.cc = s.cc ∧ s1.sgu = s.sgu ∧ s1.cn.machine = s.cn.machine ∧
      s1.pi.target = rateTarget s m ∧ s1.pi.hold = s.pi.hold ∧ s1.pi.move = s.pi.move := by
  obtain ⟨h1, h2, h3, h4, h5, h6⟩ := starvedTest_keeps (brakes rem s.pi.r s.pi.pathRamp) real (nextRate s m rem real)
    (rateTarget s m) { s with
      pi.target := rateTarget s m
      pi.braking := brakes rem s.pi.r s.pi.pathRamp
      pi.ahead := nextAhead s.sq.st (brakes rem s.pi.r s.pi.pathRamp || slowsOn s.pi rem real) rem (nextRate s m rem real) real }
  exact ⟨_, rfl, h1, h3, h4, h5, h6, (congrArg PathInt.target h2).trans rfl,
    (congrArg PathInt.hold h2).trans rfl, (congrArg PathInt.move h2).trans rfl⟩

theorem pathWork_move {s : State} {m : ActiveMove} (hret : s.pi.ret = none) (hmove : s.pi.move = some m)
    (hst : s.sq.st = .running ∨ s.sq.st = .holding ∨ s.sq.st = .stopping) :
    pathWork s = moveWork m false (lookahead s m).1 (lookahead s m).2 s := by
  unfold pathWork
  rw [if_pos (by rcases hst with e | e | e <;> rw [e] <;> rfl), hret, hmove]

theorem pathWork_return {s : State} {m : ActiveMove} (hret : s.pi.ret = some m) (hst : s.sq.st = .returning) :
    pathWork s = moveWork m true (m.n * 65536 - m.p) true s := by
  unfold pathWork
  rw [if_pos (by rw [hst]; rfl), hret]

theorem advanceMove_within {m : ActiveMove} {p r : Nat} {s : State} (h : p < m.n * 65536) (k : Nat) :
    advanceMove (k + 1) m p r s = giveMove m.n p m.legs { s with pi.move := some { m with p := p }, pi.r := r } := by
  unfold advanceMove; rw [if_pos h]

theorem advanceReturn_within {m : ActiveMove} {p r : Nat} {s : State} (h : p < m.n * 65536) :
    advanceReturn m p r s = giveMove m.n p m.legs { s with pi.ret := some { m with p := p }, pi.r := r } := by
  unfold advanceReturn; rw [if_pos h]

/-- The setpoints that PI gives and that stand at the end of the period. -/
theorem legsTaken_of_gave {n p : Nat} {legs : List Leg} {s y x u : State} (hg : Gave n p legs y x) (hax : y.ax = s.ax)
    (hcc : y.cc = s.cc)
    (hkeep : ∀ a, (x.ax.get a).owner = .queue → (u.ax.get a).setpoint = (x.ax.get a).setpoint) :
    LegsTaken n p legs s u := fun hap l hl ho hr => by
  rw [hkeep l.ax (by rw [hg.owner, hax]; exact ho)]
  refine hg.listed hap l hl ?_
  unfold released clampState at hr ⊢
  rw [hcc]; exact hr

/-- A period within a move (R31, R42). -/
theorem period_within_move {s : State} {m : ActiveMove} (hret : s.pi.ret = none) (hmove : s.pi.move = some m)
    (hst : s.sq.st = .running ∨ s.sq.st = .holding ∨ s.sq.st = .stopping) (hm : s.cn.machine ≠ .tripped)
    (hp : m.p + nextRate s m (lookahead s m).1 (lookahead s m).2 < m.n * 65536)
    (hsame : (periodWork s).sq.st = s.sq.st) :
    let r := nextRate s m (lookahead s m).1 (lookahead s m).2
    let u := periodWork s
    u.pi.r = r ∧ u.pi.target = rateTarget s m ∧ u.pi.move = some { m with p := m.p + r } ∧
      u.sq.recs = s.sq.recs ∧ LegsTaken m.n (m.p + r) m.legs s u := by
  dsimp only
  obtain ⟨s1, heq, hsq, hax, hcc, -, hmach, htarget, -, -⟩ := moveWork_spec m false (lookahead s m).1 (lookahead s m).2 s
  rw [if_neg (by decide), advanceMove_within hp] at heq
  have hg := gave_giveMove m.n (m.p + nextRate s m (lookahead s m).1 (lookahead s m).2) m.legs
    { s1 with pi.move := some { m with p := m.p + nextRate s m (lookahead s m).1 (lookahead s m).2 },
              pi.r := nextRate s m (lookahead s m).1 (lookahead s m).2 }
  rw [← heq, ← pathWork_move hret hmove hst] at hg
  obtain ⟨v, hv⟩ := hg.only
  have hxsq : (pathWork s).sq = s.sq := by rw [hv]; exact hsq
  obtain ⟨hpi, hqueue, hset⟩ := period_keeps rfl (by rw [hv]; exact fun e => hm (hmach.symm.trans e))
    (by rw [hxsq]; exact hsame) (by rw [hxsq]; rcases hst with e | e | e <;> rw [e] <;> decide)
  rw [hpi]
  refine ⟨by rw [hv], by rw [hv]; exact htarget, by rw [hv], ?_, legsTaken_of_gave hg hax hcc hset⟩
  rw [(records_of_armed hqueue).1, hxsq]

/-- A period within the return move (R51, R52). -/
theorem period_within_return {s : State} {m : ActiveMove} (hret : s.pi.ret = some m) (hst : s.sq.st = .returning)
    (hm : s.cn.machine ≠ .tripped) (hp : m.p + nextRate s m (m.n * 65536 - m.p) true < m.n * 65536)
    (hsame : (periodWork s).sq.st = .returning) :
    let r := nextRate s m (m.n * 65536 - m.p) true
    let u := periodWork s
    u.pi.r = r ∧ u.pi.ret = some { m with p := m.p + r } ∧ LegsTaken m.n (m.p + r) m.legs s u := by
  dsimp only
  obtain ⟨s1, heq, hsq, hax, hcc, -, hmach, -, -, -⟩ := moveWork_spec m true (m.n * 65536 - m.p) true s
  rw [if_pos rfl, advanceReturn_within hp] at heq
  have hg := gave_giveMove m.n (m.p + nextRate s m (m.n * 65536 - m.p) true) m.legs
    { s1 with pi.ret := some { m with p := m.p + nextRate s m (m.n * 65536 - m.p) true },
              pi.r := nextRate s m (m.n * 65536 - m.p) true }
  rw [← heq, ← pathWork_return hret hst] at hg
  obtain ⟨v, hv⟩ := hg.only
  have hxsq : (pathWork s).sq = s.sq := by rw [hv]; exact hsq
  obtain ⟨hpi, -, hset⟩ := period_keeps rfl (by rw [hv]; exact fun e => hm (hmach.symm.trans e))
    (by rw [hxsq, hst]; exact hsame) (by rw [hxsq, hst]; decide)
  rw [hpi]
  exact ⟨by rw [hv], by rw [hv], legsTaken_of_gave hg hax hcc hset⟩

/-- Settles O28. -/
theorem rateStepsAsTable22 : Obligations.RateStepsAsTable22 := by
  refine ⟨fun p t braking slows hr ht hp => ⟨fun st hst => ?running, ?holding, ?stopping⟩, fun s m => ?target,
    fun s m q c rs hc hrecs => ?lookahead, fun s m q c rs hret hmove hc hrecs hst => ?move, fun s m hret hst => ?ret⟩
  case running =>
    refine ⟨fun hb => ?_, fun hb hs hlt => ?_, fun hb hs hle => ?_, rateStep_within p hst braking slows hr ht hp⟩
    · rw [rateStep_of_runs p hst, if_pos hb]; rfl
    · rw [rateStep_of_runs p hst, hb, hs]; exact rateToward_up hlt
    · rw [rateStep_of_runs p hst, hb, hs]; exact rateToward_down hle
  case holding =>
    unfold rateStep
    dsimp only
    cases braking
    · exact (rateToward_down (Nat.zero_le _)).trans (Nat.max_zero _)
    · rfl
  case stopping =>
    unfold rateStep
    dsimp only
    cases braking
    · exact (rateToward_down (Nat.zero_le _)).trans (Nat.max_zero _)
    · rfl
  case target =>
    unfold rateTarget
    refine ⟨fun h hm => ?_, fun h hm => ?_, fun h hm => ?_, fun h => ?_, fun h => ?_⟩
    · rw [h, hm]
    · rw [h, hm]
    · rw [h, hm]
    · rw [h]
    · rcases h with h | h <;> rw [h]
  case lookahead =>
    rw [lookahead_eq hc hrecs]
    refine ⟨fun h => ?_, fun hne hs hrs => ?_, fun k d hne hs hrs hm hrel => ?_⟩
    · by_cases hst : s.sq.st = .stopping
      · rw [if_pos hst]; rfl
      · rw [if_neg hst, walk_of_stop (h.resolve_left hst)]; rfl
    · rw [if_neg hne, hrs]
      unfold walk
      rw [hs]; rfl
    · rw [if_neg hne, hrs, walk_of_next hs hm hrel]
  case move => exact ⟨rfl, fun hm hp hsame => period_within_move hret hmove hst hm hp hsame⟩
  case ret => exact ⟨rfl, fun hm hp hsame => period_within_return hret hst hm hp hsame⟩

end Sys2Proof.Machine
end

section
/-! CLAIMS. The setpoints of a MOVE, its end and carry, the return move and the hold (R42 to R53). -/

namespace Sys2Proof.Machine

/-! ## The position of a leg (R44) -/

theorem legAt_spec {n p : Nat} (l : Leg) (hn : 0 < n) (hp : p ≤ n * 65536) :
    legAt n 0 l = l.start ∧ legAt n (n * 65536) l = l.fin ∧
    2 * |(legAt n p l - l.start) * ((n * 65536 : Nat) : Int) - (l.fin - l.start) * p| ≤ ((n * 65536 : Nat) : Int) ∧
    min l.start l.fin ≤ legAt n p l ∧ legAt n p l ≤ max l.start l.fin := by
  have hb : 0 < n * 65536 := by omega
  have hat : ∀ q : Nat, legAt n q l - l.start = divRound ((l.fin - l.start) * q) (n * 65536) := fun q => by
    unfold legAt; omega
  have hshare : ∀ q : Nat, q ≤ n * 65536 →
      min 0 (l.fin - l.start) ≤ legAt n q l - l.start ∧ legAt n q l - l.start ≤ max 0 (l.fin - l.start) := fun q hq => by
    rw [hat]
    exact divRound_between hb (Int.natCast_nonneg q) (Int.ofNat_le.2 hq)
  have hexact : ∀ (d : Int), divRound (d * ((n * 65536 : Nat) : Int)) (n * 65536) = d := fun d => by
    have hnear := (divRound_near (d * ((n * 65536 : Nat) : Int)) hb).1
    rw [← sub_mul, abs_mul, abs_of_nonneg (Int.natCast_nonneg (n * 65536))] at hnear
    by_contra hne
    have h1 : 1 ≤ |divRound (d * ((n * 65536 : Nat) : Int)) (n * 65536) - d| :=
      Int.one_le_abs (sub_ne_zero.2 hne)
    have h2 := mul_le_mul_of_nonneg_right h1 (Int.natCast_nonneg (n * 65536))
    have h3 : (0 : Int) < ((n * 65536 : Nat) : Int) := by exact_mod_cast hb
    linarith
  refine ⟨?_, ?_, ?_, ?_, ?_⟩
  · have := hshare 0 (Nat.zero_le _)
    have h0 : legAt n 0 l - l.start = 0 := by
      rw [hat]
      have := divRound_between (d := 0) (x := 0) hb (le_refl 0) (Int.natCast_nonneg _)
      simp only [Nat.cast_zero, mul_zero] at this ⊢
      omega
    omega
  · have := hat (n * 65536)
    rw [hexact] at this
    omega
  · rw [hat]
    exact (divRound_near _ hb).1
  · have := (hshare p hp).1; omega
  · have := (hshare p hp).2; omega

/-! ## The end of a MOVE (R18, R42) -/

theorem completeHead_spec {s : State} {r : QRec} {rs : List QRec} (h : s.sq.recs = r :: rs) :
    (completeHead s).sq.recs = rs ∧ (completeHead s).sq.current = false ∧ (completeHead s).sq.lastSeq = r.seq ∧
    (completeHead s).sq.st = s.sq.st ∧ (completeHead s).pi = { s.pi with move := none } ∧ (completeHead s).ax = s.ax ∧
    (completeHead s).cc = s.cc ∧ (completeHead s).sgu = s.sgu ∧ (completeHead s).cn.machine = s.cn.machine := by
  have hdrain : ∀ u : State, (drainTest u).sq.recs = u.sq.recs ∧ (drainTest u).sq.current = u.sq.current ∧
      (drainTest u).sq.lastSeq = u.sq.lastSeq ∧ (drainTest u).sq.st = u.sq.st ∧ (drainTest u).pi = u.pi ∧
      (drainTest u).ax = u.ax ∧ (drainTest u).cc = u.cc ∧ (drainTest u).sgu = u.sgu ∧
      (drainTest u).cn.machine = u.cn.machine := fun u => by
    unfold drainTest
    split <;> simp
  have hflow : ∀ u : State, (flowEval u).sq.recs = u.sq.recs ∧ (flowEval u).sq.current = u.sq.current ∧
      (flowEval u).sq.lastSeq = u.sq.lastSeq ∧ (flowEval u).sq.st = u.sq.st ∧ (flowEval u).pi = u.pi ∧
      (flowEval u).ax = u.ax ∧ (flowEval u).cc = u.cc ∧ (flowEval u).sgu = u.sgu ∧
      (flowEval u).cn.machine = u.cn.machine := fun u => by
    rw [flowEval_eq]
    (repeat' split) <;> simp
  unfold completeHead
  rw [h]
  dsimp only
  obtain ⟨d1, d2, d3, d4, d5, d6, d7, d8, d9⟩ := hdrain (flowEval { s with
    sq.recs := rs, sq.current := false, sq.dwellLeft := 0, sq.waiting := false, sq.handed := false, sq.lastSeq := r.seq,
    pi.move := none })
  obtain ⟨f1, f2, f3, f4, f5, f6, f7, f8, f9⟩ := hflow { s with
    sq.recs := rs, sq.current := false, sq.dwellLeft := 0, sq.waiting := false, sq.handed := false, sq.lastSeq := r.seq,
    pi.move := none }
  exact ⟨d1.trans f1, d2.trans f2, d3.trans f3, d4.trans f4, d5.trans f5, d6.trans f6, d7.trans f7, d8.trans f8,
    d9.trans f9⟩

theorem openBoundary_closed {s : State} {c : MoveRec} {rs : List QRec} (h : c.stop = true ∨ rs = []) (k : Nat) :
    openBoundary s c (k + 1) rs = false := by
  cases rs with
  | nil => rfl
  | cons r rs =>
    have hs : c.stop = true := h.resolve_right (by simp)
    unfold openBoundary
    split <;> simp [hs]

theorem openBoundary_move {s : State} {c d : MoveRec} {q : Nat} {ds : List QRec} (hs : c.stop = false)
    (hm : d.motion = c.motion) (hr : ∀ l ∈ d.legs, released s l.1 = true) (k : Nat) :
    openBoundary s c (k + 1) (⟨q, .move d⟩ :: ds) = true := by
  unfold openBoundary
  dsimp only
  rw [hs, hm, (legsReleased_iff s d).2 hr]
  cases c.motion <;> rfl

/-- The advance to the end of a MOVE at a boundary that is not open (R42). -/
theorem advanceMove_end {m : ActiveMove} {p r : Nat} {s : State} {q : Nat} {c : MoveRec} {rs : List QRec}
    (hc : s.sq.current = true) (hrecs : s.sq.recs = ⟨q, .move c⟩ :: rs) (hp : m.n * 65536 ≤ p)
    (hend : c.stop = true ∨ rs = [] ∨ s.sq.st = .stopping) (k : Nat) :
    advanceMove (k + 1) m p r s = completeHead (fall .queueStarved { giveMove m.n (m.n * 65536) m.legs s with pi.r := 0 }) := by
  have hboundary : (s.sq.st != QState.stopping && openBoundary s c 16 rs) = false := by
    rcases hend with h | h | h
    · rw [openBoundary_closed (.inl h), Bool.and_false]
    · rw [openBoundary_closed (.inr h), Bool.and_false]
    · rw [h]; rfl
  unfold advanceMove
  rw [if_neg (not_lt.2 hp), currentMove_of_head hc hrecs, hrecs]
  dsimp only
  rw [List.tail_cons, hboundary]
  exact if_neg (by decide)

/-- The end of a MOVE at a stop point, in the period's work (R42). -/
theorem period_move_end {s : State} {m : ActiveMove} {q : Nat} {c : MoveRec} {rs : List QRec} (hret : s.pi.ret = none)
    (hmove : s.pi.move = some m) (hc : s.sq.current = true) (hrecs : s.sq.recs = ⟨q, .move c⟩ :: rs)
    (hm : s.cn.machine ≠ .tripped) (hst : s.sq.st = .running ∨ s.sq.st = .holding ∨ s.sq.st = .stopping)
    (hp : m.n * 65536 ≤ m.p + nextRate s m (lookahead s m).1 (lookahead s m).2)
    (hend : c.stop = true ∨ rs = [] ∨ s.sq.st = .stopping) (hsame : (periodWork s).sq.st = s.sq.st) :
    let u := periodWork s
    u.pi.r = 0 ∧ u.pi.move = none ∧ u.sq.recs = rs ∧ u.sq.current = false ∧ u.sq.lastSeq = q ∧
      LegsTaken m.n (m.n * 65536) m.legs s u := by
  dsimp only
  obtain ⟨s1, heq, hsq, hax, hcc, -, hmach, -, -, -⟩ := moveWork_spec m false (lookahead s m).1 (lookahead s m).2 s
  rw [if_neg (by decide), advanceMove_end (s := s1) (by rw [hsq]; exact hc) (by rw [hsq]; exact hrecs) hp
    (by rw [hsq]; exact hend), ← pathWork_move hret hmove hst] at heq
  have hg := gave_giveMove m.n (m.n * 65536) m.legs s1
  obtain ⟨v, hv⟩ := hg.only
  obtain ⟨c1, c2, c3, c4, c5, c6, -, -, c9⟩ := completeHead_spec (r := ⟨q, .move c⟩) (rs := rs)
    (s := fall .queueStarved { giveMove m.n (m.n * 65536) m.legs s1 with pi.r := 0 })
    (by rw [fall_sq, hv]; exact (congrArg SegQueue.recs hsq).trans hrecs)
  rw [← heq] at c1 c2 c3 c4 c5 c6 c9
  rw [fall_pi] at c5
  rw [fall_ax] at c6
  have hxst : (pathWork s).sq.st = s.sq.st := by
    rw [c4, fall_sq, hv]; exact congrArg SegQueue.st hsq
  obtain ⟨hpi, hqueue, hset⟩ := period_keeps rfl
    (by rw [c9, fall_machine, hv]; exact fun e => hm (hmach.symm.trans e)) (by rw [hxst]; exact hsame)
    (by rw [hxst]; rcases hst with e | e | e <;> rw [e] <;> decide)
  obtain ⟨r1, r2, r3⟩ := records_of_armed hqueue
  rw [hpi, c5, r1, r2, r3, c1, c2, c3]
  exact ⟨rfl, rfl, rfl, rfl, rfl, legsTaken_of_gave hg hax hcc fun a ha => by
    have hax' : (pathWork s).ax = (giveMove m.n (m.n * 65536) m.legs s1).ax := c6
    rw [hset a (by rw [hax']; exact ha), hax']⟩

/-! ## The carry into the next MOVE (R43) -/

/-- The legs of a MOVE that a carry starts (R43). -/
def carriedLegs (m : ActiveMove) (d : MoveRec) (s : State) : List Leg :=
  d.legs.map fun l =>
    ⟨l.1, ((m.legs.find? fun g => g.ax == l.1).map fun g => g.fin).getD (s.ax.get l.1).setpoint, l.2⟩

theorem legsFrom_carried {s t : State} {m : ActiveMove} (d : MoveRec)
    (h : ∀ a, (∀ l ∈ m.legs, l.ax ≠ a) → (t.ax.get a).setpoint = (s.ax.get a).setpoint) :
    legsFrom (carryStart t m.legs) d = carriedLegs m d s := by
  unfold legsFrom carriedLegs
  refine List.map_congr_left fun l _ => ?_
  unfold carryStart
  cases hf : m.legs.find? fun g => g.ax == l.1 with
  | some g => rfl
  | none =>
    have hnot : ∀ g ∈ m.legs, g.ax ≠ l.1 := fun g hg e => by
      have := List.find?_eq_none.1 hf g hg
      simp [e] at this
    show (⟨l.1, setpointOf t l.1, l.2⟩ : Leg) = ⟨l.1, (s.ax.get l.1).setpoint, l.2⟩
    rw [← h l.1 hnot]
    rfl

/-- A carry into the MOVE at the head (R18, R43). -/
def carryInto (fuel : Nat) (m : ActiveMove) (p r : Nat) (s1 : State) : State :=
  match s1.sq.recs with
  | ⟨q, .move c⟩ :: _ =>
    if nonMoveRuns s1 then
      match unreferenced s1 c with
      | some a => raiseStop (.notReferenced a) q 0 (refuseCarry s1)
      | none =>
        match outsideLimits s1 c with
        | some (a, e) => raiseStop (.softLimit a) q e (refuseCarry s1)
        | none =>
          if c.motion = Motion.fpr ∧ turning s1 = false then
            raiseHold .spindleNotTurning q s1.sgu.sAct (refuseCarry s1)
          else
            advanceMove fuel ⟨c.motion, c.n, c.sRef.getD 1, legsFrom (carryStart s1 m.legs) c, 0⟩ (p - m.n * 65536) r
              { s1 with sq.current := true, sq.waiting := false, sq.handed := false,
                        pi.move := some ⟨c.motion, c.n, c.sRef.getD 1, legsFrom (carryStart s1 m.legs) c, 0⟩, pi.r := r }
    else { s1 with pi.r := 0 }
  | _ => { s1 with pi.r := 0 }

theorem advanceMove_open {m : ActiveMove} {p r : Nat} {s : State} {q : Nat} {c : MoveRec} {rs : List QRec}
    (hc : s.sq.current = true) (hrecs : s.sq.recs = ⟨q, .move c⟩ :: rs) (hp : m.n * 65536 ≤ p)
    (hopen : (s.sq.st != QState.stopping && openBoundary s c 16 rs) = true) (k : Nat) :
    advanceMove (k + 1) m p r s = carryInto k m p r
      (dispatchPassed 64 (completeHead { giveMove m.n (m.n * 65536) m.legs s with pi.r := r })) := by
  unfold advanceMove
  rw [if_neg (not_lt.2 hp), currentMove_of_head hc hrecs, hrecs]
  dsimp only
  rw [List.tail_cons, hopen]
  rfl

/-- The carry where every check of R17 passes. -/
theorem carryInto_move {m : ActiveMove} {p r k : Nat} {y : State} {d : MoveRec} {ds : List QRec} {legs : List Leg}
    (hrecs : y.sq.recs = ⟨k, .move d⟩ :: ds) (hruns : nonMoveRuns y = true) (href : unreferenced y d = none)
    (hout : outsideLimits y d = none) (hturn : ¬(d.motion = .fpr ∧ turning y = false))
    (hlegs : legsFrom (carryStart y m.legs) d = legs) (hin : p - m.n * 65536 < d.n * 65536) :
    carryInto 3 m p r y = giveMove d.n (p - m.n * 65536) legs { y with
      sq.current := true, sq.waiting := false, sq.handed := false,
      pi.move := some ⟨d.motion, d.n, d.sRef.getD 1, legs, p - m.n * 65536⟩, pi.r := r } := by
  unfold carryInto
  rw [hrecs]
  dsimp only
  rw [if_pos hruns, href, hout]
  dsimp only
  rw [if_neg hturn, hlegs]
  exact advanceMove_within (m := ⟨d.motion, d.n, d.sRef.getD 1, legs, 0⟩) hin 2

theorem dispatchPassed_move {y : State} {k : Nat} {d : MoveRec} {ds : List QRec} (h : y.sq.recs = ⟨k, .move d⟩ :: ds)
    (n : Nat) : dispatchPassed (n + 1) y = y := by
  unfold dispatchPassed
  rw [h]
  exact if_neg (by show ¬((_ && false) = true); rw [Bool.and_false]; decide)

/-- The advance into a MOVE of the same kind whose checks pass (R18, R43). -/
theorem advanceMove_carry {m : ActiveMove} {p r : Nat} {s : State} {q k : Nat} {c d : MoveRec} {ds : List QRec}
    (hc : s.sq.current = true) (hrecs : s.sq.recs = ⟨q, .move c⟩ :: ⟨k, .move d⟩ :: ds) (hp : m.n * 65536 ≤ p)
    (hst : s.sq.st = .running ∨ s.sq.st = .holding) (hstop : c.stop = false) (hmot : d.motion = c.motion)
    (hlegs : ∀ l ∈ d.legs, (s.ax.get l.1).refd = true ∧ released s l.1 = true ∧ (s.ax.get l.1).p.softMin ≤ l.2 ∧
      l.2 ≤ (s.ax.get l.1).p.softMax)
    (hturn : d.motion = .fpr → turning s = true) (hin : p - m.n * 65536 < d.n * 65536) :
    ∃ y : State, advanceMove 4 m p r s = giveMove d.n (p - m.n * 65536) (carriedLegs m d s) y ∧
      (∀ a, (y.ax.get a).owner = (s.ax.get a).owner) ∧ y.cc = s.cc ∧ y.cn.machine = s.cn.machine ∧
      y.sq.st = s.sq.st ∧ y.sq.recs = ⟨k, .move d⟩ :: ds ∧ y.sq.current = true ∧ y.sq.lastSeq = q ∧ y.pi.r = r ∧
      y.pi.move = some ⟨d.motion, d.n, d.sRef.getD 1, carriedLegs m d s, p - m.n * 65536⟩ := by
  have hopen : (s.sq.st != QState.stopping && openBoundary s c 16 (⟨k, .move d⟩ :: ds)) = true := by
    rw [openBoundary_move hstop hmot fun l hl => (hlegs l hl).2.1]
    rcases hst with e | e <;> rw [e] <;> rfl
  have hg := gave_giveMove m.n (m.n * 65536) m.legs s
  obtain ⟨v, hv⟩ := hg.only
  obtain ⟨c1, -, c3, c4, -, c6, c7, c8, c9⟩ := completeHead_spec (r := ⟨q, .move c⟩) (rs := ⟨k, .move d⟩ :: ds)
    (s := { giveMove m.n (m.n * 65536) m.legs s with pi.r := r }) (by rw [hv]; exact hrecs)
  rw [advanceMove_open hc hrecs hp hopen, dispatchPassed_move c1]
  generalize completeHead { giveMove m.n (m.n * 65536) m.legs s with pi.r := r } = y at c1 c3 c4 c6 c7 c8 c9 ⊢
  have hycc : y.cc = s.cc := by rw [c7, hv]
  have hyax : ∀ a, ∃ z b, y.ax.get a = { s.ax.get a with setpoint := z, atRest := b } := fun a => by
    rw [c6]; exact hg.keeps a
  have hyst : y.sq.st = s.sq.st := by rw [c4, hv]
  have hruns : nonMoveRuns y = true := by
    unfold nonMoveRuns; rw [hyst]; rcases hst with e | e <;> rw [e] <;> rfl
  have href : unreferenced y d = none := unreferenced_none fun l hl => by
    obtain ⟨z, b, hz⟩ := hyax l.1; rw [hz]; exact (hlegs l hl).1
  have hout : outsideLimits y d = none := outsideLimits_none fun l hl => by
    obtain ⟨z, b, hz⟩ := hyax l.1
    unfold LegOutside
    rw [hz]
    have := (hlegs l hl).2.2
    dsimp only
    omega
  have hcarry : legsFrom (carryStart y m.legs) d = carriedLegs m d s := legsFrom_carried d fun a ha => by
    rw [c6]; exact hg.unlisted a ha
  have hturning : ¬(d.motion = .fpr ∧ turning y = false) := fun ⟨hf, ht⟩ => by
    have hty : turning y = turning s := by unfold turning; rw [c8, hv]
    rw [hty, hturn hf] at ht
    cases ht
  rw [carryInto_move c1 hruns href hout hturning hcarry hin]
  exact ⟨_, rfl, fun a => by obtain ⟨z, b, hz⟩ := hyax a; show (y.ax.get a).owner = _; rw [hz], hycc,
    c9.trans (by rw [hv]), hyst, c1, rfl, c3, rfl, rfl⟩

/-- A carry in the period's work (R43). -/
theorem period_carry {s : State} {m : ActiveMove} {q k : Nat} {c d : MoveRec} {ds : List QRec} (hret : s.pi.ret = none)
    (hmove : s.pi.move = some m) (hc : s.sq.current = true) (hrecs : s.sq.recs = ⟨q, .move c⟩ :: ⟨k, .move d⟩ :: ds)
    (hm : s.cn.machine ≠ .tripped) (hst : s.sq.st = .running ∨ s.sq.st = .holding)
    (hp : m.n * 65536 ≤ m.p + nextRate s m (lookahead s m).1 (lookahead s m).2) (hstop : c.stop = false)
    (hmot : d.motion = c.motion)
    (hlegs : ∀ l ∈ d.legs, (s.ax.get l.1).refd = true ∧ released s l.1 = true ∧ (s.ax.get l.1).p.softMin ≤ l.2 ∧
      l.2 ≤ (s.ax.get l.1).p.softMax)
    (hturn : d.motion = .fpr → turning s = true)
    (hin : m.p + nextRate s m (lookahead s m).1 (lookahead s m).2 - m.n * 65536 < d.n * 65536)
    (hsame : (periodWork s).sq.st = s.sq.st) :
    let r := nextRate s m (lookahead s m).1 (lookahead s m).2
    let u := periodWork s
    u.pi.r = r ∧
      u.pi.move = some ⟨d.motion, d.n, d.sRef.getD 1, carriedLegs m d s, m.p + r - m.n * 65536⟩ ∧
      u.sq.recs = ⟨k, .move d⟩ :: ds ∧ u.sq.current = true ∧ u.sq.lastSeq = q ∧
      LegsTaken d.n (m.p + r - m.n * 65536) (carriedLegs m d s) s u := by
  dsimp only
  have hst3 : s.sq.st = .running ∨ s.sq.st = .holding ∨ s.sq.st = .stopping := by
    rcases hst with e | e
    · exact .inl e
    · exact .inr (.inl e)
  obtain ⟨s1, heq, hsq, hax, hcc, hsgu, hmach, -, -, -⟩ := moveWork_spec m false (lookahead s m).1 (lookahead s m).2 s
  generalize nextRate s m (lookahead s m).1 (lookahead s m).2 = r at *
  have hrel : ∀ a, released s1 a = released s a := fun a => by unfold released clampState; rw [hcc]
  obtain ⟨y, hadv, yown, ycc, ymach, yst, yrecs, ycur, ylast, yr, ymove⟩ := advanceMove_carry (m := m) (r := r) (s := s1)
    (by rw [hsq]; exact hc) (by rw [hsq]; exact hrecs) hp (by rw [hsq]; exact hst) hstop hmot
    (by simp only [hax, hrel]; exact hlegs) (fun e => by unfold turning; rw [hsgu]; exact hturn e) hin
  have hcarried : carriedLegs m d s1 = carriedLegs m d s := by unfold carriedLegs; rw [hax]
  rw [hcarried] at hadv ymove
  rw [if_neg (by decide), hadv, ← pathWork_move hret hmove hst3] at heq
  have hg := gave_giveMove d.n (m.p + r - m.n * 65536) (carriedLegs m d s) y
  rw [← heq] at hg
  obtain ⟨v, hv⟩ := hg.only
  have hxsq : (pathWork s).sq = y.sq := by rw [hv]
  have hxst : (pathWork s).sq.st = s.sq.st := by rw [hxsq, yst, hsq]
  obtain ⟨hpi, hqueue, hset⟩ := period_keeps rfl
    (by rw [hv]; exact fun e => hm ((ymach.trans hmach).symm.trans e)) (by rw [hxst]; exact hsame)
    (by rw [hxst]; rcases hst with e | e <;> rw [e] <;> decide)
  obtain ⟨r1, r2, r3⟩ := records_of_armed hqueue
  rw [hpi, r1, r2, r3, hxsq]
  refine ⟨by rw [hv]; exact yr, by rw [hv]; exact ymove, yrecs, ycur, ylast, fun hap l hl ho hr => ?_⟩
  have howner : ((pathWork s).ax.get l.ax).owner = .queue := by rw [hg.owner, yown, hax]; exact ho
  rw [hset _ howner]
  refine hg.listed hap l hl ?_
  rw [← hrel] at hr
  unfold released clampState at hr ⊢
  rw [ycc]; exact hr

/-! ## The end of the return move (R52) -/

/-- A queue without a record goes on in RUNNING (R10, R52). -/
theorem resumeRun_spec {s : State} (hst : s.sq.st ≠ .running) (hrecs : s.sq.recs = []) :
    (resumeRun s).sq.st = .running ∧ (resumeRun s).pi = { s.pi with hold := none, ret := none, r := 0 } ∧
      (resumeRun s).ax = s.ax ∧ (resumeRun s).cn.machine = s.cn.machine := by
  unfold resumeRun
  rw [setQState_of_ne hst (by decide)]
  dsimp only
  rw [currentRec_of_nil (by dsimp only; rw [queueReport_sq]; exact hrecs)]
  dsimp only
  rw [queueReport_sq, queueReport_pi, queueReport_ax, queueReport_cn]
  exact ⟨rfl, rfl, rfl, rfl⟩

theorem period_return_end {s : State} {m : ActiveMove} (hret : s.pi.ret = some m) (hst : s.sq.st = .returning)
    (hrecs : s.sq.recs = []) (hm : s.cn.machine ≠ .tripped)
    (hp : m.n * 65536 ≤ m.p + nextRate s m (m.n * 65536 - m.p) true) (hrun : (periodWork s).sq.st = .running) :
    let u := periodWork s
    u.pi.ret = none ∧ u.pi.hold = none ∧ u.pi.r = 0 ∧ LegsTaken m.n (m.n * 65536) m.legs s u := by
  dsimp only
  obtain ⟨s1, heq, hsq, hax, hcc, -, hmach, -, -, -⟩ := moveWork_spec m true (m.n * 65536 - m.p) true s
  obtain ⟨y, hy⟩ : ∃ y : State, { s1 with
    pi.ret := none, pi.r := 0,
    pi.hold := s1.pi.hold.map fun h => { h with displaced := ⟨false, false, false, false, false⟩ } } = y := ⟨_, rfl⟩
  have hend : advanceReturn m (m.p + nextRate s m (m.n * 65536 - m.p) true) (nextRate s m (m.n * 65536 - m.p) true) s1 =
      resumeRun (giveMove m.n (m.n * 65536) m.legs y) := by
    unfold advanceReturn
    rw [if_neg (not_lt.2 hp)]
    dsimp only
    rw [hy, if_pos (by rw [hsq]; exact hst)]
  rw [if_pos rfl, hend, ← pathWork_return hret hst] at heq
  have hg := gave_giveMove m.n (m.n * 65536) m.legs y
  obtain ⟨v, hv⟩ := hg.only
  have hysq : y.sq = s.sq := by rw [← hy]; exact hsq
  have hgsq : (giveMove m.n (m.n * 65536) m.legs y).sq = s.sq := by rw [hv]; exact hysq
  obtain ⟨r1, r2, r3, r4⟩ := resumeRun_spec (s := giveMove m.n (m.n * 65536) m.legs y)
    (by rw [hgsq, hst]; decide) (by rw [hgsq]; exact hrecs)
  rw [← heq] at r1 r2 r3 r4
  have hym : y.cn.machine = s.cn.machine := by rw [← hy]; exact hmach
  obtain ⟨hpi, -, hset⟩ := period_keeps rfl (by rw [r4, hv]; exact fun e => hm (hym.symm.trans e)) (by rw [r1]; exact hrun)
    (by rw [r1]; decide)
  rw [hpi, r2]
  exact ⟨rfl, rfl, rfl, legsTaken_of_gave hg (by rw [← hy]; exact hax) (by rw [← hy]; exact hcc) fun a ha => by
    rw [hset a (by rw [r3]; exact ha), r3]⟩

/-! ## A path that stands (R57) -/

/-- PI gives no setpoint in HELD and IDLE. -/
theorem period_stands {s : State} (hst : s.sq.st = .held ∨ s.sq.st = .idle) (hm : s.cn.machine ≠ .tripped) {a : Axis}
    (ho : (s.ax.get a).owner = .queue) : ((periodWork s).ax.get a).setpoint = (s.ax.get a).setpoint := by
  have hpath : pathWork s = s := if_neg (by rcases hst with e | e <;> rw [e] <;> decide)
  have hafter := after_periodWork s
  rw [periodSetpoints_eq, hpath] at hafter
  rw [(setpoint_of_settings hafter.settings a).1, owned_ax, ownerCh_of_unmoved (by exact hm)]
  · rfl
  · show (s.ax.get a).owner ≠ .homing
    rw [ho]; decide
  · show (s.ax.get a).owner ≠ .pendant
    rw [ho]; decide

theorem snapAll_setpoint (s : State) (a : Axis) : ((snapAll s).ax.get a).setpoint = (s.ax.get a).setpoint := by
  unfold snapAll; rw [mapAx_ax, PerAxis.get_map]

/-! ## The hold (R9, R48) -/

/-- A report goes with the queue's change and PI's. -/
theorem queueReport_with (k : Report) (s : State) (q : SegQueue) (p : PathInt) :
    queueReport k { s with sq := q, pi := p } = { queueReport k s with sq := q, pi := p } := by
  unfold queueReport; dsimp only; split <;> rfl

/-- HOLDING becomes HELD: QUEUE_STATE, and the hold record that stands or a new one (R48). -/
theorem becomeHeld_eq {s : State} (hst : s.sq.st = .holding) :
    becomeHeld s = { queueReport (.queueState .held .holding (curKey s) s.sq.recs.length) s with
      sq := { s.sq with st := .held }
      pi := { s.pi with hold := some (s.pi.hold.getD (newHold s)), ret := none } } := by
  have hset : setQState .held s = { queueReport (.queueState .held .holding (curKey s) s.sq.recs.length) s with
      sq := { s.sq with st := .held }, pi := s.pi } := by
    rw [setQState_of_ne (by rw [hst]; decide) (by decide), hst]
    exact queueReport_with _ s { s.sq with st := .held } s.pi
  unfold becomeHeld
  dsimp only
  rw [hset]
  have hnew : newHold { queueReport (.queueState .held .holding (curKey s) s.sq.recs.length) s with
      sq := { s.sq with st := .held }, pi := s.pi } = newHold s := by
    unfold newHold
    dsimp only
    rw [queueReport_ax]
    rfl
  rw [hnew]

theorem queueRule_holding {s : State} (hst : s.sq.st = .holding) (hr : s.pi.r = 0) (hstep : recordStep s = none)
    (hprog : inProgress s = false) : queueRule s = some (becomeHeld s) := by
  unfold queueRule
  rw [hstep]
  dsimp only
  rw [hst]
  exact if_pos ⟨hr, hprog⟩

/-- In a queue that runs no jog is permitted, so none of a state at rest is over while its axis rests. -/
theorem Resting.noJogOver {s : State} (h : Resting s) (hst : s.sq.st = .running) (a : Axis) :
    ¬((s.ax.get a).owner = .pendant ∧ jogOver s a = true ∧ (s.ax.get a).atRest = true) := fun e =>
  h.giveBack a ⟨e.1, e.2.1, e.2.2, .inr (by unfold jogPermitted; rw [hst]; simp)⟩

/-- A queue in HOLDING without a record that goes on, where every other rule rests. -/
theorem rules_queue {s t : State} {q : SegQueue} (h : Resting { s with sq := q }) (hq : q.st = .running)
    (ht : queueRule s = some t) : rules s = some t := by
  have hgive : ∀ a, giveBackRule s a = none := fun a =>
    (giveBackRule_none s a).2 fun e => h.noJogOver hq a ⟨e.1, e.2.1, e.2.2.1⟩
  unfold rules
  rw [(engagedRule_none s).2 h.engaged, (levelRule_none _ (gearLostCause s) _ s).2 h.lost,
    (levelRule_none _ (oilLowCause s) _ s).2 h.oil, (overloadRule_none s).2 h.overload, (grantRule_none s).2 h.grant,
    (clampRule_none s .x).2 (h.clamp .x), (clampRule_none s .y).2 (h.clamp .y), (clampRule_none s .z).2 (h.clamp .z),
    (clampRule_none s .b).2 (h.clamp .b), (spindleRule_none s).2 h.spindle, (shiftRule_none s).2 h.shift,
    (floodRule_none s).2 h.flood, (tscRule_none s).2 h.tsc, (homeRule_none s .x).2 (h.home .x),
    (homeRule_none s .y).2 (h.home .y), (homeRule_none s .z).2 (h.home .z), (homeRule_none s .w).2 (h.home .w),
    (homeRule_none s .b).2 (h.home .b), hgive, hgive, hgive, hgive, hgive, ht]
  rfl

theorem queueReport_replied (k : Report) (kind tag : Nat) (a : Answer) (s : State) :
    queueReport k (replied kind tag a s) = replied kind tag a (queueReport k s) := by
  unfold queueReport
  rw [apply_ite (replied kind tag a)]
  rfl

/-- A queue without a record that has become HELD wakes no closing rule. -/
theorem Resting.becameHeld {s : State} (h : Resting s) (hst : s.sq.st = .running) (hrecs : s.sq.recs = [])
    (r : Option HoldRec) : Resting { s with sq.st := .held, pi.hold := r, pi.ret := none } := by
  refine { h with giveBack := fun a e => h.noJogOver hst a ⟨e.1, e.2.1, e.2.2.1⟩, record := ?_, queue := rfl,
                  machine := fun e => ?_ }
  · exact recordRests_of_none (currentRec_of_nil hrecs)
  · have := e.2
    unfold readyTest at this
    simp at this

/-- HOLD of a RUNNING queue at rate 0 without a record (R9, R48). -/
theorem hold_at_rest {s : State} (tag : Nat) (h : Still s) (hfree : LinkFree s) (hst : s.sq.st = .running)
    (hr : s.pi.r = 0) (hrecs : s.sq.recs = []) (hraw : rawOf s .queueStarved = false) :
    exec (.hold tag) s = .next (transmit (replied 0x12 tag ⟨.ok, []⟩
      (queueReport (.queueState .held .holding none 0) (queueReport (.queueState .holding .running none 0)
        { s with sq.st := .held, pi.hold := some (s.pi.hold.getD (newHold s)), pi.ret := none })))) := by
  obtain ⟨m, hmdef⟩ : ∃ m, queueReport (.queueState .holding .running none 0) { s with sq.st := .holding } = m := ⟨_, rfl⟩
  have hm : m = { queueReport (.queueState .holding .running none 0) s with
      sq := { s.sq with st := .holding }, pi := s.pi } := by
    rw [← hmdef]; exact queueReport_with _ s { s.sq with st := .holding } s.pi
  have hcur : currentRec s = none := currentRec_of_nil hrecs
  have hset : setQState .holding s = m := by
    have hfall : rawOf m .queueStarved = false := by
      have : m.cn = s.cn := by rw [← hmdef]; exact queueReport_cn ..
      unfold rawOf at hraw ⊢
      unfold condEntry at hraw ⊢
      rw [this]; exact hraw
    unfold setQState
    rw [if_neg (by rw [hst]; decide)]
    dsimp only
    rw [if_pos (.inr (.inl rfl)), show curKey s = none by unfold curKey; rw [hcur]; rfl, hst, show s.sq.recs.length = 0 by rw [hrecs]; rfl, hmdef]
    unfold fall
    rw [if_neg (by rw [hfall]; decide)]
  have hserve : serve .hold (linkCleared s) = (⟨.ok, []⟩, linkCleared m) := by
    show plain .ok (sqHold (linkCleared s)) = _
    have hlink : sqHold (linkCleared s) = linkCleared (sqHold s) := by
      unfold sqHold setQState
      rw [apply_ite linkCleared, apply_ite linkCleared, apply_ite linkCleared, ← fall_linkCleared,
        ← queueReport_linkCleared]
      rfl
    rw [hlink]
    unfold sqHold
    rw [if_pos (.inl hst), hset]
    rfl
  rw [exec_taken_finish (c := .hold tag) (r := .hold) rfl hfree hserve, show requestKind .hold = 0x12 from rfl]
  have hmst : (replied 0x12 tag ⟨.ok, []⟩ m).sq.st = .holding := by rw [hm]; rfl
  have hmrec : currentRec (replied 0x12 tag ⟨.ok, []⟩ m) = none := currentRec_of_nil (by rw [hm]; exact hrecs)
  have hrule := queueRule_holding (s := replied 0x12 tag ⟨.ok, []⟩ m) hmst (by rw [hm]; exact hr)
    ((recordStep_none _).2 (recordRests_of_none hmrec)) (by unfold inProgress; rw [hmrec])
  have hrest := h.resting
  have hruns : Resting { replied 0x12 tag ⟨.ok, []⟩ m with sq := s.sq } := by
    have heq : { replied 0x12 tag ⟨.ok, []⟩ m with sq := s.sq } =
        replied 0x12 tag ⟨.ok, []⟩ { queueReport (.queueState .holding .running none 0) s with sq := s.sq, pi := s.pi } := by
      rw [hm]; rfl
    rw [heq, ← queueReport_with]
    exact (hrest.queueReport _).replied ..
  have hheld : becomeHeld (replied 0x12 tag ⟨.ok, []⟩ m) = replied 0x12 tag ⟨.ok, []⟩
      (queueReport (.queueState .held .holding none 0) (queueReport (.queueState .holding .running none 0)
        { s with sq.st := .held, pi.hold := some (s.pi.hold.getD (newHold s)), pi.ret := none })) := by
    have hnew : newHold (replied 0x12 tag ⟨.ok, []⟩ m) = newHold s := by
      unfold newHold
      rw [hmrec, hcur, show (replied 0x12 tag ⟨.ok, []⟩ m).ax = s.ax by rw [← hmdef]; exact queueReport_ax ..]
    rw [becomeHeld_eq hmst, hnew, show curKey (replied 0x12 tag ⟨.ok, []⟩ m) = none by unfold curKey; rw [hmrec]; rfl,
      show (replied 0x12 tag ⟨.ok, []⟩ m).sq.recs.length = 0 by rw [hm]; show s.sq.recs.length = 0; rw [hrecs]; rfl,
      queueReport_replied]
    have hsq : m.sq = { s.sq with st := .holding } := by rw [hm]
    have hpi : m.pi = s.pi := by rw [hm]
    have hput : queueReport (.queueState .holding .running none 0) { s with
        sq.st := .held, pi.hold := some (s.pi.hold.getD (newHold s)), pi.ret := none } =
        { m with sq := { s.sq with st := .held }
                 pi := { s.pi with hold := some (s.pi.hold.getD (newHold s)), ret := none } } := by
      rw [hm]; exact queueReport_with _ s _ _
    rw [hput]
    show replied 0x12 tag ⟨.ok, []⟩ { queueReport (.queueState .held .holding none 0) m with
      sq := { m.sq with st := .held }
      pi := { m.pi with hold := some (m.pi.hold.getD (newHold s)), ret := none } } = _
    rw [hsq, hpi]
    exact congrArg (replied 0x12 tag ⟨.ok, []⟩) (queueReport_with _ m _ _).symm
  rw [finish_of_rule (rules_queue hruns hst hrule) ?_, hheld]
  rw [hheld]
  exact (((hrest.becameHeld hst hrecs _).queueReport _).queueReport _ |>.replied ..).still (by
    show (queueReport _ (queueReport _ _)).pp.answerDue = false
    rw [queueReport_pp, queueReport_pp]; exact h.2)

/-- Settles O29. -/
theorem movePositions : Obligations.MovePositions := by
  refine ⟨fun n p l hn hp => legAt_spec l hn hp, fun s m q c rs hret hmove hc hrecs hm hst => ⟨rfl, ?last, ?carry⟩,
    fun s m hret hst hrecs hm hp => ⟨rfl, fun hrun => period_return_end hret hst hrecs hm hp hrun⟩,
    fun s hst hm => ⟨_, rfl, fun a ho => ?stands⟩, fun s q c rs hst hr hc hrecs => ?holding,
    fun s tag h hfree hst hr hrecs hraw => ?hold⟩
  case last => exact fun hp hend hsame => period_move_end hret hmove hc hrecs hm hst hp hend hsame
  case carry =>
    intro k d ds hp hne hstop hrs hmot hlegs hturn hin hsame
    exact period_carry hret hmove hc (hrs ▸ hrecs) hm (hst.imp_right fun e => e.resolve_right hne) hp hstop hmot hlegs hturn
      hin hsame
  case stands =>
    rw [snapAll_setpoint, (setpoint_of_settings (settings_finish (periodWork s)) a).1]
    exact period_stands hst hm ho
  case holding =>
    have hrec : currentRec s = some ⟨q, .move c⟩ := currentRec_of_cons hrecs hc
    have hstep : recordStep s = none := (recordStep_none s).2 (by unfold recordRests; rw [hrec])
    have hnew : newHold s = ⟨some (q, (s.pi.move.map fun m => m.p).getD 0), s.ax.map fun _ k => k.setpoint,
        ⟨false, false, false, false, false⟩⟩ := by
      unfold newHold
      rw [hrec]
      cases s.pi.move <;> rfl
    rw [queueRule_holding hst hr hstep (by unfold inProgress; rw [hrec]), becomeHeld_eq hst, hnew,
      show curKey s = some (q, 1) by unfold curKey; rw [hrec]; rfl]
    dsimp only
    rw [queueReport_sq, queueReport_pi]
  case hold =>
    have hnew : newHold s = ⟨none, s.ax.map fun _ k => k.setpoint, ⟨false, false, false, false, false⟩⟩ := by
      unfold newHold
      rw [currentRec_of_nil hrecs]
    have := hold_at_rest tag h hfree hst hr hrecs hraw
    rw [hnew] at this
    exact this

end Sys2Proof.Machine
end

section
/-! CLAIMS. The handwheel delta (R173) and PP's motion of an axis in a path period (R170, R171, R175). -/

namespace Sys2Proof.Machine

/-! ## The handwheel delta (R173) -/

theorem wheelDelta_range (old new : Nat) : -128 ≤ wheelDelta old new ∧ wheelDelta old new ≤ 127 := by
  unfold wheelDelta
  dsimp only
  split <;> omega

theorem wheelDelta_leads (old : Nat) {new : Nat} (h : new < 256) : ((old : Int) + wheelDelta old new) % 256 = new := by
  unfold wheelDelta
  dsimp only
  split <;> omega

/-- Two numbers from −128 to 127 that lead to the same counter are one. -/
theorem wheelDelta_unique {old new : Nat} (h : new < 256) {d : Int} (hlow : -128 ≤ d) (hhigh : d ≤ 127)
    (hd : ((old : Int) + d) % 256 = new) : d = wheelDelta old new := by
  have hw := wheelDelta_leads old h
  obtain ⟨hl, hu⟩ := wheelDelta_range old new
  omega

/-! ## The profile of a button jog (R170, R171) -/

theorem tdiv_reaches {D R : Int} (hD : 0 < D) : D ≤ R.tdiv 1000 ↔ D * 1000 ≤ R := by
  rcases lt_or_ge R 0 with h | h
  · have hneg : 0 ≤ (-R).tdiv 1000 := Int.tdiv_nonneg (by omega) (by decide)
    rw [Int.neg_tdiv] at hneg
    omega
  · rw [Int.tdiv_eq_ediv_of_nonneg h]
    omega

/-- The setpoint reaches the limit exactly where the distance ahead is used up. -/
theorem reaches_limit (plus : Bool) {sp limit rem u : Int} (h : (if plus then (1 : Int) else -1) * (sp - limit) < 0) :
    0 ≤ (if plus then (1 : Int) else -1) * (sp + divTrunc (rem + u) 1000 - limit) ↔
      (if plus then (1 : Int) else -1) * (limit - sp) * 1000 - (if plus then (1 : Int) else -1) * rem ≤
        (if plus then (1 : Int) else -1) * u := by
  unfold divTrunc
  cases plus
  case true =>
    simp only [if_true, one_mul] at h ⊢
    have := tdiv_reaches (D := limit - sp) (R := rem + u) (by omega)
    omega
  case false =>
    simp only [Bool.false_eq_true, if_false] at h ⊢
    have := tdiv_reaches (D := sp - limit) (R := -(rem + u)) (by omega)
    rw [Int.neg_tdiv] at this
    omega

/-- The distance ahead as the profile works it out. -/
def ahead (sp limit : Int) (plus : Bool) (j : Jog) : Int :=
  (if plus then (1 : Int) else -1) * (limit - sp) * 1000 - (if plus then (1 : Int) else -1) * j.rem

/-- The jog must brake for the limit ahead (R171). -/
def brakesFor (far : Int) (a : Nat) (j : Jog) : Bool :=
  decide (far ≤ ((j.vel.natAbs * j.vel.natAbs / (2 * a) + j.vel.natAbs : Nat) : Int))

/-- The velocity of a jog toward the limit ahead (R171). -/
def limitedTo (far : Int) (plus : Bool) (a : Nat) (goes : Int) (j : Jog) : Int :=
  (if plus then (1 : Int) else -1) * limitedVelocity (brakesFor far a j && j.fin == .none) (j.brk && j.fin == .none) a
    j.vel.natAbs ((if plus then (1 : Int) else -1) * goes)

/-- The profile ends at the limit that its step reaches, and else advances by whole pu. -/
theorem jogLimited_before {target : Int} {step a : Nat} {limit : Int} {plus : Bool} {sp : Int} {j : Jog}
    (h : (if plus then (1 : Int) else -1) * (sp - limit) < 0) {u : Int}
    (hu : limitedTo (ahead sp limit plus j) plus a (toward j.vel target step) j = u) :
    jogLimited target step a limit plus sp j =
      if 0 < (if plus then (1 : Int) else -1) * u ∧ ahead sp limit plus j ≤ (if plus then (1 : Int) else -1) * u then
        (limit, { j with vel := 0, rem := 0, brk := false })
      else (sp + divTrunc (j.rem + u) 1000,
        { j with vel := u, rem := j.rem + u - divTrunc (j.rem + u) 1000 * 1000,
                 brk := (brakesFor (ahead sp limit plus j) a j || j.brk) && j.fin == .none &&
                   decide (0 < (if plus then (1 : Int) else -1) * u) }) := by
  unfold jogLimited
  dsimp only
  rw [if_neg (by omega), approach_eq_toward]
  subst hu
  exact if_congr (and_congr_right' (reaches_limit plus h)) rfl rfl

theorem ahead_eq (k : AxisCh) (j : Jog) (plus : Bool) :
    ahead k.setpoint (if plus then k.p.softMax else k.p.softMin) plus j = aheadDistance k j plus := by
  unfold ahead aheadDistance
  cases plus <;> simp only [Bool.false_eq_true, if_false, if_true] <;> omega

theorem sign_sign (plus : Bool) (x : Int) : (if plus then (1 : Int) else -1) * ((if plus then (1 : Int) else -1) * x) = x := by
  cases plus <;> simp

theorem limitedTo_braking {far : Int} {plus : Bool} {a : Nat} {goes : Int} {j : Jog} (hb : brakesFor far a j = true)
    (hf : j.fin = .none) :
    limitedTo far plus a goes j = (if plus then (1 : Int) else -1) * max ((j.vel.natAbs : Int) - a) a := by
  unfold limitedTo limitedVelocity
  rw [hb, hf]
  rfl

/-- Where no braking counts the jog goes as the profile without a limit does. -/
theorem limitedTo_free {far : Int} {plus : Bool} {a : Nat} {goes : Int} {j : Jog}
    (hb : (brakesFor far a j && j.fin == .none) = false) (hk : (j.brk && j.fin == .none) = false) :
    limitedTo far plus a goes j = goes := by
  unfold limitedTo limitedVelocity
  rw [hb, hk]
  cases plus <;> simp

theorem limitedTo_braked {far : Int} {plus : Bool} {a : Nat} {goes : Int} {j : Jog} (hf : j.fin = .none)
    (hk : j.brk = true) :
    (if plus then (1 : Int) else -1) * limitedTo far plus a goes j ≤ max ((j.vel.natAbs : Int) - a) a := by
  unfold limitedTo limitedVelocity
  rw [hk, hf, sign_sign]
  cases brakesFor far a j
  · exact min_le_left _ _
  · exact le_rfl

/-- The velocity toward the limit ahead is positive where the jog brakes. -/
theorem limitedTo_braking_pos {far : Int} {plus : Bool} {a : Nat} (ha : 0 < a) {goes : Int} {j : Jog}
    (hb : brakesFor far a j = true) (hf : j.fin = .none) :
    0 < (if plus then (1 : Int) else -1) * limitedTo far plus a goes j := by
  rw [limitedTo_braking hb hf]
  cases plus <;> simp <;> omega

/-- A setpoint and a jog after one period of the profile toward a limit (R171), with the velocity that the step gives. -/
structure Limits (sp limit : Int) (plus : Bool) (j : Jog) (u : Int) (n : Int) (i : Jog) : Prop where
  ends : 0 < (if plus then (1 : Int) else -1) * u → ahead sp limit plus j ≤ (if plus then (1 : Int) else -1) * u →
    n = limit ∧ i.vel = 0 ∧ i.rem = 0
  goes : (if plus then (1 : Int) else -1) * u ≤ 0 ∨ (if plus then (1 : Int) else -1) * u < ahead sp limit plus j →
    n = sp + divTrunc (j.rem + u) 1000 ∧ i.vel = u ∧ i.rem = j.rem + u - divTrunc (j.rem + u) 1000 * 1000

theorem jogLimited_limits {target : Int} {step a : Nat} {limit : Int} {plus : Bool} {sp : Int} {j : Jog}
    (h : (if plus then (1 : Int) else -1) * (sp - limit) < 0) {u : Int}
    (hu : limitedTo (ahead sp limit plus j) plus a (toward j.vel target step) j = u) :
    Limits sp limit plus j u (jogLimited target step a limit plus sp j).1 (jogLimited target step a limit plus sp j).2 := by
  rw [jogLimited_before h hu]
  constructor
  case ends => intro hpos hfar; rw [if_pos ⟨hpos, hfar⟩]; exact ⟨rfl, rfl, rfl⟩
  case goes => intro hnot; rw [if_neg (by omega)]; exact ⟨rfl, rfl, rfl⟩

/-- A jog that has braked gains no speed and does not pass the limit (section 8.7.1). -/
theorem jogLimited_braked {target : Int} {step a : Nat} (ha : 0 < a) {limit : Int} {plus : Bool} {sp : Int} {j : Jog}
    (h : (if plus then (1 : Int) else -1) * (sp - limit) < 0) (hf : j.fin = .none) (hk : j.brk = true) :
    (if plus then (1 : Int) else -1) * (jogLimited target step a limit plus sp j).2.vel ≤
        max ((j.vel.natAbs : Int) - a) a ∧
      0 ≤ (if plus then (1 : Int) else -1) * (limit - (jogLimited target step a limit plus sp j).1) := by
  obtain ⟨u, hu⟩ : ∃ u, limitedTo (ahead sp limit plus j) plus a (toward j.vel target step) j = u := ⟨_, rfl⟩
  have hlow : (if plus then (1 : Int) else -1) * u ≤ max ((j.vel.natAbs : Int) - a) a := hu ▸ limitedTo_braked hf hk
  have hreach := reaches_limit plus (rem := j.rem) (u := u) h
  have hpos : brakesFor (ahead sp limit plus j) a j = true → 0 < (if plus then (1 : Int) else -1) * u :=
    fun hb => hu ▸ limitedTo_braking_pos ha hb hf
  have hfar : brakesFor (ahead sp limit plus j) a j = false → 0 < ahead sp limit plus j := by
    unfold brakesFor
    rw [decide_eq_false_iff_not]
    exact fun e => lt_of_le_of_lt (Int.natCast_nonneg _) (not_le.1 e)
  rw [jogLimited_before h hu]
  by_cases hend : 0 < (if plus then (1 : Int) else -1) * u ∧ ahead sp limit plus j ≤ (if plus then (1 : Int) else -1) * u
  · rw [if_pos hend]
    refine ⟨?_, ?_⟩
    · show _ * (0 : Int) ≤ _
      omega
    · show 0 ≤ _ * (limit - limit)
      rw [sub_self, mul_zero]
  · rw [if_neg hend]
    refine ⟨hlow, ?_⟩
    have hless : ¬ ahead sp limit plus j ≤ (if plus then (1 : Int) else -1) * u := by
      cases hb : brakesFor (ahead sp limit plus j) a j
      case true => exact fun e => hend ⟨hpos hb, e⟩
      case false => have := hfar hb; omega
    have hshort : ¬ 0 ≤ (if plus then (1 : Int) else -1) * (sp + divTrunc (j.rem + u) 1000 - limit) :=
      fun e => hless (hreach.1 e)
    show 0 ≤ (if plus then (1 : Int) else -1) * (limit - (sp + divTrunc (j.rem + u) 1000))
    rw [← neg_sub, mul_neg]
    omega

/-- The velocity that the statement gives is the limited one, but for a jog that has braked before. -/
theorem limitedTo_eq {far : Int} {plus : Bool} {a : Nat} {goes : Int} {j : Jog}
    (h : brakesFor far a j = true ∨ j.fin ≠ .none ∨ j.brk = false) :
    limitedTo far plus a goes j = if brakesFor far a j = true ∧ j.fin = .none then
      (if plus then (1 : Int) else -1) * max ((j.vel.natAbs : Int) - a) a else goes := by
  split
  next hb => exact limitedTo_braking hb.1 hb.2
  next hb =>
    have hnone : j.fin ≠ .none → (j.fin == .none) = false := fun e => beq_eq_false_iff_ne.2 e
    refine limitedTo_free ?_ ?_
    · by_cases hf : j.fin = .none
      · rw [Bool.eq_false_iff.2 fun e => hb ⟨e, hf⟩]; rfl
      · rw [hnone hf, Bool.and_false]
    · by_cases hf : j.fin = .none
      · rcases h with e | e | e
        · exact absurd ⟨e, hf⟩ hb
        · exact absurd hf e
        · rw [e]; rfl
      · rw [hnone hf, Bool.and_false]

/-! ## PP's motion in a path period -/

theorem limitAhead_of {j : Jog} {plus : Bool}
    (h : if plus then 0 < j.vel ∨ (j.vel = 0 ∧ j.dir = .plus) else j.vel < 0 ∨ (j.vel = 0 ∧ j.dir = .minus)) :
    limitAhead j = some plus := by
  unfold limitAhead
  cases plus
  case true =>
    rcases h with h | ⟨h, hd⟩
    · rw [if_pos h]
    · rw [h, hd]; rfl
  case false =>
    rcases h with h | ⟨h, hd⟩
    · rw [if_neg (by omega), if_pos h]
    · rw [h, hd]; rfl

theorem jogEnded_motion (j : Jog) : (jogEnded j).vel = j.vel ∧ (jogEnded j).rem = j.rem := by
  unfold jogEnded
  split <;> exact ⟨rfl, rfl⟩

theorem jogTarget_eq {s : State} {f : StatusFrame} (h : s.pp.last = some f) (k : AxisCh) (j : Jog) :
    jogTarget s k.p j = wantedVelocity s k j f := by
  unfold jogTarget wantedVelocity
  rw [h] <;> rfl

theorem stepInForce_eq (s : State) (k : AxisCh) (j : Jog) :
    (if j.fin = .panic then panicStep k.p s.pi else aStep k.p) = stepInForce s k j := rfl

/-- The profile toward the limit ahead (R171). -/
theorem jogProfile_limited {s : State} {k : AxisCh} {j : Jog} {f : StatusFrame} (hl : s.pp.last = some f)
    (hr : k.refd = true) {plus : Bool} (ha : limitAhead j = some plus) :
    jogProfile s k j = (fun r : Int × Jog => (r.1, jogEnded r.2)) (jogLimited (wantedVelocity s k j f) (stepInForce s k j)
      (aStep k.p) (if plus then k.p.softMax else k.p.softMin) plus k.setpoint j) := by
  unfold jogProfile
  rw [ha, hr, jogTarget_eq hl]
  rfl

/-- The profile without a limit (R170). -/
theorem jogProfile_free {s : State} {k : AxisCh} {j : Jog} {f : StatusFrame} (hl : s.pp.last = some f)
    (h : k.refd = false ∨ limitAhead j = none) :
    jogProfile s k j = (fun r : Int × Jog => (r.1, jogEnded r.2))
      (jogFree (wantedVelocity s k j f) (stepInForce s k j) k.setpoint j) := by
  unfold jogProfile
  rw [jogTarget_eq hl]
  rcases h with h | h
  · rw [h]
    cases limitAhead j <;> rfl
  · rw [h]
    rfl

/-- What a period gives a RELEASED axis of the pendant, where it does not leave TRIPPED behind: the channel and the jog
of PP's motion (R57, R170, R175). -/
theorem period_jogged {s : State} {a : Axis} (ho : (s.ax.get a).owner = .pendant) (hst : s.sq.st = .idle ∨ s.sq.st = .held)
    (hrel : released s a = true) (hm : (periodWork s).cn.machine ≠ .tripped) :
    ((periodWork s).ax.get a).setpoint = (jogCh s (s.ax.get a) (s.pp.jogs.get a)).setpoint ∧
      ((periodWork s).pp.jogs.get a).vel = (profiled s a (s.ax.get a) (s.pp.jogs.get a)).vel ∧
      ((periodWork s).pp.jogs.get a).rem = (profiled s a (s.ax.get a) (s.pp.jogs.get a)).rem := by
  have hpath : pathWork s = s := if_neg (by rcases hst with e | e <;> rw [e] <;> decide)
  have hafter := after_periodWork s
  rw [periodSetpoints_eq, hpath] at hafter
  have hbefore : s.cn.machine ≠ .tripped := fun e => hm (hafter.tripped e)
  obtain ⟨hvel, hrem⟩ := hafter.jogs hm a
  have hjog : (owned (compWork s)).pp.jogs.get a = profiled s a (s.ax.get a) (s.pp.jogs.get a) := by
    rw [owned_jog]
    exact if_neg hbefore
  rw [hvel, hrem, hjog, (setpoint_of_settings hafter.settings a).1, owned_ax]
  refine ⟨?_, rfl, rfl⟩
  rw [ownerCh_of_pendant (by exact hbefore) (by exact ho) (by exact hrel)]
  rfl

/-- A button jog's axis takes what its profile gives (R170). -/
theorem period_button {s : State} {a : Axis} (ho : (s.ax.get a).owner = .pendant) (hst : s.sq.st = .idle ∨ s.sq.st = .held)
    (hrel : released s a = true) (hm : (periodWork s).cn.machine ≠ .tripped) (hmode : (s.pp.jogs.get a).mode = .button)
    {p : Int × Jog} (hp : jogProfile s (s.ax.get a) (s.pp.jogs.get a) = (fun r : Int × Jog => (r.1, jogEnded r.2)) p) :
    ((periodWork s).ax.get a).setpoint = p.1 ∧ ((periodWork s).pp.jogs.get a).vel = p.2.vel ∧
      ((periodWork s).pp.jogs.get a).rem = p.2.rem := by
  obtain ⟨hset, hvel, hrem⟩ := period_jogged ho hst hrel hm
  rw [show profiled s a (s.ax.get a) (s.pp.jogs.get a) = jogEnded p.2 by
    unfold profiled; rw [if_pos ⟨ho, hrel, hmode⟩, hp]] at hvel hrem
  rw [show jogCh s (s.ax.get a) (s.pp.jogs.get a) = givenCh p.1 (s.ax.get a) by unfold jogCh; rw [hmode, hp]] at hset
  exact ⟨hset, hvel.trans (jogEnded_motion _).1, hrem.trans (jogEnded_motion _).2⟩

/-- A button jog without a limit ahead, or of an axis that is not REFERENCED, runs the profile of R170. -/
theorem period_advances {s u : State} (hu : periodWork s = u) {a : Axis} (ho : (s.ax.get a).owner = .pendant) (hst : s.sq.st = .idle ∨ s.sq.st = .held)
    (hrel : released s a = true) (hm : u.cn.machine ≠ .tripped) (hmode : (s.pp.jogs.get a).mode = .button)
    {f : StatusFrame} (hl : s.pp.last = some f) (h : (s.ax.get a).refd = false ∨ limitAhead (s.pp.jogs.get a) = none) :
    Advanced (s.ax.get a) (s.pp.jogs.get a) (toward (s.pp.jogs.get a).vel
        (wantedVelocity s (s.ax.get a) (s.pp.jogs.get a) f) (stepInForce s (s.ax.get a) (s.pp.jogs.get a)))
      (u.ax.get a) (u.pp.jogs.get a) := by
  subst hu
  have hrun := period_button ho hst hrel hm hmode (jogProfile_free hl h)
  unfold jogFree at hrun
  rw [approach_eq_toward] at hrun
  exact hrun

theorem aStep_pos (p : AxisParams) : 0 < aStep p := lt_of_lt_of_le Nat.one_pos (le_max_left _ _)

/-- A button jog of a REFERENCED axis toward the limit ahead (R171). -/
theorem period_limited {s u : State} (hu : periodWork s = u) {a : Axis} (ho : (s.ax.get a).owner = .pendant) (hst : s.sq.st = .idle ∨ s.sq.st = .held)
    (hrel : released s a = true) (hm : u.cn.machine ≠ .tripped) (hmode : (s.pp.jogs.get a).mode = .button)
    {f : StatusFrame} (hl : s.pp.last = some f) {k : AxisCh} (hk : s.ax.get a = k) {j : Jog} (hj : s.pp.jogs.get a = j)
    (href : k.refd = true) {plus : Bool} (hdir : limitAhead j = some plus) {limit : Int}
    (hlim : (if plus then k.p.softMax else k.p.softMin) = limit) {n : AxisCh} (hn : u.ax.get a = n) {i : Jog}
    (hi : u.pp.jogs.get a = i) :
    (0 ≤ (if plus then (1 : Int) else -1) * (k.setpoint - limit) →
      n.setpoint = k.setpoint ∧ i.rem = j.rem ∧ i.vel = toward j.vel 0 (stepInForce s k j)) ∧
    ((if plus then (1 : Int) else -1) * (k.setpoint - limit) < 0 →
      Limits k.setpoint limit plus j (limitedTo (aheadDistance k j plus) plus (aStep k.p)
        (toward j.vel (wantedVelocity s k j f) (stepInForce s k j)) j) n.setpoint i ∧
      (j.fin = .none → j.brk = true →
        (if plus then (1 : Int) else -1) * i.vel ≤ max ((j.vel.natAbs : Int) - aStep k.p) (aStep k.p) ∧
          0 ≤ (if plus then (1 : Int) else -1) * (limit - n.setpoint))) := by
  subst hu
  subst hk hj hn hi hlim
  have hprof := jogProfile_limited hl href hdir
  have hrun := period_button ho hst hrel hm hmode hprof
  obtain ⟨hset, hvel, hrem⟩ := hrun
  refine ⟨fun hb => ?_, fun hb => ⟨?_, fun hf hk => ?_⟩⟩
  · rw [hset, hvel, hrem, jogLimited_beyond hb, approach_eq_toward]
    exact ⟨rfl, rfl, rfl⟩
  · have hlims := jogLimited_limits hb (j := s.pp.jogs.get a) (target := wantedVelocity s (s.ax.get a) (s.pp.jogs.get a) f)
      (step := stepInForce s (s.ax.get a) (s.pp.jogs.get a)) (a := aStep (s.ax.get a).p) rfl
    rw [ahead_eq] at hlims
    obtain ⟨hends, hgoes⟩ := hlims
    rw [hset]
    exact ⟨fun h1 h2 => by rw [hvel, hrem]; exact hends h1 h2, fun h1 => by rw [hvel, hrem]; exact hgoes h1⟩
  · rw [hset, hvel]
    exact jogLimited_braked (aStep_pos _) hb hf hk

/-- The period clauses of `WheelDeltaIsTheShorterWay` on a button jog toward a limit. -/
theorem limits_of_period {k : AxisCh} {j : Jog} {n : AxisCh} {i : Jog} {plus : Bool} {goes : Int} {limit : Int}
    (h : Limits k.setpoint limit plus j (limitedTo (aheadDistance k j plus) plus (aStep k.p) goes j) n.setpoint i)
    (hlim : (if plus then k.p.softMax else k.p.softMin) = limit)
    (hb : brakesFor (aheadDistance k j plus) (aStep k.p) j = true ∨ j.fin ≠ .none ∨ j.brk = false) {v : Int}
    (hv : v = if brakesFor (aheadDistance k j plus) (aStep k.p) j = true ∧ j.fin = .none then
      (if plus then (1 : Int) else -1) * max ((j.vel.natAbs : Int) - aStep k.p) (aStep k.p) else goes) :
    (0 < (if plus then (1 : Int) else -1) * v → aheadDistance k j plus ≤ (if plus then (1 : Int) else -1) * v →
      n.setpoint = limit ∧ i.vel = 0 ∧ i.rem = 0) ∧
    ((if plus then (1 : Int) else -1) * v ≤ 0 ∨ (if plus then (1 : Int) else -1) * v < aheadDistance k j plus →
      Advanced k j v n i) := by
  rw [limitedTo_eq hb, ← hv] at h
  obtain ⟨hends, hgoes⟩ := h
  subst hlim
  rw [ahead_eq] at hends hgoes
  exact ⟨hends, hgoes⟩

theorem wheel_period {s u : State} (hu : periodWork s = u) {a : Axis} (ho : (s.ax.get a).owner = .pendant) (hst : s.sq.st = .idle ∨ s.sq.st = .held)
    (hrel : released s a = true) (hm : u.cn.machine ≠ .tripped) (hmode : (s.pp.jogs.get a).mode = .wheel) :
    (u.ax.get a).setpoint =
      toward (s.ax.get a).setpoint (s.pp.jogs.get a).wheel ((s.ax.get a).p.hwSpeed / 1000) := by
  subst hu
  rw [(period_jogged ho hst hrel hm).1]
  unfold jogCh
  rw [hmode]
  rfl

end Sys2Proof.Machine
end

section
/-! SUPPORT. A frame of a PRESENT pendant with the enable MIDDLE and I3 on (R160): its own work, the jogs that it ends,
and a take (R168) with the closing rules behind it. -/

namespace Sys2Proof.Machine

/-! ## The work of a frame before its buttons (R160 steps 1 to 6) -/

/-- The receiver's part of a frame's work (R160 steps 1 and 2). -/
def received (s : State) : State := { s with pp.rx := .hunting, pp.freshT := .start 50, pp.answerDue := true }

theorem pendantRead_new {s : State} {o f : StatusFrame} {l : List Byte} (h : NewFrame s o f l) :
    pendantRead l s = takeWhole (some o) f (received s) := by
  obtain ⟨hst, hlast, hparse, hseq⟩ := h
  unfold pendantRead
  rw [if_neg (by rw [hst]; decide), hparse]
  show takeFrame f { s with pp.rx := .hunting } = _
  have hfirst : (s.pp.st != .present) = false := by rw [hst]; rfl
  unfold takeFrame
  dsimp only
  rw [hfirst, hlast]
  exact if_neg hseq

/-- PP and PI after a frame's own work, with the enable MIDDLE and I3 on. -/
def framedPp (f : StatusFrame) (p : Pendant) : Pendant :=
  { p with rx := .hunting, freshT := .start 50, answerDue := true, last := some f, seen := true, mismT := .stopped }

/-- The knob's feed override (R35). -/
def framedPi (f : StatusFrame) (p : PathInt) : PathInt :=
  { p with feed := if p.source = .pendant then min 150 f.knob else p.feed }

theorem knobStep_eq (f : StatusFrame) (s : State) : knobStep f s = { s with pi := framedPi f s.pi } := by
  unfold knobStep framedPi
  split <;> rfl

/-- A report goes with the changes of PI and PP. -/
theorem queueReport_put (k : Report) (s : State) (p : PathInt) (q : Pendant) :
    queueReport k { s with pi := p, pp := q } = { queueReport k s with pi := p, pp := q } := by
  unfold queueReport; dsimp only; split <;> rfl

theorem fall_with (c : Cond) (s : State) (p : PathInt) (q : Pendant) :
    fall c { s with pi := p, pp := q } = { fall c s with pi := p, pp := q } := by
  unfold fall
  rw [show rawOf { s with pi := p, pp := q } c = rawOf s c from rfl]
  split
  · exact queueReport_put (.cleared c) (setRaw c false s) p q
  · rfl

theorem enableStep_middle {s : State} {f : StatusFrame} (hst : s.pp.st = .present) (hl : s.pp.last = some f)
    (hen : f.enable = .middle) (hc : enableContact s = true) :
    enableStep f s = fall .pendantEnableMismatch { s with pp.mismT := .stopped } := by
  have harm : armStep s = s := by
    unfold armStep
    rw [hst, hl]
    exact if_neg (by rw [hen]; exact fun e => (nomatch e.1))
  have hagree : enablesAgree s f = true := by unfold enablesAgree; rw [if_pos hen]; exact hc
  have hmis : mismatchStep s = fall .pendantEnableMismatch { s with pp.mismT := .stopped } := by
    unfold mismatchStep
    rw [hst, hl]
    exact if_pos hagree
  unfold enableStep
  rw [if_neg (by rw [hen]; decide)]
  dsimp only
  rw [harm, hmis, hen]

/-- The state in which a frame's buttons and handwheel are read (R160 step 7), where selector and multiplier stay. -/
theorem framed_eq {s : State} {o f : StatusFrame} (hst : s.pp.st = .present) (hsel : f.sel = o.sel) (hmult : f.mult = o.mult)
    (hen : f.enable = .middle) (hc : enableContact s = true) :
    selectorStep (some o) f (enableStep f (knobStep f { received s with pp.last := some f, pp.seen := true })) =
      { fall .pendantEnableMismatch s with pi := framedPi f s.pi, pp := framedPp f s.pp } := by
  have hselector : ∀ u, selectorStep (some o) f u = u := fun u => by
    unfold selectorStep
    rw [hsel, hmult]
    simp
  rw [hselector, knobStep_eq, enableStep_middle (by exact hst) rfl hen (by exact hc)]
  exact fall_with .pendantEnableMismatch s (framedPi f s.pi) (framedPp f s.pp)

/-- A new frame, up to its buttons. -/
theorem pendantRead_framed {s : State} {o f : StatusFrame} {l : List Byte} (h : NewFrame s o f l) (hsel : f.sel = o.sel)
    (hmult : f.mult = o.mult) (hen : f.enable = .middle) (hc : enableContact s = true) :
    pendantRead l s = wheelStep (some o) f (pressStep (some o) f
      { fall .pendantEnableMismatch s with pi := framedPi f s.pi, pp := framedPp f s.pp }) := by
  rw [pendantRead_new h]
  unfold takeWhole
  dsimp only
  rw [framed_eq h.1 hsel hmult hen hc]

/-! ## The buttons that are let go (R172) -/

/-- The jogs after a frame has ended those whose button is no longer pressed. -/
def jogsLet (f : StatusFrame) (s : State) : PerAxis Jog :=
  s.pp.jogs.map fun a j => if buttonsEnd f j then endJogOf .jog (s.ax.get a).setpoint j else j

theorem foldl_updJog (g : Axis → AxisCh → Jog → Jog) (l : List Axis) (s : State) :
    l.foldl (fun u a => updJog a (g a (u.ax.get a)) u) s =
      { s with pp.jogs := l.foldl (fun v a => v.upd a (g a (s.ax.get a))) s.pp.jogs } := by
  induction l generalizing s with
  | nil => rfl
  | cons a l ih => rw [List.foldl_cons, ih, List.foldl_cons]; rfl

theorem foldl_upd {α : Type} (g : Axis → α → α) (v : PerAxis α) : allAxes.foldl (fun v a => v.upd a (g a)) v = v.map g := rfl

theorem jogReleases_eq (f : StatusFrame) (s : State) : jogReleases f s = { s with pp.jogs := jogsLet f s } := by
  have hstep : (fun (u : State) (a : Axis) => if buttonsEnd f (u.pp.jogs.get a) then endJog .jog a u else u) =
      fun u a => updJog a (fun j => if buttonsEnd f j then endJogOf .jog (u.ax.get a).setpoint j else j) u := by
    funext u a
    split
    next h => exact updJog_congr (if_pos h).symm
    next h =>
      exact (updJog_self (f := fun j => if buttonsEnd f j then endJogOf .jog (u.ax.get a).setpoint j else j)
        (if_neg h)).symm
  unfold jogReleases
  rw [hstep]
  rw [foldl_updJog (fun _ k j => if buttonsEnd f j then endJogOf .jog k.setpoint j else j), foldl_upd]
  rfl

theorem endJogOf_mode (step : EndStep) (z : Int) (j : Jog) : (endJogOf step z j).mode = j.mode := by
  unfold endJogOf
  split
  · rfl
  · split
    · rfl
    · split <;> rfl
  · rfl

/-! ## Presses -/

/-- A frame that shows none of HOLD, START and FLOOD pressed delivers none. -/
theorem pressStep_quiet {o f : StatusFrame} (hh : f.hold = false) (hs : f.start = false) (hf : f.flood = false) (s : State) :
    pressStep (some o) f s = (match f.sel with
      | none => jogReleases f s
      | some a =>
        if f.jogP && f.jogM then jogReleases f s
        else if pressed (some o) f (·.jogP) then jogPress a .plus (jogReleases f s)
        else if pressed (some o) f (·.jogM) then jogPress a .minus (jogReleases f s)
        else jogReleases f s) := by
  unfold pressStep deliverPress
  simp only [pressed, hh, hs, hf, Bool.false_and, Bool.false_eq_true, if_false]
  rfl

/-! ## Takes (R168) and the closing rules behind them -/

/-- The clamps where the idle clamp of an axis does not run (R93). -/
def unidled (a : Axis) (v : PerClamp Clamp) : PerClamp Clamp :=
  v.map fun c k => if clampAxis c = a then { k with idle := 0 } else k

theorem unidled_st (a : Axis) (v : PerClamp Clamp) (c : ClampAxis) : ((unidled a v).get c).st = (v.get c).st := by
  unfold unidled
  rw [PerClamp.get_map]
  split <;> rfl

/-- PENDANT owns an axis. -/
def ownPendant (k : AxisCh) : AxisCh := { k with owner := .pendant }

/-- Where no record but a COOLANT one can go on, a record rests as it did. -/
theorem recordRests_standing {s t : State} (hst : s.sq.st = .idle ∨ s.sq.st = .held) (hsq : t.sq = s.sq) (hcu : t.cu = s.cu)
    (h : recordRests s = true) : recordRests t = true := by
  have hruns : ∀ u : State, u.sq = s.sq → nonMoveRuns u = false := fun u hu => by
    unfold nonMoveRuns
    rw [hu]
    rcases hst with e | e <;> rw [e] <;> rfl
  have hcur : currentRec t = currentRec s := by unfold currentRec; rw [hsq]
  have hmet : ∀ f g, coolantMet t f g = coolantMet s f g := fun f g => by unfold coolantMet; rw [hcu]
  unfold recordRests at h ⊢
  rw [hcur, hruns t hsq, hsq]
  rw [hruns s rfl] at h
  simp only [hmet]
  revert h
  simp only [Bool.false_and, Bool.not_false, Bool.true_or, Bool.false_or, imp_self]

/-- A pendant's axis and its clamp, where a jog is permitted on the axis selected: no closing rule has anything to do. -/
theorem Resting.taken {s : State} (h : Resting s) (hm : s.cn.machine = .ready) (hst : s.sq.st = .idle ∨ s.sq.st = .held)
    {a : Axis} (hothers : ∀ i, i ≠ a → (s.ax.get i).owner ≠ .pendant) (q : PathInt) {p : Pendant}
    (hsel : (p.last.bind fun f => f.sel) = some a) (hperm : jogPermitted { s with pp := p } = true) :
    Resting { s with pi := q, pp := p, ax := s.ax.upd a ownPendant, cc := unidled a s.cc } := by
  have hrel : ∀ i, released { s with pi := q, pp := p, ax := s.ax.upd a ownPendant, cc := unidled a s.cc } i =
      released s i := fun i => by
    unfold released clampState
    cases i
    case x => exact congrArg (· == ClampState.released) (unidled_st a s.cc .x)
    case y => exact congrArg (· == ClampState.released) (unidled_st a s.cc .y)
    case z => exact congrArg (· == ClampState.released) (unidled_st a s.cc .z)
    case w => rfl
    case b => exact congrArg (· == ClampState.released) (unidled_st a s.cc .b)
  refine { h with clamp := fun c => ?clamp, home := fun i => ?home, giveBack := fun i => ?giveBack, record := ?record,
                  queue := ?queue, pump := ?pump, machine := fun e => ?machine }
  case clamp =>
    obtain ⟨h1, h2, h3, h4, h5⟩ := h.clamp c
    by_cases hc : clampAxis c = a
    · have hruns : idleRuns { s with pi := q, pp := p, ax := s.ax.upd a ownPendant, cc := unidled a s.cc } c = false := by
        unfold idleRuns
        dsimp only
        rw [PerAxis.get_upd, if_pos hc.symm]
        simp [ownPendant]
      have hget : (unidled a s.cc).get c = { s.cc.get c with idle := 0 } := by
        unfold unidled; rw [PerClamp.get_map, if_pos hc]
      unfold releaseMet at h1
      unfold clampMet at h2
      unfold ClampRests
      rw [hruns]
      unfold releaseMet clampMet
      dsimp only
      rw [hget]
      exact ⟨h1, h2, h3, fun e => (nomatch e.1), fun _ => rfl⟩
    · have hget : (unidled a s.cc).get c = s.cc.get c := by unfold unidled; rw [PerClamp.get_map, if_neg hc]
      have hax : (s.ax.upd a ownPendant).get (clampAxis c) = s.ax.get (clampAxis c) := by
        rw [PerAxis.get_upd, if_neg fun e => hc e.symm]
      unfold releaseMet at h1
      unfold clampMet at h2
      unfold idleRuns at h4 h5
      unfold ClampRests releaseMet clampMet idleRuns
      dsimp only
      rw [hget, hax]
      exact ⟨h1, h2, h3, h4, h5⟩
  case home =>
    obtain ⟨o, ho⟩ : ∃ o, (s.ax.upd a ownPendant).get i = { s.ax.get i with owner := o } := by
      rw [PerAxis.get_upd]
      split
      · exact ⟨.pendant, rfl⟩
      · exact ⟨(s.ax.get i).owner, rfl⟩
    have := h.home i
    unfold homeRests at this ⊢
    rw [hrel]
    dsimp only
    rw [ho]
    exact this
  case giveBack =>
    rintro ⟨e1, -, -, e4⟩
    have e1 : ((s.ax.upd a ownPendant).get i).owner = .pendant := e1
    rw [PerAxis.get_upd] at e1
    split at e1
    next e =>
      subst e
      rcases e4 with e4 | e4
      · exact e4 hsel
      · have e4 : jogPermitted { s with pp := p } = false := e4
        rw [hperm] at e4
        cases e4
    next e => exact hothers i (fun he => e he.symm) e1
  case record => exact recordRests_standing hst rfl rfl h.record
  case queue =>
    unfold queueRests
    dsimp only
    rcases hst with e | e <;> rw [e]
  case pump =>
    have := h.pump
    unfold pumpRests pumpDemand at this ⊢
    simp only [unidled_st]
    exact this
  case machine =>
    have : s.cn.machine = .stopping := e.1
    rw [hm] at this
    cases this

theorem finish_of_calm_rule {s t : State} (h : rules s = some t) (ht : Calm t) : finish s = transmit (pendantSend t) := by
  have hstop : settle 511 t = t := by
    show settle (510 + 1) t = t
    unfold settle; rw [show rules t = none from ht]
  have hsettle : settle 512 s = t := by
    show settle (511 + 1) s = t
    unfold settle; rw [h]; exact hstop
  unfold finish quiesce
  rw [hsettle]
  unfold tscGuard
  cases hf : tscFlows t
  · rfl
  · rw [ht.permit hf]; rfl

/-- The idle time of an axis that is not free any more, where every other rule rests. -/
theorem rules_unidle {s : State} {a : Axis} (h : Resting { s with cc := unidled a s.cc }) (ho : (s.ax.get a).owner ≠ .none)
    {c : ClampAxis} (hc : clampAxis c = a) (hidle : (s.cc.get c).idle ≠ 0) :
    rules s = some (updClamp c (fun k => { k with idle := 0 }) s) := by
  have hruns : idleRuns s c = false := by
    unfold idleRuns
    rw [hc]
    simp [ho]
  have hfound : clampRule s c = some (updClamp c (fun k => { k with idle := 0 }) s) := by
    obtain ⟨h1, h2, h3, -, -⟩ := h.clamp c
    have hget : (unidled a s.cc).get c = { s.cc.get c with idle := 0 } := by
      unfold unidled; rw [PerClamp.get_map, if_pos hc]
    unfold releaseMet at h1
    unfold clampMet at h2
    dsimp only at h1 h2 h3
    rw [hget] at h1 h2 h3
    have h1' : releaseMet s c = false := h1
    have h2' : clampMet s c = false := h2
    unfold clampRule
    rw [h1', h2', hruns]
    dsimp only
    rw [if_neg (by decide), if_neg (by decide), if_neg h3, if_neg (fun e => (nomatch e.1)), if_pos ⟨rfl, hidle⟩]
  have hother : ∀ d, d ≠ c → clampRule s d = none := fun d hd => by
    refine (clampRule_none s d).2 ?_
    have hne : clampAxis d ≠ a := fun e => hd (clampAxis_inj (e.trans hc.symm))
    have hget : (unidled a s.cc).get d = s.cc.get d := by unfold unidled; rw [PerClamp.get_map, if_neg hne]
    have := h.clamp d
    unfold ClampRests releaseMet clampMet idleRuns at this ⊢
    dsimp only at this
    rw [hget] at this
    exact this
  unfold rules
  rw [(engagedRule_none s).2 h.engaged, (levelRule_none _ (gearLostCause s) _ s).2 h.lost,
    (levelRule_none _ (oilLowCause s) _ s).2 h.oil, (overloadRule_none s).2 h.overload, (grantRule_none s).2 h.grant]
  cases c
  case x => rw [hfound]; rfl
  case y => rw [hother .x (by decide), hfound]; rfl
  case z => rw [hother .x (by decide), hother .y (by decide), hfound]; rfl
  case b => rw [hother .x (by decide), hother .y (by decide), hother .z (by decide), hfound]; rfl

/-- The end of an event that has taken an axis: its idle time is 0. -/
theorem finish_unidled {s : State} {a : Axis} (h : Resting { s with cc := unidled a s.cc })
    (ho : (s.ax.get a).owner ≠ .none) : finish s = transmit (pendantSend { s with cc := unidled a s.cc }) := by
  by_cases hall : unidled a s.cc = s.cc
  · rw [hall] at h ⊢
    exact finish_calm ((calm_iff _).2 h)
  · obtain ⟨c, hc, hidle⟩ : ∃ c, clampAxis c = a ∧ (s.cc.get c).idle ≠ 0 := by
      by_contra hno
      refine hall (PerClamp.ext_get fun c => ?_)
      unfold unidled
      rw [PerClamp.get_map]
      split
      next hc =>
        have hz : (s.cc.get c).idle = 0 := by
          by_contra hz
          exact hno ⟨c, hc, hz⟩
        rw [← hz]
      next => rfl
    have hupd : s.cc.upd c (fun k => { k with idle := 0 }) = unidled a s.cc := PerClamp.ext_get fun d => by
      unfold unidled
      rw [PerClamp.get_upd, PerClamp.get_map]
      by_cases hd : c = d
      · subst hd; rw [if_pos rfl, if_pos hc]
      · rw [if_neg hd, if_neg fun e => hd (clampAxis_inj (hc.trans e.symm))]
    have ht : updClamp c (fun k => { k with idle := 0 }) s = { s with cc := unidled a s.cc } := by
      unfold updClamp; rw [hupd]
    exact finish_of_calm_rule ((rules_unidle h ho hc hidle).trans (congrArg some ht)) ((calm_iff _).2 h)

end Sys2Proof.Machine
end

section
/-! CLAIMS. The handwheel of a frame (R168, R173 to R175), and the axes in the pendant's path periods. -/

namespace Sys2Proof.Machine

/-- What the two transmitters change (R161, R213). -/
theorem sent_eq (s : State) : ∃ (tx : Option (List Byte)) (lines : Vector DispLine 4) (due : Bool) (l : HostLink),
    transmit (pendantSend s) = { s with pp := { s.pp with tx := tx, lines := lines, answerDue := due }, hlp := l } := by
  have hsend : ∃ (tx : Option (List Byte)) (lines : Vector DispLine 4) (due : Bool),
      pendantSend s = { s with pp := { s.pp with tx := tx, lines := lines, answerDue := due } } := by
    unfold pendantSend
    split
    · split <;> exact ⟨_, _, _, rfl⟩
    · exact ⟨s.pp.tx, s.pp.lines, s.pp.answerDue, rfl⟩
  obtain ⟨tx, lines, due, h⟩ := hsend
  exact ⟨tx, lines, due, _, by rw [h]; exact transmit_eq _⟩

/-! ## The handwheel's work (R174, R175) -/

/-- A wheel target within the soft limits of a REFERENCED axis (R175, entry 52). -/
def wheelLimited (k : AxisCh) (w : Int) : Int := if k.refd then clampInt k.p.softMin k.p.softMax w else w

/-- The jog of an axis that the handwheel moves (R175). -/
def wheelBegun (k : AxisCh) (j : Jog) : Jog := if j.mode = .none then { j with mode := .wheel, wheel := k.setpoint } else j

/-- A jog of the handwheel after its counts, in pu and with their sign (R175). -/
def wheelJog (z : Int) (k : AxisCh) (j : Jog) : Jog :=
  { wheelBegun k j with wheel := wheelLimited k ((wheelBegun k j).wheel + z) }

theorem moveWheel_eq (a : Axis) (z : Int) (s : State) :
    moveWheel a z s = updJog a (fun j => { j with wheel := wheelLimited (s.ax.get a) (j.wheel + z) }) s :=
  updJog_congr rfl

/-- The counts that the interval's limit accepts (R174). -/
def accepted (p : Pendant) (d : Int) : Nat := min d.natAbs (p.intLimit - p.intCount)

/-- The distance that the accepted counts of a delta stand for (R175). -/
def wheelWay (p : Pendant) (m : Mult) (d : Int) : Int := (if d < 0 then -1 else 1) * (accepted p d : Int) * m.num

/-- PP after the handwheel's work, but for the clipping. -/
def wheelPp (a : Axis) (m : Mult) (d : Int) (k : AxisCh) (p : Pendant) : Pendant :=
  { p with intCount := p.intCount + accepted p d, jogs := p.jogs.upd a (wheelJog (wheelWay p m d) k) }

/-- Counts are offered: those that the interval does not accept raise HANDWHEEL_CLIPPED once an interval (R174). -/
theorem offered_eq (a : Axis) (m : Mult) (d : Int) (s : State) :
    offerCounts a m d (wheelMode a s) =
      if 0 < d.natAbs - accepted s.pp d ∧ s.pp.clipped = false then
        latch .handwheelClipped 0 ((d.natAbs - accepted s.pp d : Nat) : Int)
          { s with pp := { wheelPp a m d (s.ax.get a) s.pp with clipped := true, clipT := .start 200 } }
      else { s with pp := wheelPp a m d (s.ax.get a) s.pp } := by
  have hmove : moveWheel a (wheelWay s.pp m d)
      { wheelMode a s with pp.intCount := s.pp.intCount + accepted s.pp d } =
        { s with pp := wheelPp a m d (s.ax.get a) s.pp } := by
    refine (moveWheel_eq _ _ _).trans ?_
    exact congrArg (fun v => { s with pp := { s.pp with intCount := s.pp.intCount + accepted s.pp d, jogs := v } })
      (PerAxis.upd_upd s.pp.jogs a (wheelBegun (s.ax.get a))
        (fun j => { j with wheel := wheelLimited (s.ax.get a) (j.wheel + wheelWay s.pp m d) }))
  unfold offerCounts
  dsimp only
  change (if 0 < d.natAbs - accepted s.pp d ∧ s.pp.clipped = false then
    latch .handwheelClipped 0 ((d.natAbs - accepted s.pp d : Nat) : Int)
      ((fun u : State => { u with pp.clipped := true, pp.clipT := .start 200 })
        (moveWheel a (wheelWay s.pp m d) { wheelMode a s with pp.intCount := s.pp.intCount + accepted s.pp d }))
    else moveWheel a (wheelWay s.pp m d) { wheelMode a s with pp.intCount := s.pp.intCount + accepted s.pp d }) = _
  rw [hmove]

/-- A delta on an axis that is free or the pendant's, where a jog is permitted (R168). -/
theorem wheelMove_taken {s : State} {a : Axis} (hmode : (s.pp.jogs.get a).mode ≠ .button) (hperm : jogPermitted s = true)
    (hown : (s.ax.get a).owner = .none ∨ (s.ax.get a).owner = .pendant) (hrel : released s a = true) (m : Mult) (d : Int) :
    wheelMove a m d s = offerCounts a m d (wheelMode a (updAx a ownPendant s)) := by
  have hneed : ∀ u, released u a = true → jogNeed a u = u := fun u hu => if_pos hu
  unfold wheelMove
  rw [if_neg hmode]
  unfold takeOutcome
  rw [if_pos hperm]
  rcases hown with ho | ho
  · have htake : takeAxis a s = updAx a ownPendant s := by
      unfold takeAxis
      rw [if_neg (by rw [ho]; decide)]
      rfl
    rw [ho]
    dsimp only
    rw [htake, hneed _ (by exact hrel)]
    exact if_pos hrel
  · have hsame : updAx a ownPendant s = s := updAx_self (by unfold ownPendant; rw [← ho])
    rw [ho, hsame]
    dsimp only
    rw [hneed _ (by exact hrel)]
    exact if_pos hrel

/-! ## The end of a frame's event -/

theorem queueReport_clamps (k : Report) (s : State) (x : PerClamp Clamp) :
    queueReport k { s with cc := x } = { queueReport k s with cc := x } := by
  unfold queueReport; dsimp only; split <;> rfl

theorem latch_clamps (c : Cond) (n : Nat) (v : Int) (s : State) (x : PerClamp Clamp) :
    { latch c n v s with cc := x } = latch c n v { s with cc := x } :=
  (queueReport_clamps (.raised c n (fit32 v)) (updCond c (fun e => { e with
    latched := true, last := some ⟨s.hlp.ms, n, fit32 v⟩ }) s) x).symm

/-- The end of an event that has given the pendant the axis that it selects. -/
theorem finish_taken {s : State} (h : Resting s) (hm : s.cn.machine = .ready) (hst : s.sq.st = .idle ∨ s.sq.st = .held)
    {a : Axis} (hothers : ∀ i, i ≠ a → (s.ax.get i).owner ≠ .pendant) (q : PathInt) {p : Pendant}
    (hsel : (p.last.bind fun f => f.sel) = some a) (hperm : jogPermitted { s with pp := p } = true) :
    finish { s with pi := q, pp := p, ax := s.ax.upd a ownPendant } =
      transmit (pendantSend { s with pi := q, pp := p, ax := s.ax.upd a ownPendant, cc := unidled a s.cc }) :=
  finish_unidled (s := { s with pi := q, pp := p, ax := s.ax.upd a ownPendant })
    (h.taken hm hst hothers q hsel hperm) (by rw [PerAxis.get_upd, if_pos rfl]; exact fun e => (nomatch e))

/-- The same with an entry latched in the event. -/
theorem finish_taken_latch {s : State} (h : Resting s) (hm : s.cn.machine = .ready) (hst : s.sq.st = .idle ∨ s.sq.st = .held)
    {a : Axis} (hothers : ∀ i, i ≠ a → (s.ax.get i).owner ≠ .pendant) (q : PathInt) {p : Pendant}
    (hsel : (p.last.bind fun f => f.sel) = some a) (hperm : jogPermitted { s with pp := p } = true) (c : Cond) (n : Nat)
    (v : Int) :
    finish (latch c n v { s with pi := q, pp := p, ax := s.ax.upd a ownPendant }) =
      transmit (pendantSend (latch c n v { s with pi := q, pp := p, ax := s.ax.upd a ownPendant, cc := unidled a s.cc })) := by
  have hrest := (h.taken hm hst hothers q hsel hperm).latch c n v
  have hcc := latch_clamps c n v { s with pi := q, pp := p, ax := s.ax.upd a ownPendant } (unidled a s.cc)
  have hsame : (latch c n v { s with pi := q, pp := p, ax := s.ax.upd a ownPendant }).cc = s.cc := by rw [latch_cc]
  have hax : (latch c n v { s with pi := q, pp := p, ax := s.ax.upd a ownPendant }).ax = s.ax.upd a ownPendant := by
    rw [latch_ax]
  rw [finish_unidled (a := a) (by rw [hsame, hcc]; exact hrest) (by
    rw [hax, PerAxis.get_upd, if_pos rfl]; exact fun e => (nomatch e)), hsame, hcc]

/-- Permission to jog, from what it looks at (R166). -/
theorem jogPermitted_of {s : State} {f : StatusFrame} (hp : s.pp.st = .present) (ha : s.pp.armed = true)
    (hc : enableContact s = true) (hm : s.cn.machine = .ready) (hst : s.sq.st = .idle ∨ s.sq.st = .held)
    (hl : s.pp.last = some f) (hen : f.enable = .middle) : jogPermitted s = true := by
  unfold jogPermitted
  rw [hp, ha, hc, hm, hl]
  rcases hst with e | e <;> simp [e, hen]

/-- A frame without a button pressed ends no motion of the handwheel. -/
theorem jogsLet_keeps {f : StatusFrame} (hp : f.jogP = false) {s : State} {a : Axis}
    (hm : (s.pp.jogs.get a).mode ≠ .button) : (jogsLet f s).get a = s.pp.jogs.get a := by
  unfold jogsLet
  rw [PerAxis.get_map]
  cases hmode : (s.pp.jogs.get a).mode with
  | button => exact absurd hmode hm
  | none =>
    have : endJogOf .jog (s.ax.get a).setpoint (s.pp.jogs.get a) = s.pp.jogs.get a := by unfold endJogOf; rw [hmode]
    rw [this, ite_self]
  | wheel =>
    refine if_neg ?_
    unfold buttonsEnd
    rw [hmode, hp]
    exact Bool.false_ne_true

/-- What a frame's delta leaves: PP after the handwheel's work, with the clipping where counts were dropped. -/
theorem wheelPp_jog {a : Axis} {m : Mult} {d : Int} {k : AxisCh} {p : Pendant} (hm : (p.jogs.get a).mode ≠ .button) :
    (((wheelPp a m d k p).jogs.get a).mode = .wheel) ∧
    ((wheelPp a m d k p).jogs.get a).wheel =
      wheelLimited k ((if (p.jogs.get a).mode = .wheel then (p.jogs.get a).wheel else k.setpoint) + wheelWay p m d) := by
  have hget : (wheelPp a m d k p).jogs.get a = wheelJog (wheelWay p m d) k (p.jogs.get a) := by
    unfold wheelPp; rw [PerAxis.get_upd, if_pos rfl]
  rw [hget]
  unfold wheelJog wheelBegun
  cases hmode : (p.jogs.get a).mode with
  | button => exact absurd hmode hm
  | none => exact ⟨rfl, rfl⟩
  | wheel => exact ⟨by simp [hmode], rfl⟩

theorem pressed_of_not {prev : Option StatusFrame} {f : StatusFrame} {b : StatusFrame → Bool} (h : b f = false) :
    pressed prev f b = false := by
  unfold pressed
  rw [h]
  cases prev <;> rfl

/-- A new frame with a delta on an axis that the pendant may take, up to the end of its event. -/
theorem pendantFrame_wheel {s : State} {o f : StatusFrame} {l : List Byte} {a : Axis} (hf : NewFrame s o f l)
    (hsel : f.sel = some a) (hosel : o.sel = f.sel) (hmult : o.mult = f.mult) (hp : f.jogP = false) (hn : f.jogM = false)
    (hh : f.hold = false) (hs : f.start = false) (hfl : f.flood = false) (hen : f.enable = .middle) (hready : JogReady s)
    (hrel : released s a = true) (hown : (s.ax.get a).owner = .none ∨ (s.ax.get a).owner = .pendant)
    (hmode : (s.pp.jogs.get a).mode ≠ .button) (hd : wheelDelta o.counter f.counter ≠ 0) {u : State}
    (hu : { fall .pendantEnableMismatch s with pi := framedPi f s.pi, pp := framedPp f s.pp } = u) :
    pendantRead l s = offerCounts a f.mult (wheelDelta o.counter f.counter) (wheelMode a
      { u with pp.jogs := jogsLet f u, ax := s.ax.upd a ownPendant }) := by
  obtain ⟨harmed, hc, hm, hst⟩ := hready
  rw [pendantRead_framed hf hosel.symm hmult.symm hen hc, hu, pressStep_quiet hh hs hfl, hsel]
  dsimp only
  rw [if_neg (by rw [hp]; exact Bool.false_ne_true), pressed_of_not (b := (·.jogP)) hp, pressed_of_not (b := (·.jogM)) hn,
    if_neg Bool.false_ne_true, if_neg Bool.false_ne_true, jogReleases_eq]
  unfold wheelStep
  rw [hsel]
  dsimp only
  rw [if_neg hd]
  have hax : u.ax = s.ax := by rw [← hu]; exact fall_ax ..
  have hcc : u.cc = s.cc := by rw [← hu]; exact fall_cc ..
  have hinp : u.inp = s.inp := by rw [← hu]; exact fall_inp ..
  have hsq : u.sq = s.sq := by rw [← hu]; exact fall_sq ..
  have hmach : u.cn.machine = s.cn.machine := by rw [← hu]; exact fall_machine ..
  have hjog : (jogsLet f u).get a = s.pp.jogs.get a := by
    have hpp : u.pp.jogs = s.pp.jogs := by rw [← hu]; rfl
    rw [jogsLet_keeps hp (by rw [hpp]; exact hmode), hpp]
  rw [wheelMove_taken (s := { u with pp.jogs := jogsLet f u }) (by show ((jogsLet f u).get a).mode ≠ _; rw [hjog]; exact hmode)
    (jogPermitted_of (f := f) (by rw [← hu]; exact hf.1) (by rw [← hu]; exact harmed)
      (by unfold enableContact inputOn at hc ⊢; rw [hinp]; exact hc) (hmach.trans hm) (by rw [hsq]; exact hst)
      (by rw [← hu]; rfl) hen) (by rw [hax]; exact hown)
    (by
      have : clampState { u with pp.jogs := jogsLet f u } a = clampState s a := by unfold clampState; rw [hcc]
      unfold released; rw [this]; exact hrel)]
  unfold updAx
  rw [hax]

/-- What a frame's delta on a taken axis has changed at the end of its event (R168, R174, R175). -/
structure WheelTaken (s t : State) (a : Axis) (m : Mult) (d : Int) : Prop where
  owner : (t.ax.get a).owner = .pendant
  setpoint : (t.ax.get a).setpoint = (s.ax.get a).setpoint
  mode : (t.pp.jogs.get a).mode = .wheel
  wheel : (t.pp.jogs.get a).wheel = wheelLimited (s.ax.get a)
    ((if (s.pp.jogs.get a).mode = .wheel then (s.pp.jogs.get a).wheel else (s.ax.get a).setpoint) + wheelWay s.pp m d)
  count : t.pp.intCount = s.pp.intCount + accepted s.pp d
  clips : accepted s.pp d < d.natAbs → s.pp.clipped = false → t.pp.clipped = true ∧ t.pp.clipT = .start 200 ∧
    (condEntry t .handwheelClipped).latched = true ∧
    (condEntry t .handwheelClipped).last = some ⟨s.hlp.ms, 0, (d.natAbs - accepted s.pp d : Nat)⟩
  keeps : accepted s.pp d = d.natAbs ∨ s.pp.clipped = true → t.pp.clipped = s.pp.clipped ∧ t.pp.clipT = s.pp.clipT ∧
    condEntry t .handwheelClipped = condEntry s .handwheelClipped

/-- The end of the event of a frame's delta. -/
theorem finish_offered {s z : State} (h : Resting z) (hm : z.cn.machine = .ready)
    (hst : z.sq.st = .idle ∨ z.sq.st = .held) {a : Axis} (hothers : ∀ i, i ≠ a → (z.ax.get i).owner ≠ .pendant)
    (hax : z.ax = s.ax) (hcond : condEntry z .handwheelClipped = condEntry s .handwheelClipped) (hms : z.hlp.ms = s.hlp.ms)
    (q : PathInt) {p : Pendant} (hsel : (p.last.bind fun f => f.sel) = some a)
    (hperm : jogPermitted { z with pp := p } = true) (hjog : p.jogs.get a = s.pp.jogs.get a)
    (hmode : (s.pp.jogs.get a).mode ≠ .button) (hlimit : p.intLimit = s.pp.intLimit) (hcount : p.intCount = s.pp.intCount)
    (hclip : p.clipped = s.pp.clipped) (hclipT : p.clipT = s.pp.clipT) (m : Mult) {d : Int} (hd : d.natAbs ≤ 128) :
    WheelTaken s (finish (offerCounts a m d (wheelMode a { z with pi := q, pp := p, ax := z.ax.upd a ownPendant }))) a m d := by
  have hch : (z.ax.upd a ownPendant).get a = ownPendant (s.ax.get a) := by rw [PerAxis.get_upd, if_pos rfl, hax]
  have hacc : accepted p d = accepted s.pp d := by unfold accepted; rw [hlimit, hcount]
  have hway : wheelWay p m d = wheelWay s.pp m d := by unfold wheelWay; rw [hacc]
  obtain ⟨hwmode, hwheel⟩ := wheelPp_jog (a := a) (m := m) (d := d) (k := ownPendant (s.ax.get a)) (p := p)
    (by rw [hjog]; exact hmode)
  rw [hjog, hway] at hwheel
  rw [offered_eq]
  dsimp only
  rw [hch, hacc]
  by_cases hdrop : 0 < d.natAbs - accepted s.pp d ∧ p.clipped = false
  · rw [if_pos hdrop, finish_taken_latch h hm hst hothers q (p := { wheelPp a m d (ownPendant (s.ax.get a)) p with
      clipped := true, clipT := .start 200 }) hsel hperm]
    obtain ⟨tx, lines, due, l, ht⟩ := sent_eq (latch .handwheelClipped 0 ((d.natAbs - accepted s.pp d : Nat) : Int)
      { z with pi := q, ax := z.ax.upd a ownPendant, cc := unidled a z.cc
               pp := { wheelPp a m d (ownPendant (s.ax.get a)) p with clipped := true, clipT := .start 200 } })
    have hentry : condEntry (latch .handwheelClipped 0 ((d.natAbs - accepted s.pp d : Nat) : Int)
        { z with pi := q, ax := z.ax.upd a ownPendant, cc := unidled a z.cc
                 pp := { wheelPp a m d (ownPendant (s.ax.get a)) p with clipped := true, clipT := .start 200 } })
        .handwheelClipped = { condEntry z .handwheelClipped with
          latched := true, last := some ⟨z.hlp.ms, 0, fit32 ((d.natAbs - accepted s.pp d : Nat) : Int)⟩ } := by
      rw [condEntry_latch, if_pos rfl]
      rfl
    rw [ht]
    refine ⟨?_, ?_, ?_, ?_, ?_, fun _ _ => ⟨?_, ?_, ?_, ?_⟩, fun hk => absurd hk ?_⟩
    · show ((latch _ _ _ _).ax.get a).owner = _
      rw [latch_ax, hch]; rfl
    · show ((latch _ _ _ _).ax.get a).setpoint = _
      rw [latch_ax, hch]; rfl
    · show ((latch _ _ _ _).pp.jogs.get a).mode = _
      rw [latch_pp]; exact hwmode
    · show ((latch _ _ _ _).pp.jogs.get a).wheel = _
      rw [latch_pp]; exact hwheel
    · show (latch _ _ _ _).pp.intCount = _
      rw [latch_pp]
      show p.intCount + accepted p d = _
      rw [hcount, hacc]
    · show (latch _ _ _ _).pp.clipped = _
      rw [latch_pp]
    · show (latch _ _ _ _).pp.clipT = _
      rw [latch_pp]
    · exact congrArg CondEntry.latched hentry
    · refine (congrArg CondEntry.last hentry).trans ?_
      show some (⟨z.hlp.ms, 0, fit32 _⟩ : RaiseInfo) = _
      rw [hms, fit32_of_mem (by omega) (by omega)]
    · rw [← hclip, hdrop.2]
      rintro (e | e)
      · omega
      · cases e
  · rw [if_neg hdrop, finish_taken h hm hst hothers q (p := wheelPp a m d (ownPendant (s.ax.get a)) p) hsel hperm]
    obtain ⟨tx, lines, due, l, ht⟩ := sent_eq { z with pi := q, ax := z.ax.upd a ownPendant, cc := unidled a z.cc
                                                       pp := wheelPp a m d (ownPendant (s.ax.get a)) p }
    rw [ht]
    refine ⟨?_, ?_, hwmode, hwheel, ?_, fun h1 h2 => absurd ⟨by omega, hclip.trans h2⟩ hdrop, fun _ => ⟨hclip, hclipT, hcond⟩⟩
    · show ((z.ax.upd a ownPendant).get a).owner = _
      rw [hch]; rfl
    · show ((z.ax.upd a ownPendant).get a).setpoint = _
      rw [hch]; rfl
    · show p.intCount + accepted p d = _
      rw [hcount, hacc]

/-- Settles O54. -/
theorem wheelDeltaIsTheShorterWay : Obligations.WheelDeltaIsTheShorterWay := by
  refine ⟨fun old new _ hnew => ⟨⟨(wheelDelta_range old new).1, (wheelDelta_range old new).2, wheelDelta_leads old hnew⟩,
    fun d hl hu hd => wheelDelta_unique hnew hl hu hd⟩, ?_, ?_⟩
  · intro s o f l a h hf hsel hosel hmult hp hn hh hs hfl hen hready hrel hown hmode hothers k j d acc start z hd
    obtain ⟨u, hu⟩ : ∃ u, { fall .pendantEnableMismatch s with pi := framedPi f s.pi, pp := framedPp f s.pp } = u := ⟨_, rfl⟩
    have hread := pendantFrame_wheel hf hsel hosel hmult hp hn hh hs hfl hen hready hrel hown hmode hd hu
    obtain ⟨harmed, hc, hm, hst⟩ := hready
    have hjogs : (jogsLet f u).get a = s.pp.jogs.get a := by
      have hpp : u.pp.jogs = s.pp.jogs := by rw [← hu]; rfl
      rw [jogsLet_keeps hp (by rw [hpp]; exact hmode), hpp]
    have hperm : jogPermitted { fall .pendantEnableMismatch s with pp := { framedPp f s.pp with jogs := jogsLet f u } } =
        true :=
      jogPermitted_of (f := f) hf.1 harmed (by
        unfold enableContact inputOn at hc ⊢
        dsimp only
        rw [fall_inp]
        exact hc) ((fall_machine ..).trans hm) (by dsimp only; rw [fall_sq]; exact hst) rfl hen
    have hw := finish_offered (h.resting.fall (c := .pendantEnableMismatch) ⟨by decide, by decide⟩)
      ((fall_machine ..).trans hm) (by rw [fall_sq]; exact hst) (by rw [fall_ax]; exact hothers) (fall_ax ..)
      (by rw [condEntry_fall, if_neg (by decide)]) (by rw [fall_hlp]) (framedPi f s.pi)
      (p := { framedPp f s.pp with jogs := jogsLet f u }) hsel hperm hjogs hmode rfl rfl rfl rfl f.mult (d := d)
      (by have := wheelDelta_range o.counter f.counter; omega)
    have hsame : { u with pp.jogs := jogsLet f u, ax := s.ax.upd a ownPendant } =
        { fall .pendantEnableMismatch s with
          pi := framedPi f s.pi, pp := { framedPp f s.pp with jogs := jogsLet f u }
          ax := (fall .pendantEnableMismatch s).ax.upd a ownPendant } := by
      rw [fall_ax, ← hu]
    rw [← hsame, ← hread] at hw
    obtain ⟨howner, hset, hwmode, hwheel, hcount, hclips, hkeeps⟩ := hw
    refine ⟨_, rfl, howner, hset, hwmode, hwheel.trans ?_, hcount, hclips, hkeeps⟩
    show wheelLimited k (start + wheelWay s.pp f.mult d) = if k.refd then clampInt k.p.softMin k.p.softMax z else z
    have hz : start + wheelWay s.pp f.mult d = z := by
      show start + (if d < 0 then -1 else 1) * (acc : Int) * (f.mult.num : Nat) = start + _
      cases f.mult <;> rfl
    rw [hz]
    rfl
  · intro s a ho hst hrel k j u
    refine ⟨rfl, fun hm => ⟨fun hmode => wheel_period (u := u) rfl ho hst hrel hm hmode, ?_⟩⟩
    intro hmode f hl n i goes
    refine ⟨fun href => period_advances (u := u) rfl ho hst hrel hm hmode hl (.inl href),
      fun href hvel hdir => period_advances (u := u) rfl ho hst hrel hm hmode hl (.inr ?_), ?_⟩
    · unfold limitAhead
      rw [show (s.pp.jogs.get a).vel = 0 from hvel, show (s.pp.jogs.get a).dir = .none from hdir]
      rfl
    · intro plus href hdir limit sign far step braking low v
      obtain ⟨hbeyond, hbefore⟩ := period_limited (k := k) (j := j) (n := n) (i := i) (u := u) rfl ho hst hrel hm hmode hl rfl rfl href
        (limitAhead_of hdir) (limit := limit) rfl rfl rfl
      refine ⟨hbeyond, fun hb hbr => ?_, fun hb hf hk => (hbefore hb).2 hf hk⟩
      have hbrake : brakesFor (aheadDistance k j plus) (aStep k.p) j = true ↔ braking := decide_eq_true_iff
      refine limits_of_period (hbefore hb).1 rfl (hbr.imp_left hbrake.2) ?_
      exact if_congr (and_congr_left' hbrake.symm) rfl rfl

end Sys2Proof.Machine
end

section
/-! SUPPORT. What a whole frame leaves of the pendant's link, of its arming and timers, of the feed override, and of the
inputs, the banks and the analog channels (R160 to R165). -/

namespace Sys2Proof.Machine

/-- The link's state, the last frame, the arming and the timers of PP, the feed override, and the blocks apart. -/
def noticed (s : State) := (s.pp.st, s.pp.freshT, s.pp.last, s.pp.armed, s.pp.mismT, s.pi.feed, s.cs, s.inp, s.am)

/-- They are a part of what the closing rules keep. -/
def noticedOf (k : Steady) := (k.pp.1.1, k.pp.1.2.2.2.2.1, k.pp.1.2.1, k.pp.1.2.2.2.1, k.pp.1.2.2.2.2.2.1, k.pi.1, k.cs,
  k.inp, k.am)

theorem noticed_eq (s : State) : noticed s = noticedOf (steady s) := rfl

theorem noticed_of_steady {s t : State} (h : steady t = steady s) : noticed t = noticed s := by
  rw [noticed_eq, noticed_eq, h]

theorem noticed_finish (s : State) : noticed (finish s) = noticed s := by
  obtain ⟨tx, lines, due, l, h⟩ := sent_eq (quiesce s)
  unfold finish
  rw [h]
  have hq : noticed (quiesce s) = noticed s := noticed_of_steady (steady_quiesce s)
  exact hq

/-! ## The steps of a frame (R160) -/

theorem noticed_selectorStep (prev : Option StatusFrame) (f : StatusFrame) (s : State) :
    noticed (selectorStep prev f s) = noticed s := by
  have hstart : ∀ o : StatusFrame, noticed (if o.sel ≠ f.sel ∨ o.mult ≠ f.mult then startInterval s else s) = noticed s :=
    fun o => by split <;> rfl
  unfold selectorStep
  cases prev with
  | none => rfl
  | some o =>
    dsimp only
    split
    · exact hstart o
    · refine (noticed_of_steady (steady_foldl _ (fun u a => ?_) allAxes _)).trans (hstart o)
      split
      · rfl
      · exact steady_endJog ..

theorem noticed_deliverPress {act : State → State} (h : ∀ s, noticed (act s) = noticed s) (press : Bool) (s : State) :
    noticed (deliverPress press act s) = noticed s := by
  unfold deliverPress
  split
  · exact (noticed_of_steady (steady_settle ..)).trans (h s)
  · rfl

theorem noticed_holdPress (s : State) : noticed (holdPress s) = noticed s :=
  noticed_of_steady ((steady_endAllJogs ..).trans (steady_sqHold s))

theorem noticed_floodPress (s : State) : noticed (floodPress s) = noticed s := by
  unfold floodPress
  split
  · rfl
  · exact noticed_of_steady (steady_coolantWrite ..)

theorem noticed_jogReleases (f : StatusFrame) (s : State) : noticed (jogReleases f s) = noticed s := by
  rw [jogReleases_eq]; rfl

theorem noticed_takeAxis (a : Axis) (s : State) : noticed (takeAxis a s) = noticed s := by
  unfold takeAxis; dsimp only; split <;> rfl

theorem noticed_jogNeed (a : Axis) (s : State) : noticed (jogNeed a s) = noticed s := by
  unfold jogNeed
  split
  · rfl
  · exact noticed_of_steady (steady_axisNeed ..)

theorem noticed_jogPress (a : Axis) (d : JogDir) (s : State) : noticed (jogPress a d s) = noticed s := by
  unfold jogPress
  split
  · exact (noticed_jogNeed a _).trans (noticed_takeAxis a s)
  · exact noticed_jogNeed a _
  · rfl

theorem noticed_pressStep (prev : Option StatusFrame) (f : StatusFrame) (s : State) :
    noticed (pressStep prev f s) = noticed s := by
  have hbefore : ∀ u : State, noticed (jogReleases f (deliverPress (pressed prev f (·.flood)) floodPress
      (deliverPress (pressed prev f (·.start) && u.pp.armed) pendantStart u))) = noticed u := fun u =>
    (noticed_jogReleases f _).trans ((noticed_deliverPress noticed_floodPress _ _).trans
      (noticed_deliverPress (fun v => noticed_of_steady (steady_pendantStart v)) _ u))
  have hall := fun u : State => (hbefore (deliverPress (pressed prev f (·.hold)) holdPress u)).trans
    (noticed_deliverPress noticed_holdPress _ u)
  unfold pressStep
  dsimp only
  split
  · exact hall s
  · split
    · exact hall s
    · split
      · exact (noticed_jogPress _ _ _).trans (hall s)
      · split
        · exact (noticed_jogPress _ _ _).trans (hall s)
        · exact hall s

theorem noticed_wheelMove (a : Axis) (m : Mult) (d : Int) (s : State) : noticed (wheelMove a m d s) = noticed s := by
  have hoffer : ∀ u : State, noticed (if released u a then offerCounts a m d u else u) = noticed u := fun u => by
    have hlatch : ∀ (c : Cond) (q : Nat) (v : Int) (w : State), noticed (latch c q v w) = noticed w :=
      fun c q v w => noticed_of_steady (steady_latch c q v w)
    split
    · unfold offerCounts
      dsimp only
      split
      · exact hlatch ..
      · rfl
    · rfl
  unfold wheelMove
  split
  · rfl
  · dsimp only
    cases takeOutcome s a with
    | ignored => rfl
    | taken => exact (hoffer _).trans ((noticed_jogNeed a _).trans (noticed_takeAxis a s))
    | held => exact (hoffer _).trans (noticed_jogNeed a _)

theorem noticed_wheelStep (prev : Option StatusFrame) (f : StatusFrame) (s : State) :
    noticed (wheelStep prev f s) = noticed s := by
  unfold wheelStep
  split
  · dsimp only
    split
    · rfl
    · exact noticed_wheelMove ..
  · rfl

/-! ## The enable and the knob (R160 steps 4 and 5) -/

/-- The arming that a frame leaves (R164). -/
def armedBy (f : StatusFrame) (contact armed : Bool) : Bool :=
  if f.enable = .panic then false else if f.enable = .released ∧ contact = false then true else armed

/-- The mismatch timer that a frame leaves (R165). -/
def mismatchBy (f : StatusFrame) (contact : Bool) (t : Timer) : Timer :=
  if (f.enable = .middle) ↔ (contact = true) then .stopped else if t.on then t else .start 50

theorem noticed_mismatchStep {s : State} {f : StatusFrame} (hst : s.pp.st = .present) (hl : s.pp.last = some f) :
    noticed (mismatchStep s) = noticed { s with pp.mismT := mismatchBy f (enableContact s) s.pp.mismT } := by
  have hagree : enablesAgree s f = true ↔ ((f.enable = .middle) ↔ (enableContact s = true)) := by
    unfold enablesAgree
    cases enableContact s <;> by_cases h : f.enable = .middle <;> simp [h]
  unfold mismatchStep mismatchBy
  rw [hst, hl]
  dsimp only
  by_cases h : enablesAgree s f = true
  · rw [if_pos h, if_pos (hagree.1 h)]
    exact noticed_of_steady (steady_fall ..)
  · rw [if_neg h, if_neg (fun e => h (hagree.2 e))]
    split <;> rfl

theorem armStep_eq {s : State} {f : StatusFrame} (hst : s.pp.st = .present) (hl : s.pp.last = some f) :
    armStep s = { s with pp.armed :=
      if f.enable = .released ∧ enableContact s = false then true else s.pp.armed } := by
  unfold armStep
  rw [hst, hl]
  dsimp only
  split <;> rfl

theorem noticed_enableStep {s : State} {f : StatusFrame} (hst : s.pp.st = .present) (hl : s.pp.last = some f) :
    noticed (enableStep f s) = noticed { s with
      pp.armed := armedBy f (enableContact s) s.pp.armed, pp.mismT := mismatchBy f (enableContact s) s.pp.mismT } := by
  have hstep : ∀ b : Bool, noticed (mismatchStep (armStep { s with pp.armed := b })) = noticed { s with
      pp.armed := if f.enable = .released ∧ enableContact s = false then true else b
      pp.mismT := mismatchBy f (enableContact s) s.pp.mismT } := fun b => by
    rw [armStep_eq (f := f) (by exact hst) (by exact hl), noticed_mismatchStep (f := f) (by exact hst) (by exact hl)]
    rfl
  have hend : ∀ (u : State), noticed (match f.enable with
      | .middle => u
      | .released => endAllJogs .jog u
      | .panic => endAllJogs .panic u) = noticed u := fun u => by
    cases f.enable <;> rfl
  unfold enableStep armedBy
  refine (hend _).trans ?_
  by_cases hp : f.enable = .panic
  · rw [if_pos hp, if_pos hp, hstep, if_neg (by rw [hp]; exact fun e => (nomatch e.1))]
  · rw [if_neg hp, if_neg hp]
    exact hstep s.pp.armed

/-- What a whole frame leaves of a PRESENT pendant (R160, R164, R165, R35). -/
theorem noticed_takeWhole (prev : Option StatusFrame) (f : StatusFrame) {s : State} (hst : s.pp.st = .present) :
    noticed (takeWhole prev f s) = (.present, s.pp.freshT, some f, armedBy f (enableContact s) s.pp.armed,
      mismatchBy f (enableContact s) s.pp.mismT, (framedPi f s.pi).feed, s.cs, s.inp, s.am) := by
  unfold takeWhole
  dsimp only
  rw [noticed_wheelStep, noticed_pressStep, noticed_selectorStep, knobStep_eq,
    noticed_enableStep (f := f) (by exact hst) rfl]
  show (s.pp.st, _) = _
  rw [hst]
  rfl

end Sys2Proof.Machine
end

section
/-! CLAIMS. The pendant's frames (8.2 to 8.6). -/

namespace Sys2Proof.Machine

/-! ## Bytes and frames (R159, R160) -/

/-- A frame is read: the freshness timer from 0, and an answer due (R160 steps 1 and 2). -/
def freshened (s : State) : State := { s with pp.freshT := .start 50, pp.answerDue := true }

theorem takeFrame_enters {f : StatusFrame} {s : State} (h : s.pp.st ≠ .present) :
    takeFrame f s = takeWhole none f (freshened (enterPresent s)) := by
  have hp : (s.pp.st != .present) = true := bne_iff_ne.2 h
  unfold takeFrame
  dsimp only
  rw [hp]
  rfl

theorem takeFrame_present {f : StatusFrame} {s : State} (h : s.pp.st = .present) :
    takeFrame f s = (match s.pp.last with
      | some o => if o.seq = f.seq then freshened s else takeWhole (some o) f (freshened s)
      | none => takeWhole none f (freshened s)) := by
  have hp : (s.pp.st != .present) = false := by rw [h]; rfl
  unfold takeFrame
  dsimp only
  rw [hp]
  cases s.pp.last <;> rfl

/-- The pendant's link and the last frame after a valid frame (R160, R162). -/
theorem takeFrame_link (f : StatusFrame) (s : State) :
    (takeFrame f s).pp.st = .present ∧ (takeFrame f s).pp.freshT = .start 50 ∧
    (s.pp.st = .present ∧ (s.pp.last.map fun o => o.seq) = some f.seq → (takeFrame f s).pp.last = s.pp.last) ∧
    (¬(s.pp.st = .present ∧ (s.pp.last.map fun o => o.seq) = some f.seq) → (takeFrame f s).pp.last = some f) ∧
    (takeFrame f s).cs = s.cs ∧ (takeFrame f s).inp = s.inp ∧ (takeFrame f s).am = s.am := by
  have hwhole : ∀ (prev : Option StatusFrame) (u : State), u.pp.st = .present → u.pp.freshT = .start 50 → u.cs = s.cs →
      u.inp = s.inp → u.am = s.am → (takeWhole prev f u).pp.st = .present ∧ (takeWhole prev f u).pp.freshT = .start 50 ∧
        (takeWhole prev f u).pp.last = some f ∧ (takeWhole prev f u).cs = s.cs ∧ (takeWhole prev f u).inp = s.inp ∧
        (takeWhole prev f u).am = s.am := fun prev u hst hfresh hcs hinp ham => by
    have h := noticed_takeWhole prev f hst
    simp only [noticed, Prod.mk.injEq] at h
    obtain ⟨h1, h2, h3, -, -, -, h7, h8, h9⟩ := h
    exact ⟨h1, h2.trans hfresh, h3, h7.trans hcs, h8.trans hinp, h9.trans ham⟩
  by_cases hst : s.pp.st = .present
  · rw [takeFrame_present hst]
    cases hl : s.pp.last with
    | none =>
      obtain ⟨h1, h2, h3, h4, h5, h6⟩ := hwhole none (freshened s) hst rfl rfl rfl rfl
      exact ⟨h1, h2, fun e => (nomatch e.2), fun _ => h3, h4, h5, h6⟩
    | some o =>
      dsimp only
      by_cases hseq : o.seq = f.seq
      · rw [if_pos hseq]
        exact ⟨hst, rfl, fun _ => hl, fun e => absurd ⟨hst, congrArg some hseq⟩ e, rfl, rfl, rfl⟩
      · obtain ⟨h1, h2, h3, h4, h5, h6⟩ := hwhole (some o) (freshened s) hst rfl rfl rfl rfl
        rw [if_neg hseq]
        exact ⟨h1, h2, fun e => absurd (Option.some.inj e.2) hseq, fun _ => h3, h4, h5, h6⟩
  · rw [takeFrame_enters hst]
    have henter : enterPresent s = queueReport (.pendantState .present s.pp.st .frame)
      { s with pp.st := .present, pp.armed := false, pp.lines := s.pp.lines.map fun l => { l with fresh := true }
               pp.freshT := .start 50 } := rfl
    obtain ⟨h1, h2, h3, h4, h5, h6⟩ := hwhole none (freshened (enterPresent s))
      (by show (enterPresent s).pp.st = _; rw [henter, queueReport_pp]) rfl
      (by show (enterPresent s).cs = _; rw [henter, queueReport_cs])
      (by show (enterPresent s).inp = _; rw [henter, queueReport_inp])
      (by show (enterPresent s).am = _; rw [henter, queueReport_am])
    exact ⟨h1, h2, fun e => absurd e.1 hst, fun _ => h3, h4, h5, h6⟩

theorem pendantRead_of_parse {s : State} {l : List Byte} {f : StatusFrame} (hp : s.pp.st ≠ .testing)
    (hf : parseStatus l = some f) : pendantRead l s = takeFrame f { s with pp.rx := .hunting } := by
  unfold pendantRead
  rw [if_neg hp, hf]

/-- A valid frame outside TESTING, to the end of its event. -/
theorem pendantFrame_link {s : State} {l : List Byte} {f : StatusFrame} (hp : s.pp.st ≠ .testing)
    (hf : parseStatus l = some f) : ∃ t : State, exec (.pendantFrame l) s = .next t ∧
      t.pp.st = .present ∧ t.pp.freshT = ⟨true, 0, 50⟩ ∧
      (s.pp.st = .present ∧ (s.pp.last.map fun o => o.seq) = some f.seq → t.pp.last = s.pp.last) ∧
      (¬(s.pp.st = .present ∧ (s.pp.last.map fun o => o.seq) = some f.seq) → t.pp.last = some f) ∧
      t.cs = s.cs ∧ t.inp = s.inp ∧ t.am = s.am := by
  obtain ⟨h1, h2, h3, h4, h5, h6, h7⟩ := takeFrame_link f { s with pp.rx := .hunting }
  have h := noticed_finish (pendantRead l s)
  rw [pendantRead_of_parse hp hf] at h
  simp only [noticed, Prod.mk.injEq] at h
  obtain ⟨k1, k2, k3, -, -, -, k7, k8, k9⟩ := h
  refine ⟨_, congrArg done (pendantRead_of_parse hp hf), k1.trans h1, k2.trans h2, fun e => k3.trans (h3 e),
    fun e => k3.trans (h4 e), k7.trans h5, k8.trans h6, k9.trans h7⟩

/-- The feed override, the arming and the mismatch timer after a new frame. -/
theorem pendantFrame_enable {s : State} {o f : StatusFrame} {l : List Byte} (h : NewFrame s o f l) :
    ∃ t : State, exec (.pendantFrame l) s = .next t ∧
      t.pi.feed = (if s.pi.source = .pendant then min 150 f.knob else s.pi.feed) ∧
      t.pp.armed = (if f.enable = .panic then false
        else if f.enable = .released ∧ enableContact s = false then true else s.pp.armed) ∧
      t.pp.mismT = (if (f.enable = .middle) ↔ (enableContact s = true) then .stopped
        else if s.pp.mismT.on then s.pp.mismT else ⟨true, 0, 50⟩) := by
  have hn := noticed_finish (pendantRead l s)
  rw [pendantRead_new h, noticed_takeWhole (some o) f (by exact h.1)] at hn
  simp only [noticed, Prod.mk.injEq] at hn
  obtain ⟨-, -, -, harmed, hmis, hfeed, -⟩ := hn
  exact ⟨_, congrArg done (pendantRead_new h), hfeed, harmed, hmis⟩

/-! ## JOG+ and JOG− (R168, R170) -/

theorem wheelStep_same {o f : StatusFrame} (h : f.counter = o.counter) (s : State) : wheelStep (some o) f s = s := by
  have hd : wheelDelta o.counter f.counter = 0 := by unfold wheelDelta; rw [h]; simp
  unfold wheelStep
  cases f.sel with
  | none => rfl
  | some a =>
    dsimp only
    rw [if_pos hd]

/-- A press of the jog button of a direction. -/
def Presses (o f : StatusFrame) (d : JogDir) : Prop :=
  (d = .plus ∧ f.jogP = true ∧ f.jogM = false ∧ o.jogP = false) ∨
    (d = .minus ∧ f.jogM = true ∧ f.jogP = false ∧ o.jogM = false)

/-- The buttons of a frame that shows a press of JOG+ or JOG− and of no other (R160 step 7). -/
theorem pressStep_jog {o f : StatusFrame} {a : Axis} {d : JogDir} (hsel : f.sel = some a) (hh : f.hold = false)
    (hs : f.start = false) (hfl : f.flood = false) (hd : Presses o f d) (s : State) :
    pressStep (some o) f s = jogPress a d (jogReleases f s) := by
  rw [pressStep_quiet hh hs hfl, hsel]
  dsimp only
  obtain ⟨rfl, hp, hm, ho⟩ | ⟨rfl, hm, hp, ho⟩ := hd
  · simp [pressed, hp, hm, ho]
  · simp [pressed, hp, hm, ho]

theorem Resting.framed {s : State} (h : Resting s) (hp : anyOwner s .pendant = false) (f : StatusFrame) (p : Pendant) :
    Resting { s with pi := framedPi f s.pi, pp := p } :=
  { h with giveBack := fun a e => not_owner hp a e.1 }

/-- The state in which the buttons of a frame with the enable MIDDLE are read: I3 may be off. -/
theorem enableStep_any {s : State} {f : StatusFrame} (hst : s.pp.st = .present) (hl : s.pp.last = some f)
    (hen : f.enable = .middle) : ∃ T : Timer, enableStep f s = fall .pendantEnableMismatch { s with pp.mismT := T } ∨
      enableStep f s = { s with pp.mismT := T } := by
  have harm : armStep s = s := by
    unfold armStep
    rw [hst, hl]
    exact if_neg (by rw [hen]; exact fun e => (nomatch e.1))
  have henable : enableStep f s = mismatchStep s := by
    unfold enableStep
    rw [if_neg (by rw [hen]; decide)]
    dsimp only
    rw [harm, hen]
  rw [henable]
  unfold mismatchStep
  rw [hst, hl]
  dsimp only
  split
  · exact ⟨.stopped, .inl rfl⟩
  · split
    · exact ⟨s.pp.mismT, .inr rfl⟩
    · exact ⟨.start 50, .inr rfl⟩

/-- The hold record of a take: a QUEUE axis is displaced (R49). -/
def displacedHold (s : State) (a : Axis) : Option HoldRec :=
  if (s.ax.get a).owner = .queue then
    s.pi.hold.map fun h => { h with displaced := h.displaced.upd a fun _ => true }
  else s.pi.hold

theorem takeAxis_eq (a : Axis) (s : State) :
    takeAxis a s = { s with pi.hold := displacedHold s a, ax := s.ax.upd a ownPendant } := by
  unfold takeAxis displacedHold
  dsimp only
  split <;> rfl

/-- The jog of a press (R170). -/
def pressedJog (d : JogDir) (k : AxisCh) (j : Jog) : Jog :=
  { j with mode := .button, dir := d, fin := .none, brk := false, wheel := if j.mode = .wheel then k.setpoint else j.wheel }

/-- A press on an axis that is free, or QUEUE's in HELD, where a jog is permitted (R168). -/
theorem jogPress_taken {s : State} {a : Axis} (hperm : jogPermitted s = true)
    (hown : (s.ax.get a).owner = .none ∨ ((s.ax.get a).owner = .queue ∧ s.sq.st = .held)) (hrel : released s a = true)
    (d : JogDir) : jogPress a d s = { s with
      pi.hold := displacedHold s a, ax := s.ax.upd a ownPendant
      pp.jogs := s.pp.jogs.upd a (pressedJog d (s.ax.get a)) } := by
  have hout : takeOutcome s a = .taken := by
    unfold takeOutcome
    rw [if_pos hperm]
    rcases hown with e | ⟨e, hst⟩
    · rw [e]
    · rw [e]; exact if_pos hst
  have hch : (s.ax.upd a ownPendant).get a = ownPendant (s.ax.get a) := by rw [PerAxis.get_upd, if_pos rfl]
  unfold jogPress
  rw [hout, takeAxis_eq]
  dsimp only
  have hneed : ∀ u, released u a = true → jogNeed a u = u := fun u hu => if_pos hu
  rw [hneed _ (by exact hrel)]
  unfold startJog updJog
  dsimp only
  rw [hch]
  rfl

theorem jogPress_ignored {s : State} {a : Axis} (h : jogPermitted s = false ∨ (s.ax.get a).owner = .homing) (d : JogDir) :
    jogPress a d s = refuse s := by
  have hout : takeOutcome s a = .ignored := by
    unfold takeOutcome
    rcases h with h | h
    · rw [h]; rfl
    · rw [h]
      split <;> rfl
  unfold jogPress
  rw [hout]

/-- A jog keeps its velocity and its remainder through a frame's releases. -/
theorem jogsLet_motion (f : StatusFrame) (s : State) (a : Axis) : ((jogsLet f s).get a).vel = (s.pp.jogs.get a).vel ∧
    ((jogsLet f s).get a).rem = (s.pp.jogs.get a).rem := by
  unfold jogsLet
  rw [PerAxis.get_map]
  split
  · exact endJogOf_motion ..
  · exact ⟨rfl, rfl⟩

/-- A press that takes the selected axis, to the end of its event (R168, R170). -/
theorem pendantFrame_jog {s : State} {o f : StatusFrame} {l : List Byte} {a : Axis} {d : JogDir} (h : Still s)
    (hf : NewFrame s o f l) (hj : JogFrame o f) (hsel : f.sel = some a) (hen : f.enable = .middle) (hd : Presses o f d)
    (hpen : anyOwner s .pendant = false) (hready : JogReady s) (hrel : released s a = true)
    (hown : (s.ax.get a).owner = .none ∨ ((s.ax.get a).owner = .queue ∧ s.sq.st = .held)) :
    ∃ t : State, exec (.pendantFrame l) s = .next t ∧ (t.ax.get a).owner = .pendant ∧
      (t.ax.get a).setpoint = (s.ax.get a).setpoint ∧
      (let j := t.pp.jogs.get a
       j.mode = .button ∧ j.dir = d ∧ j.fin = .none ∧ j.vel = (s.pp.jogs.get a).vel ∧
         j.rem = (s.pp.jogs.get a).rem) ∧
      (∀ i, i ≠ a → (t.ax.get i).owner = (s.ax.get i).owner) ∧
      t.pi.hold = (if (s.ax.get a).owner = .queue then
          s.pi.hold.map fun h => { h with displaced := h.displaced.upd a fun _ => true } else s.pi.hold) ∧
      t.sq.st = s.sq.st ∧ t.cs = s.cs ∧ t.hs = s.hs ∧
      t.cc = s.cc.map fun c k => if clampAxis c = a then { k with idle := 0 } else k := by
  obtain ⟨harmed, hc, hm, hst⟩ := hready
  obtain ⟨hjsel, hmult, hcounter, hh, hs, hfl⟩ := hj
  obtain ⟨z, hz⟩ : ∃ z, fall .pendantEnableMismatch s = z := ⟨_, rfl⟩
  have hax : z.ax = s.ax := by rw [← hz]; exact fall_ax ..
  have hcc : z.cc = s.cc := by rw [← hz]; exact fall_cc ..
  have hinp : z.inp = s.inp := by rw [← hz]; exact fall_inp ..
  have hsq : z.sq = s.sq := by rw [← hz]; exact fall_sq ..
  have hcs : z.cs = s.cs := by rw [← hz]; exact fall_cs ..
  have hhs : z.hs = s.hs := by rw [← hz]; exact fall_hs ..
  have hmach : z.cn.machine = .ready := by rw [← hz]; exact (fall_machine ..).trans hm
  obtain ⟨y, hy⟩ : ∃ y, { z with pi := framedPi f s.pi, pp := framedPp f s.pp } = y := ⟨_, rfl⟩
  obtain ⟨J, hJ⟩ : ∃ J, jogsLet f y = J := ⟨_, rfl⟩
  have hjog : (J.get a).vel = (s.pp.jogs.get a).vel ∧ (J.get a).rem = (s.pp.jogs.get a).rem := by
    have := jogsLet_motion f y a
    rw [hJ, ← hy] at this
    exact this
  have hperm : ∀ v : PerAxis Jog, jogPermitted { z with pp := { framedPp f s.pp with jogs := v } } = true := fun v =>
    jogPermitted_of (f := f) hf.1 harmed (by unfold enableContact inputOn at hc ⊢; dsimp only; rw [hinp]; exact hc) hmach
      (by dsimp only; rw [hsq]; exact hst) rfl hen
  have hread : pendantRead l s = { z with
      pi := { framedPi f s.pi with hold := displacedHold s a }
      pp := { framedPp f s.pp with jogs := J.upd a (pressedJog d (s.ax.get a)) }
      ax := z.ax.upd a ownPendant } := by
    rw [pendantRead_framed hf hjsel hmult hen hc, wheelStep_same hcounter, hz, hy, pressStep_jog hsel hh hs hfl hd,
      jogReleases_eq, hJ, ← hy, jogPress_taken (by exact hperm J) (by
        show (z.ax.get a).owner = _ ∨ ((z.ax.get a).owner = _ ∧ z.sq.st = _)
        rw [hax, hsq]; exact hown) (by
        have : clampState { z with pi := framedPi f s.pi, pp := { framedPp f s.pp with jogs := J } } a = clampState s a := by
          unfold clampState; dsimp only; rw [hcc]
        unfold released; rw [this]; exact hrel)]
    have hhold : displacedHold { z with pi := framedPi f s.pi, pp := { framedPp f s.pp with jogs := J } } a =
        displacedHold s a := by
      unfold displacedHold
      dsimp only
      rw [hax]
      rfl
    rw [hhold]
    dsimp only
    rw [hax]
  have hrest : Resting z := by rw [← hz]; exact h.resting.fall ⟨by decide, by decide⟩
  have hfin := finish_taken hrest hmach (by rw [hsq]; exact hst)
    (fun i _ => by rw [hax]; exact not_owner hpen i) { framedPi f s.pi with hold := displacedHold s a }
    (p := { framedPp f s.pp with jogs := J.upd a (pressedJog d (s.ax.get a)) }) (a := a) hsel (hperm _)
  obtain ⟨tx, lines, due, q, ht⟩ := sent_eq { z with
      pi := { framedPi f s.pi with hold := displacedHold s a }
      pp := { framedPp f s.pp with jogs := J.upd a (pressedJog d (s.ax.get a)) }
      ax := z.ax.upd a ownPendant, cc := unidled a z.cc }
  have hch : ∀ i, (z.ax.upd a ownPendant).get i = if a = i then ownPendant (s.ax.get i) else s.ax.get i := fun i => by
    rw [PerAxis.get_upd, hax]
  have hpj : (J.upd a (pressedJog d (s.ax.get a))).get a = pressedJog d (s.ax.get a) (J.get a) := by
    rw [PerAxis.get_upd, if_pos rfl]
  refine ⟨_, (congrArg done hread).trans (congrArg Host.Outcome.next (hfin.trans ht)), ?_, ?_, ?_, fun i hi => ?_, rfl, ?_, ?_, ?_, ?_⟩
  · show ((z.ax.upd a ownPendant).get a).owner = _
    rw [hch, if_pos rfl]; rfl
  · show ((z.ax.upd a ownPendant).get a).setpoint = _
    rw [hch, if_pos rfl]; rfl
  · show ((J.upd a (pressedJog d (s.ax.get a))).get a).mode = _ ∧ ((J.upd a (pressedJog d (s.ax.get a))).get a).dir = _ ∧
      ((J.upd a (pressedJog d (s.ax.get a))).get a).fin = _ ∧ ((J.upd a (pressedJog d (s.ax.get a))).get a).vel = _ ∧
      ((J.upd a (pressedJog d (s.ax.get a))).get a).rem = _
    rw [hpj]
    exact ⟨rfl, rfl, rfl, hjog.1, hjog.2⟩
  · show ((z.ax.upd a ownPendant).get i).owner = _
    rw [hch, if_neg hi.symm]
  · show z.sq.st = _; rw [hsq]
  · exact hcs
  · exact hhs
  · show unidled a z.cc = _; rw [hcc]; rfl

/-- The state in which the buttons of a new frame with the enable MIDDLE are read, I3 on or off. -/
theorem pendantRead_any {s : State} {o f : StatusFrame} {l : List Byte} (h : NewFrame s o f l) (hsel : f.sel = o.sel)
    (hmult : f.mult = o.mult) (hcounter : f.counter = o.counter) (hen : f.enable = .middle) :
    ∃ T : Timer, pendantRead l s = pressStep (some o) f
        { fall .pendantEnableMismatch s with pi := framedPi f s.pi, pp := { framedPp f s.pp with mismT := T } } ∨
      pendantRead l s = pressStep (some o) f { s with pi := framedPi f s.pi, pp := { framedPp f s.pp with mismT := T } } := by
  have hselector : ∀ u, selectorStep (some o) f u = u := fun u => by
    unfold selectorStep
    rw [hsel, hmult]
    simp
  have hread : pendantRead l s = pressStep (some o) f
      (enableStep f (knobStep f { received s with pp.last := some f, pp.seen := true })) := by
    rw [pendantRead_new h]
    unfold takeWhole
    dsimp only
    rw [wheelStep_same hcounter, hselector]
  rw [hread, knobStep_eq]
  obtain ⟨T, e | e⟩ := enableStep_any (f := f) (s := { { received s with pp.last := some f, pp.seen := true } with
    pi := framedPi f s.pi }) h.1 rfl hen
  · refine ⟨T, .inl (congrArg _ (e.trans ?_))⟩
    exact fall_with .pendantEnableMismatch s (framedPi f s.pi) { framedPp f s.pp with mismT := T }
  · exact ⟨T, .inr (congrArg _ e)⟩

/-- A press that is ignored, to the end of its event (R168). -/
theorem pendantFrame_refuse {s : State} {o f : StatusFrame} {l : List Byte} {a : Axis} {d : JogDir} (h : Still s)
    (hf : NewFrame s o f l) (hj : JogFrame o f) (hsel : f.sel = some a) (hen : f.enable = .middle) (hd : Presses o f d)
    (hpen : anyOwner s .pendant = false)
    (hno : s.pp.armed = false ∨ enableContact s = false ∨ s.cn.machine ≠ .ready ∨
      (s.sq.st ≠ .idle ∧ s.sq.st ≠ .held) ∨ (s.ax.get a).owner = .homing) :
    ∃ t : State, exec (.pendantFrame l) s = .next t ∧ (t.ax.get a).owner = (s.ax.get a).owner ∧
      t.pp.refuseT = ⟨true, 0, 500⟩ ∧ t.sq.st = s.sq.st := by
  obtain ⟨hjsel, hmult, hcounter, hh, hs, hfl⟩ := hj
  have hend : ∀ (z : State) (T : Timer), Resting z → z.ax = s.ax → z.inp = s.inp → z.cn.machine = s.cn.machine →
      z.sq = s.sq → pendantRead l s = pressStep (some o) f
        { z with pi := framedPi f s.pi, pp := { framedPp f s.pp with mismT := T } } → z.pi = s.pi →
      ∃ t : State, exec (.pendantFrame l) s = .next t ∧ (t.ax.get a).owner = (s.ax.get a).owner ∧
        t.pp.refuseT = ⟨true, 0, 500⟩ ∧ t.sq.st = s.sq.st := by
    intro z T hrest hax hinp hmach hsq hread hpi
    obtain ⟨J, hJ⟩ : ∃ J, jogsLet f { z with pi := framedPi f s.pi, pp := { framedPp f s.pp with mismT := T } } = J :=
      ⟨_, rfl⟩
    have hperm : jogPermitted { z with pi := framedPi f s.pi, pp := { framedPp f s.pp with mismT := T, jogs := J } } = false ∨
        (z.ax.get a).owner = .homing := by
      rw [hax]
      unfold jogPermitted enableContact inputOn
      dsimp only
      rw [hinp, hmach, hsq]
      rcases hno with e | e | e | ⟨e1, e2⟩ | e
      · left; rw [show (framedPp f s.pp).armed = false from e]; simp
      · left; unfold enableContact inputOn at e; rw [e]; simp
      · left; simp [e]
      · left; simp [e1, e2]
      · exact .inr e
    have hown : anyOwner z .pendant = false := by unfold anyOwner at hpen ⊢; rw [hax]; exact hpen
    rw [pressStep_jog hsel hh hs hfl hd, jogReleases_eq, hJ, jogPress_ignored (by exact hperm)] at hread
    have hstill := hrest.framed hown f { framedPp f s.pp with mismT := T, jogs := J, refuseT := .start 500 }
    rw [hpi] at hstill
    obtain ⟨tx, lines, due, q, ht⟩ := sent_eq { z with
      pi := framedPi f s.pi, pp := { framedPp f s.pp with mismT := T, jogs := J, refuseT := .start 500 } }
    refine ⟨_, (congrArg done hread).trans (congrArg Host.Outcome.next ((finish_calm ((calm_iff _).2 hstill)).trans ht)), ?_, rfl, ?_⟩
    · show (z.ax.get a).owner = _; rw [hax]
    · show z.sq.st = _; rw [hsq]
  obtain ⟨T, e | e⟩ := pendantRead_any hf hjsel hmult hcounter hen
  · exact hend (fall .pendantEnableMismatch s) T (h.resting.fall ⟨by decide, by decide⟩) (fall_ax ..) (fall_inp ..)
      (fall_machine ..) (fall_sq ..) e (fall_pi ..)
  · exact hend s T h.resting rfl rfl rfl rfl e rfl

end Sys2Proof.Machine
end

section
/-! CLAIMS. HOLD and START on the pendant (R160 step 7, R167). -/

namespace Sys2Proof.Machine

theorem not_raw {s : State} {c : Cond} (h : anyRaw s c.cls = false) (hl : c.level = true) : rawOf s c = false := by
  have hc := List.any_eq_false.1 h c (mem_allConds c)
  simpa [hl] using hc

theorem fall_of_not_raw {s : State} {c : Cond} (h : rawOf s c = false) : fall c s = s :=
  if_neg (by rw [h]; exact Bool.false_ne_true)

theorem settle_of_resting {s : State} (h : Resting s) : settle 512 s = s := by
  show settle (511 + 1) s = s
  unfold settle
  rw [show rules s = none from (calm_iff s).2 h]

theorem settle_of_rule {s t : State} (h : rules s = some t) (ht : Resting t) : settle 512 s = t := by
  have hstop : settle 511 t = t := by
    show settle (510 + 1) t = t
    unfold settle
    rw [show rules t = none from (calm_iff t).2 ht]
  show settle (511 + 1) s = t
  unfold settle
  rw [h]
  exact hstop

theorem anyOwner_false {s : State} {o : Owner} (h : ∀ a, (s.ax.get a).owner ≠ o) : anyOwner s o = false := by
  unfold anyOwner
  rw [List.any_eq_false]
  exact fun a _ => by simpa using h a

/-- The buttons of a frame without JOG+, JOG− and FLOOD. -/
theorem pressStep_free {o f : StatusFrame} (hp : f.jogP = false) (hm : f.jogM = false) (hfl : f.flood = false) {s u : State}
    (hu : deliverPress (pressed (some o) f (·.hold)) holdPress s = u) :
    pressStep (some o) f s =
      jogReleases f (deliverPress (pressed (some o) f (·.start) && u.pp.armed) pendantStart u) := by
  subst hu
  have hflood : ∀ v, deliverPress (pressed (some o) f (·.flood)) floodPress v = v := fun v => by
    unfold deliverPress
    rw [pressed_of_not (b := (·.flood)) hfl]
    rfl
  unfold pressStep
  dsimp only
  rw [hflood, pressed_of_not (b := (·.jogP)) hp, pressed_of_not (b := (·.jogM)) hm, hp]
  cases f.sel <;> rfl

/-- The end of the event, where no axis is the pendant's. -/
theorem finish_released {s : State} (h : Resting s) (hpen : anyOwner s .pendant = false) (f : StatusFrame) :
    (finish (jogReleases f s)).sq = s.sq ∧ (finish (jogReleases f s)).pi = s.pi ∧
      (finish (jogReleases f s)).ax = s.ax ∧ (finish (jogReleases f s)).rq = s.rq := by
  rw [jogReleases_eq, finish_calm ((calm_iff _).2 (h.unjogged { s.pp with jogs := jogsLet f s } hpen))]
  obtain ⟨tx, lines, due, l, ht⟩ := sent_eq { s with pp := { s.pp with jogs := jogsLet f s } }
  rw [ht]
  exact ⟨rfl, rfl, rfl, rfl⟩

/-! ## START in IDLE -/

/-- The pendant's START of an empty queue in IDLE (R7). -/
theorem pendantStart_idle {s : State} (h : Resting s) (hst : s.sq.st = .idle) (hrecs : s.sq.recs = [])
    (hcur : s.sq.current = false) (hm : s.cn.machine = .ready) (hhold : anyRaw s .hold = false)
    (hstop : anyRaw s .stop = false) (hpen : anyOwner s .pendant = false) (hhom : anyOwner s .homing = false)
    (hidle : ∀ c, (s.cc.get c).idle = 0) {u : State}
    (hu : queueReport (.queueState .running .idle none 0) { s with
      sq.st := .running, ax := s.ax.map fun _ k => if k.owner = .none then { k with owner := .queue } else k } = u) :
    settle 512 (pendantStart s) = u ∧ Resting u ∧ anyOwner u .pendant = false := by
  have hstart : pendantStart s = u := by
    unfold pendantStart
    rw [startRequest_of_idle hst hm hhold hstop hpen hhom, takeStart_of_empty hst hrecs hcur, hu]
  have hrest : Resting u := by
    rw [← hu]
    exact (h.started hm hrecs hcur hpen hidle).queueReport _
  refine ⟨by rw [hstart, settle_of_resting hrest], hrest, anyOwner_false fun a => ?_⟩
  rw [← hu, queueReport_ax]
  dsimp only
  rw [PerAxis.get_map]
  split
  · exact fun e => (nomatch e)
  · exact not_owner hpen a

/-! ## HOLD -/

/-- A RUNNING queue whose rate is not 0 goes to HOLDING, and no closing rule has anything to do. -/
theorem Resting.holding {s : State} (h : Resting s) (hst : s.sq.st = .running) (hr : s.pi.r ≠ 0) :
    Resting { s with sq.st := .holding } := by
  have hruns : nonMoveRuns { s with sq.st := .holding } = nonMoveRuns s := by unfold nonMoveRuns; rw [hst]; rfl
  refine { h with giveBack := fun a e => h.noJogOver hst a ⟨e.1, e.2.1, e.2.2.1⟩, record := ?_, queue := ?_,
                  machine := fun e => ?_ }
  · have := h.record
    unfold recordRests at this ⊢
    rw [hruns]
    rw [hst] at this
    exact this
  · unfold queueRests
    simp [hr]
  · have := e.2
    unfold readyTest at this
    simp at this

theorem sqHold_of_running {s : State} (hst : s.sq.st = .running) : sqHold s = fall .queueStarved
    (queueReport (.queueState .holding .running (curKey s) s.sq.recs.length) { s with sq.st := .holding }) := by
  unfold sqHold
  rw [if_pos (.inl hst)]
  unfold setQState
  rw [if_neg (by rw [hst]; decide), hst]
  rfl

/-- The pendant's HOLD of a queue that moves (R9). -/
theorem holdPress_moving {s : State} (h : Resting s) (hst : s.sq.st = .running) (hr : s.pi.r ≠ 0)
    (hpen : anyOwner s .pendant = false) {u : State} (hu : holdPress s = u) :
    settle 512 u = u ∧ Resting u ∧ anyOwner u .pendant = false ∧ u.sq.st = .holding ∧ u.pi = s.pi := by
  obtain ⟨v, hv⟩ : ∃ v, sqHold s = v := ⟨_, rfl⟩
  have hv' := hv
  rw [sqHold_of_running hst] at hv'
  have hax : v.ax = s.ax := by rw [← hv', fall_ax, queueReport_ax]
  have hpenv : anyOwner v .pendant = false := by unfold anyOwner at hpen ⊢; rw [hax]; exact hpen
  have hrestv : Resting v := by
    rw [← hv']
    exact ((h.holding hst hr).queueReport _).fall ⟨by decide, by decide⟩
  have hrest : Resting u := by
    rw [← hu]
    unfold holdPress
    rw [hv]
    exact hrestv.unjogged _ hpenv
  refine ⟨settle_of_resting hrest, hrest, ?_, ?_, ?_⟩
  · rw [← hu]; unfold holdPress; rw [hv]; exact hpenv
  · rw [← hu]; unfold holdPress; rw [hv]
    show v.sq.st = _
    rw [← hv', fall_sq, queueReport_sq]
  · rw [← hu]; unfold holdPress; rw [hv]
    show v.pi = _
    rw [← hv', fall_pi, queueReport_pi]

/-! ## HOLD and START of a queue that stands still -/

/-- The queue that HOLD finds RUNNING at rate 0 without a record, in HELD (R9, R48). -/
def heldState (s : State) (r : HoldRec) (v : PerAxis Jog) : State :=
  { s with sq.st := .held, pi.hold := some r, pi.ret := none, pp.jogs := v }

/-- The pendant's HOLD of a queue that stands still (R9, R48). -/
theorem holdPress_still {s : State} (h : Resting s) (hst : s.sq.st = .running) (hr : s.pi.r = 0) (hrecs : s.sq.recs = [])
    (hhold : s.pi.hold = none) (hraw : rawOf s .queueStarved = false) (hpen : anyOwner s .pendant = false) :
    ∃ (r : HoldRec) (v : PerAxis Jog), (∀ a, r.displaced.get a = false) ∧
      settle 512 (holdPress s) = queueReport (.queueState .held .holding none 0)
        (heldState (queueReport (.queueState .holding .running none 0) s) r v) ∧
      Resting (settle 512 (holdPress s)) := by
  obtain ⟨y, hy⟩ : ∃ y, queueReport (.queueState .holding .running none 0) s = y := ⟨_, rfl⟩
  have hysq : y.sq = s.sq := by rw [← hy, queueReport_sq]
  have hypi : y.pi = s.pi := by rw [← hy, queueReport_pi]
  have hyax : y.ax = s.ax := by rw [← hy, queueReport_ax]
  have hcur : curKey s = none := by unfold curKey; rw [currentRec_of_nil hrecs]; rfl
  have hset : queueReport (.queueState .holding .running none 0) { s with sq.st := .holding } =
      { y with sq := { y.sq with st := .holding } } := by
    have := queueReport_with (.queueState .holding .running none 0) s { s.sq with st := .holding } s.pi
    rw [hy] at this
    rw [hysq]
    refine this.trans ?_
    rw [← hypi]
  have hsq : sqHold s = { y with sq := { y.sq with st := .holding } } := by
    rw [sqHold_of_running hst, hcur, hrecs, List.length_nil, ← hset]
    refine fall_of_not_raw ?_
    rw [rawOf_queueReport]
    exact hraw
  obtain ⟨v, hv⟩ : ∃ v, y.pp.jogs.map (fun a j => endJogOf .jog (y.ax.get a).setpoint j) = v := ⟨_, rfl⟩
  obtain ⟨m, hm⟩ : ∃ m : State, { y with sq := { y.sq with st := .holding }, pp.jogs := v } = m := ⟨_, rfl⟩
  have hpress : holdPress s = m := by
    unfold holdPress
    rw [hsq, ← hm, ← hv]
    rfl
  have hpeny : anyOwner y .pendant = false := by unfold anyOwner at hpen ⊢; rw [hyax]; exact hpen
  have hresty : Resting y := by rw [← hy]; exact h.queueReport _
  have hrestv : Resting { y with pp.jogs := v } := hresty.unjogged _ hpeny
  have hmrecs : m.sq.recs = [] := by rw [← hm]; show y.sq.recs = []; rw [hysq]; exact hrecs
  have hmcur : currentRec m = none := currentRec_of_nil hmrecs
  have hmst : m.sq.st = .holding := by rw [← hm]
  have hrule : queueRule m = some (becomeHeld m) := queueRule_holding hmst (by rw [← hm]; show y.pi.r = 0; rw [hypi]; exact hr)
    ((recordStep_none _).2 (recordRests_of_none hmcur)) (by unfold inProgress; rw [hmcur])
  have hrules : rules m = some (becomeHeld m) := rules_queue (q := y.sq)
    (by rw [← hm]; exact hrestv) (by rw [hysq]; exact hst) hrule
  have hheld : becomeHeld m = queueReport (.queueState .held .holding none 0) (heldState y (newHold m) v) := by
    have hmhold : m.pi.hold = none := by rw [← hm]; show y.pi.hold = none; rw [hypi]; exact hhold
    rw [becomeHeld_eq hmst, show curKey m = none by unfold curKey; rw [hmcur]; rfl,
      show m.sq.recs.length = 0 by rw [hmrecs]; rfl, hmhold]
    obtain ⟨n, hn⟩ : ∃ n, newHold m = n := ⟨_, rfl⟩
    rw [hn, ← hm]
    exact (queueReport_with (.queueState .held .holding none 0)
      { y with sq := { y.sq with st := .holding }, pp.jogs := v } { y.sq with st := .held }
      { y.pi with hold := some n, ret := none }).symm
  refine ⟨newHold m, v, fun a => by cases a <;> rfl, ?_⟩
  rw [hpress]
  have hrest : Resting (becomeHeld m) := by
    rw [hheld]
    exact (hrestv.becameHeld (by show y.sq.st = _; rw [hysq]; exact hst) (by show y.sq.recs = _; rw [hysq]; exact hrecs)
      (some (newHold m))).queueReport _
  rw [settle_of_rule hrules hrest]
  exact ⟨by rw [hheld, hy], hrest⟩

/-- The pendant's START in HELD without a displaced axis and without a record (R8, R10). -/
theorem pendantStart_held {s : State} (h : Resting s) (hst : s.sq.st = .held) (hrecs : s.sq.recs = [])
    {r : HoldRec} (hhold : s.pi.hold = some r) (hdisp : ∀ a, r.displaced.get a = false) (hm : s.cn.machine = .ready)
    (hh : anyRaw s .hold = false) (hs : anyRaw s .stop = false) (ht : anyRaw s .trip = false)
    (hpen : anyOwner s .pendant = false) {u : State} (hu : queueReport (.queueState .running .held none 0)
      { s with sq.st := .running, sq.waiting := false, pi.hold := none, pi.ret := none, pi.r := 0 } = u) :
    settle 512 (pendantStart s) = u ∧ Resting u ∧ anyOwner u .pendant = false := by
  have hnone : displacedAxes s = [] := by
    unfold displacedAxes
    rw [hhold]
    exact List.filter_eq_nil_iff.2 fun a _ => by rw [hdisp a]; exact Bool.false_ne_true
  have hstart : pendantStart s = u := by
    unfold pendantStart startRequest
    rw [hst]
    dsimp only
    rw [resumeRequest_of_held hst hm hh hs ht hpen]
    dsimp only
    unfold takeResume
    rw [hnone, if_pos List.isEmpty_nil, resumeRun_of_empty hst hrecs, hu]
  have hrest : Resting u := by rw [← hu]; exact (h.resumed hm hpen hrecs).queueReport _
  refine ⟨by rw [hstart, settle_of_resting hrest], hrest, ?_⟩
  rw [← hu]
  unfold anyOwner at hpen ⊢
  rw [queueReport_ax]
  exact hpen

/-! ## The presses of a frame -/

theorem deliverPress_pressed {act : State → State} {press : Bool} (h : press = true) (s : State) :
    deliverPress press act s = settle 512 (act s) := by
  unfold deliverPress; rw [h]; rfl

theorem deliverPress_not {act : State → State} {press : Bool} (h : press = false) (s : State) :
    deliverPress press act s = s := by
  unfold deliverPress; rw [h]; rfl

theorem pressed_now {o f : StatusFrame} {b : StatusFrame → Bool} (hf : b f = true) (ho : b o = false) :
    pressed (some o) f b = true := by
  show (b f && !b o) = true
  rw [hf, ho]; rfl

/-- A frame without JOG+, JOG− and FLOOD, up to its presses of HOLD and START. -/
theorem pendantRead_free {s : State} {o f : StatusFrame} {l : List Byte} (hf : NewFrame s o f l) (hsel : f.sel = o.sel)
    (hmult : f.mult = o.mult) (hcounter : f.counter = o.counter) (hp : f.jogP = false) (hm : f.jogM = false)
    (hfl : f.flood = false) (hen : f.enable = .middle) (hc : enableContact s = true) {y : State}
    (hy : { fall .pendantEnableMismatch s with pi := framedPi f s.pi, pp := framedPp f s.pp } = y) {u : State}
    (hu : deliverPress (pressed (some o) f (·.hold)) holdPress y = u) :
    pendantRead l s = jogReleases f (deliverPress (pressed (some o) f (·.start) && u.pp.armed) pendantStart u) := by
  rw [pendantRead_framed hf hsel hmult hen hc, wheelStep_same hcounter, hy]
  exact pressStep_free hp hm hfl hu

/-- Settles O50. -/
theorem pendantFramesAreTaken : Obligations.PendantFramesAreTaken := by
  refine ⟨fun s l => ⟨fun f hp hf => pendantFrame_link hp hf, fun h hp hn => ?bytes, fun h hp => ?testing,
    fun h hp next => ?gap⟩, fun s o f l hf => pendantFrame_enable hf,
    fun s o f l a d h hf hj hsel hen hd hpen => ⟨fun hready hrel hown => pendantFrame_jog h hf hj hsel hen hd hpen hready
      hrel hown, fun hno => pendantFrame_refuse h hf hj hsel hen hd hpen hno⟩, ?press⟩
  case bytes =>
    have hread : pendantRead l s = { s with pp.rx := .hunting } := by
      unfold pendantRead
      rw [if_neg hp, hn]
    exact (congrArg done hread).trans (done_still (Resting.still { h.resting with } h.2))
  case testing => exact (congrArg done (show pendantRead l s = s from if_pos hp)).trans (done_still h)
  case gap =>
    have hdue : (s.pp.st != .testing) = true := bne_iff_ne.2 hp
    exact (congrArg done (whenDue_true hdue _ s)).trans (done_still (Resting.still { h.resting with } h.2))
  case press =>
    intro s o f l h hf hsel hmult hcounter hp hm hfl hen hc hpen
    obtain ⟨z, hz⟩ : ∃ z, fall .pendantEnableMismatch s = z := ⟨_, rfl⟩
    obtain ⟨y, hy⟩ : ∃ y, { z with pi := framedPi f s.pi, pp := framedPp f s.pp } = y := ⟨_, rfl⟩
    have hread := fun {u : State} => pendantRead_free (u := u) (y := y) hf hsel hmult hcounter hp hm hfl hen hc
      (by rw [hz, hy])
    have hysq : y.sq = s.sq := by rw [← hy, ← hz]; exact fall_sq ..
    have hypi : y.pi = framedPi f s.pi := by rw [← hy]
    have hyax : y.ax = s.ax := by rw [← hy, ← hz]; exact fall_ax ..
    have hypen : anyOwner y .pendant = false := by unfold anyOwner at hpen ⊢; rw [hyax]; exact hpen
    have hyarmed : y.pp.armed = s.pp.armed := by rw [← hy]; rfl
    have hyrest : Resting y := by
      rw [← hy, ← hz]
      have := (h.resting.fall (c := .pendantEnableMismatch) ⟨by decide, by decide⟩).framed
        (by unfold anyOwner at hpen ⊢; rw [fall_ax]; exact hpen) f (framedPp f s.pp)
      rw [fall_pi] at this
      exact this
    have hcalm : anyRaw s .hold = false → y = { s with pi := framedPi f s.pi, pp := framedPp f s.pp } := fun e => by
      rw [← hy, ← hz, fall_of_not_raw (not_raw (c := .pendantEnableMismatch) e rfl)]
    refine ⟨_, rfl, fun hs ho hh hst hrecs hcur hmach hhold hstop hhom hidle => ?start, fun hh ho hs hst hr => ?hold,
      fun hh hoh hs hos harmed hst hrecs hr hnone hmach hhold hstop htrip hraw hlen => ?both⟩
    case start =>
      have hyeq := hcalm hhold
      have hfirst := hread (deliverPress_not (pressed_of_not (b := (·.hold)) hh) y)
      rw [pressed_now (b := (·.start)) hs ho, Bool.true_and, hyarmed] at hfirst
      refine ⟨fun harmed => ?_, fun harmed => ?_⟩
      · obtain ⟨u, hu⟩ : ∃ u, queueReport (.queueState .running .idle none 0) { y with
          sq.st := .running, ax := y.ax.map fun _ k => if k.owner = .none then { k with owner := .queue } else k } = u :=
          ⟨_, rfl⟩
        obtain ⟨hsettle, hrest, hupen⟩ := pendantStart_idle hyrest (by rw [hysq]; exact hst) (by rw [hysq]; exact hrecs)
          (by rw [hysq]; exact hcur) (by rw [hyeq]; exact hmach) (by rw [hyeq]; exact hhold) (by rw [hyeq]; exact hstop)
          hypen (by rw [hyeq]; exact hhom) (by rw [hyeq]; exact hidle) hu
        rw [harmed, deliverPress_pressed rfl, hsettle] at hfirst
        obtain ⟨tsq, -, tax, -⟩ := finish_released hrest hupen f
        rw [hfirst, tsq, tax, ← hu, queueReport_sq, queueReport_ax]
        refine ⟨rfl, fun i hi => ?_⟩
        dsimp only
        rw [PerAxis.get_map, hyax, if_pos hi]
      · rw [harmed, deliverPress_not rfl] at hfirst
        obtain ⟨tsq, tpi, -, -⟩ := finish_released hyrest hypen f
        rw [hfirst, tsq, tpi, hysq, hypi]
        exact ⟨rfl, rfl⟩
    case hold =>
      obtain ⟨u, hu⟩ : ∃ u, holdPress y = u := ⟨_, rfl⟩
      have hyr : y.pi.r ≠ 0 := by rw [hypi]; exact hr
      obtain ⟨hsettle, hrest, hupen, hust, hupi⟩ := holdPress_moving hyrest (by rw [hysq]; exact hst) hyr hypen hu
      have hfirst := hread (u := u) (by rw [deliverPress_pressed (pressed_now (b := (·.hold)) hh ho), hu, hsettle])
      rw [pressed_of_not (b := (·.start)) hs, Bool.false_and, deliverPress_not rfl] at hfirst
      obtain ⟨tsq, tpi, -, -⟩ := finish_released hrest hupen f
      rw [hfirst, tsq, tpi, hust, hupi, hypi]
      exact ⟨rfl, rfl⟩
    case both =>
      have hyeq := hcalm hhold
      obtain ⟨r, v, hdisp, hsettle, hrest⟩ := holdPress_still hyrest (by rw [hysq]; exact hst) (by rw [hypi]; exact hr)
        (by rw [hysq]; exact hrecs) (by rw [hypi]; exact hnone) (by rw [hyeq]; exact hraw) hypen
      obtain ⟨x, hx⟩ : ∃ x, queueReport (.queueState .holding .running none 0) y = x := ⟨_, rfl⟩
      rw [hx] at hsettle
      obtain ⟨u, hu⟩ : ∃ u, queueReport (.queueState .held .holding none 0) (heldState x r v) = u := ⟨_, rfl⟩
      rw [hu] at hsettle
      rw [hsettle] at hrest
      have hxsq : x.sq = s.sq := by rw [← hx, queueReport_sq, hysq]
      have hxax : x.ax = s.ax := by rw [← hx, queueReport_ax, hyax]
      have hxcn : x.cn = s.cn := by rw [← hx, queueReport_cn, hyeq]
      have hxrq : x.rq = s.rq ++ [⟨.queueState .holding .running none 0, s.hlp.ms, 0⟩] := by
        rw [← hx, queueReport_rq_lt _ (by rw [hyeq]; show s.rq.length < 32; omega), hyeq]
      have hxhlp : x.hlp = s.hlp := by rw [← hx, queueReport_hlp, hyeq]
      have husq : u.sq = { s.sq with st := .held } := by
        rw [← hu, queueReport_sq]
        show { x.sq with st := .held } = _
        rw [hxsq]
      have hupi : u.pi.hold = some r := by rw [← hu, queueReport_pi]; rfl
      have huax : u.ax = s.ax := by rw [← hu, queueReport_ax]; exact hxax
      have hucn : u.cn = s.cn := by rw [← hu, queueReport_cn]; exact hxcn
      have hurq : u.rq = x.rq ++ [⟨.queueState .held .holding none 0, x.hlp.ms, 0⟩] := by
        rw [← hu, queueReport_rq_lt _ (by show x.rq.length < 32; rw [hxrq, List.length_append]; simp; omega)]
        rfl
      have huhlp : u.hlp = s.hlp := by rw [← hu, queueReport_hlp]; exact hxhlp
      have huarmed : u.pp.armed = true := by
        rw [← hu, queueReport_pp]
        show x.pp.armed = true
        rw [← hx, queueReport_pp, hyarmed]
        exact harmed
      have huraw : ∀ k, anyRaw u k = anyRaw s k := fun k => by
        unfold anyRaw rawOf condEntry
        rw [hucn]
      have hupen : anyOwner u .pendant = false := by unfold anyOwner at hpen ⊢; rw [huax]; exact hpen
      obtain ⟨w, hw⟩ : ∃ w, queueReport (.queueState .running .held none 0)
        { u with sq.st := .running, sq.waiting := false, pi.hold := none, pi.ret := none, pi.r := 0 } = w := ⟨_, rfl⟩
      obtain ⟨hstart, hwrest, hwpen⟩ := pendantStart_held hrest (by rw [husq]) (by rw [husq]; exact hrecs) hupi hdisp
        (by rw [hucn]; exact hmach) ((huraw _).trans hhold) ((huraw _).trans hstop) ((huraw _).trans htrip) hupen hw
      have hfirst := hread (u := u) (by rw [deliverPress_pressed (pressed_now (b := (·.hold)) hh hoh), hsettle])
      rw [pressed_now (b := (·.start)) hs hos, huarmed, Bool.and_true, deliverPress_pressed rfl, hstart] at hfirst
      obtain ⟨tsq, tpi, -, trq⟩ := finish_released hwrest hwpen f
      rw [hfirst, tsq, tpi, trq, ← hw, queueReport_sq, queueReport_pi,
        queueReport_rq_lt _ (by show u.rq.length < 32; rw [hurq, hxrq]; simp; omega)]
      refine ⟨rfl, rfl, ?_⟩
      show u.rq ++ [⟨.queueState .running .held none 0, u.hlp.ms, 0⟩] = _
      rw [hurq, hxrq, huhlp, hxhlp, List.append_assoc, List.append_assoc]
      rfl

end Sys2Proof.Machine
end

section
/-! SUPPORT. What no reaction short of a TRIP and no closing rule touches: the entries of the condition table that the loops of a path
period raise and let fall (R62, R63, R66), and, but for the ends of homings and jogs, which axes are REFERENCED, HOMING's
and the pendant's. `core` gathers it; `core_f` says that f keeps it. -/

namespace Sys2Proof.Machine

/-- An entry that a path period's loops raise and let fall (R62, R63, R66). -/
def loopCond : Cond → Bool
  | .followingError (.axis _) | .driveSaturated (.axis _) | .hardLimit _ => true
  | _ => false

/-- No other entry is one of the loops'. -/
@[simp] theorem loopCond_other :
    (loopCond .estopOpen = false ∧ loopCond .drivesNotReady = false ∧ loopCond (.followingError .spindle) = false ∧
      loopCond (.driveSaturated .spindle) = false ∧ loopCond .queueStarved = false ∧ loopCond .hydPressureLow = false) ∧
    ((∀ a, loopCond (.softLimit a) = false ∧ loopCond (.notReferenced a) = false ∧ loopCond (.referenceFailed a) = false) ∧
      ∀ c, loopCond (.clampFault c) = false ∧ loopCond (.clampLost c) = false) ∧
    (loopCond .gearShiftFailed = false ∧ loopCond .gearPositionLost = false ∧ loopCond .gearNotEngaged = false ∧
      loopCond .spindleDriveFault = false ∧ loopCond .spindleOverload = false ∧ loopCond .gearOilLow = false ∧
      loopCond .speedClamped = false ∧ loopCond .spindleNotTurning = false) ∧
    (loopCond .floodNotProven = false ∧ loopCond .tscPressureFault = false ∧ loopCond .tscFilterWarn = false ∧
      loopCond .tscFilterBlocked = false ∧ loopCond .coolantLevelLow = false) ∧
    loopCond .pendantLost = false ∧ loopCond .pendantEnableMismatch = false ∧ loopCond .handwheelClipped = false ∧
    loopCond .frameDiscarded = false ∧ loopCond .reportLost = false := by
  simp [loopCond]

/-- The entries of the loops in a condition table. -/
def loopTable (t : Vector CondEntry 62) (d : Cond) : Option CondEntry := if loopCond d then some t[d.index] else none

/-- Of an axis: REFERENCED, and whether HOMING or the pendant owns it. -/
def homedCh (k : AxisCh) : Bool × Bool × Bool := (k.refd, k.owner == .homing, k.owner == .pendant)

@[simp] theorem homedCh_mk (o sp pv en la r ph hv hr hf hs hx e ip ar ou sc p sn) :
    homedCh ⟨o, sp, pv, en, la, r, ph, hv, hr, hf, hs, hx, e, ip, ar, ou, sc, p, sn⟩ =
      (r, o == .homing, o == .pendant) := rfl

@[simp] theorem homedCh_fold (k : AxisCh) : (k.refd, k.owner == .homing, k.owner == .pendant) = homedCh k := rfl

/-- The entries of the loops, and which axes are REFERENCED, HOMING's and the pendant's. -/
def core (s : State) : (Cond → Option CondEntry) × PerAxis (Bool × Bool × Bool) :=
  (loopTable s.cn.table, s.ax.map fun _ k => homedCh k)

@[simp] theorem core_mk (p fr sq pi ax cs cc hs sgu cu pp inp am cn rq hlp) :
    core ⟨p, fr, sq, pi, ax, cs, cc, hs, sgu, cu, pp, inp, am, cn, rq, hlp⟩ =
      (loopTable cn.table, ax.map fun _ k => homedCh k) := rfl

@[simp] theorem core_fold (s : State) : (loopTable s.cn.table, s.ax.map fun _ k => homedCh k) = core s := rfl

theorem core_foldl {α : Type} (f : State → α → State) (h : ∀ s a, core (f s a) = core s) (l : List α) (s : State) :
    core (l.foldl f s) = core s := by
  induction l generalizing s with
  | nil => rfl
  | cons a l ih => rw [List.foldl_cons, ih, h]

@[simp] theorem core_updAx (a : Axis) {f : AxisCh → AxisCh} (h : ∀ k, homedCh (f k) = homedCh k) (s : State) :
    core (updAx a f s) = core s := by
  refine Prod.ext rfl (PerAxis.ext_get fun b => ?_)
  show ((s.ax.upd a f).map fun _ k => homedCh k).get b = (s.ax.map fun _ k => homedCh k).get b
  rw [PerAxis.get_map, PerAxis.get_map, PerAxis.get_upd]
  split
  · exact h _
  · rfl

@[simp] theorem core_mapAx {f : Axis → AxisCh → AxisCh} (h : ∀ a k, homedCh (f a k) = homedCh k) (s : State) :
    core (mapAx f s) = core s := by
  refine Prod.ext rfl (PerAxis.ext_get fun b => ?_)
  show ((s.ax.map f).map fun _ k => homedCh k).get b = (s.ax.map fun _ k => homedCh k).get b
  rw [PerAxis.get_map, PerAxis.get_map, PerAxis.get_map, h]

@[simp] theorem core_updClamp (c : ClampAxis) (f : Clamp → Clamp) (s : State) : core (updClamp c f s) = core s := rfl

@[simp] theorem core_updJog (a : Axis) (f : Jog → Jog) (s : State) : core (updJog a f s) = core s := rfl

theorem core_updCond {c : Cond} (hc : loopCond c = false) (f : CondEntry → CondEntry) (s : State) :
    core (updCond c f s) = core s := by
  refine Prod.ext (funext fun d => ?_) rfl
  show (if loopCond d then some (condEntry (updCond c f s) d) else none) = if loopCond d then some (condEntry s d) else none
  split
  next hd =>
    rw [condEntry_updCond, if_neg]
    rintro rfl
    rw [hc] at hd
    cases hd
  next => rfl

@[simp] theorem core_queueReport (k : Report) (s : State) : core (queueReport k s) = core s := by
  unfold queueReport; split <;> rfl

@[simp] theorem core_latch {c : Cond} (hc : loopCond c = false) (q : Nat) (v : Int) (s : State) :
    core (latch c q v s) = core s := (core_queueReport ..).trans (core_updCond hc ..)

@[simp] theorem core_setRaw {c : Cond} (hc : loopCond c = false) (b : Bool) (s : State) :
    core (setRaw c b s) = core s := core_updCond hc ..

@[simp] theorem core_fall {c : Cond} (hc : loopCond c = false) (s : State) :
    core (fall c s) = core s := by unfold fall; split <;> simp [hc]

@[simp] theorem core_riseNote {c : Cond} (hc : loopCond c = false) (seq : Nat) (value : Int) (s : State) :
    core (riseNote c seq value s) = core s := by unfold riseNote; split <;> simp [hc]

@[simp] theorem core_levelNote {c : Cond} (hc : loopCond c = false) (cause : Bool) (seq : Nat) (value : Int) (s : State) :
    core (levelNote c cause seq value s) = core s := by unfold levelNote; split <;> simp [hc]

@[simp] theorem core_setQState (q : QState) (s : State) :
    core (setQState q s) = core s := by unfold setQState; (repeat' split) <;> simp

@[simp] theorem core_sqHold (s : State) :
    core (sqHold s) = core s := by unfold sqHold; split <;> simp

@[simp] theorem core_endJog (step : EndStep) (a : Axis) (s : State) :
    core (endJog step a s) = core s := rfl

@[simp] theorem core_endAllJogs (step : EndStep) (s : State) :
    core (endAllJogs step s) = core s := rfl

@[simp] theorem core_raiseHold {c : Cond} (hc : loopCond c = false) (seq : Nat) (value : Int) (s : State) :
    core (raiseHold c seq value s) = core s := by unfold raiseHold; split <;> simp [hc]

@[simp] theorem core_riseHold {c : Cond} (hc : loopCond c = false) (seq : Nat) (value : Int) (s : State) :
    core (riseHold c seq value s) = core s := by unfold riseHold; split <;> simp [hc]

@[simp] theorem core_hydJoin (who : Requester) (op : HydOp) (s : State) :
    core (hydJoin who op s) = core s := rfl

@[simp] theorem core_hydWithdraw (who : Requester) (s : State) :
    core (hydWithdraw who s) = core s := rfl

@[simp] theorem core_hydReturn (who : Requester) (s : State) :
    core (hydReturn who s) = core s := by unfold hydReturn; (repeat' split) <;> simp

@[simp] theorem core_releaseNeed (c : ClampAxis) (s : State) :
    core (releaseNeed c s) = core s := by unfold releaseNeed; (repeat' split) <;> simp

@[simp] theorem core_clampNeed (c : ClampAxis) (s : State) :
    core (clampNeed c s) = core s := by unfold clampNeed; (repeat' split) <;> simp

@[simp] theorem core_startClampOp (c : ClampAxis) (s : State) :
    core (startClampOp c s) = core s := by unfold startClampOp; split <;> simp

@[simp] theorem core_releaseDone (c : ClampAxis) (s : State) :
    core (releaseDone c s) = core s := by unfold releaseDone; split <;> simp

@[simp] theorem core_clampDone (c : ClampAxis) (s : State) :
    core (clampDone c s) = core s := by unfold clampDone; split <;> simp

@[simp] theorem core_pumpStop (s : State) :
    core (pumpStop s) = core s := by simp [pumpStop]

@[simp] theorem core_setSpindle (st : SpindleState) (s : State) :
    core (setSpindle st s) = core s := by unfold setSpindle; split <;> simp

@[simp] theorem core_spindleOff (s : State) :
    core (spindleOff s) = core s := by simp [spindleOff]

@[simp] theorem core_spindleStart (s : State) :
    core (spindleStart s) = core s := by simp [spindleStart]

@[simp] theorem core_retarget (s : State) :
    core (retarget s) = core s := by unfold retarget; dsimp only; (repeat' split) <;> simp

@[simp] theorem core_spindleStopSpeed (s : State) :
    core (spindleStopSpeed s) = core s := by simp [spindleStopSpeed]

@[simp] theorem core_speedCommand (speed : Nat) (dir : Dir) (seq : Nat) (s : State) :
    core (speedCommand speed dir seq s) = core s := by unfold speedCommand; dsimp only; (repeat' split) <;> simp

@[simp] theorem core_leaveEngaged (s : State) :
    core (leaveEngaged s) = core s := by unfold leaveEngaged; split <;> simp

@[simp] theorem core_gearAfterAbandon (s : State) :
    core (gearAfterAbandon s) = core s := by unfold gearAfterAbandon; split <;> simp

@[simp] theorem core_stopShiftTimers (s : State) :
    core (stopShiftTimers s) = core s := rfl

@[simp] theorem core_shiftTeardown (s : State) :
    core (shiftTeardown s) = core s := by unfold shiftTeardown; dsimp only; split <;> simp

@[simp] theorem core_abortReport (h : Shift) (s : State) :
    core (abortReport h s) = core s := by simp [abortReport]

@[simp] theorem core_abandonShift (s : State) :
    core (abandonShift s) = core s := by unfold abandonShift; (repeat' split) <;> simp

@[simp] theorem core_floodFault (cause : Int) (s : State) :
    core (floodFault cause s) = core s := by simp [floodFault]

@[simp] theorem core_floodFresh (s : State) :
    core (floodFresh s) = core s := by unfold floodFresh; (repeat' split) <;> simp

@[simp] theorem core_floodOff (s : State) :
    core (floodOff s) = core s := rfl

@[simp] theorem core_tscFaultEntry (s : State) :
    core (tscFaultEntry s) = core s := rfl

@[simp] theorem core_tscFault (cause : Int) (s : State) :
    core (tscFault cause s) = core s := by simp [tscFault]

@[simp] theorem core_tscDryStart (s : State) :
    core (tscDryStart s) = core s := by unfold tscDryStart; split <;> simp

@[simp] theorem core_tscDryEntry (s : State) :
    core (tscDryEntry s) = core s := by unfold tscDryEntry; split <;> simp

@[simp] theorem core_tscRamp (s : State) :
    core (tscRamp s) = core s := by unfold tscRamp; split <;> simp

@[simp] theorem core_tscWait (s : State) :
    core (tscWait s) = core s := rfl

@[simp] theorem core_tscFromOff (s : State) :
    core (tscFromOff s) = core s := by unfold tscFromOff; (repeat' split) <;> simp

@[simp] theorem core_tscFresh (s : State) :
    core (tscFresh s) = core s := by unfold tscFresh; (repeat' split) <;> simp

@[simp] theorem core_tscPurge (s : State) :
    core (tscPurge s) = core s := rfl

@[simp] theorem core_tscOff (s : State) :
    core (tscOff s) = core s := by unfold tscOff; (repeat' split) <;> simp

@[simp] theorem core_tscSuspend (s : State) :
    core (tscSuspend s) = core s := rfl

@[simp] theorem core_tscResume (s : State) :
    core (tscResume s) = core s := by unfold tscResume; (repeat' split) <;> simp

@[simp] theorem core_setPressure (p : Nat) (s : State) :
    core (setPressure p s) = core s := by unfold setPressure; (repeat' split) <;> simp

@[simp] theorem core_purgeDone (s : State) :
    core (purgeDone s) = core s := by unfold purgeDone; (repeat' split) <;> simp

@[simp] theorem core_writeFlood (d : Dem) (s : State) :
    core (writeFlood d s) = core s := by unfold writeFlood; split <;> simp

@[simp] theorem core_writeTsc (d : Dem) (s : State) :
    core (writeTsc d s) = core s := by unfold writeTsc; split <;> simp

@[simp] theorem core_writeMist (d : Dem) (s : State) :
    core (writeMist d s) = core s := by unfold writeMist; split <;> simp

@[simp] theorem core_coolantWrite (flood tsc mist : Dem) (pressure : Option Nat) (s : State) :
    core (coolantWrite flood tsc mist pressure s) = core s := by unfold coolantWrite; split <;> simp

@[simp] theorem core_coolantAllOff (s : State) :
    core (coolantAllOff s) = core s := by simp [coolantAllOff]

@[simp] theorem core_flowEval (s : State) :
    core (flowEval s) = core s := by unfold flowEval; (repeat' split) <;> simp

@[simp] theorem core_drainTest (s : State) :
    core (drainTest s) = core s := by unfold drainTest; split <;> simp

@[simp] theorem core_dropQueueOwners (s : State) :
    core (dropQueueOwners s) = core s := by
  have h : ∀ k : AxisCh, homedCh (if k.owner = .queue then { k with owner := .none } else k) = homedCh k := fun k => by
    split
    next e => simp [homedCh, e]
    next => rfl
  simp [dropQueueOwners, h]

@[simp] theorem core_clearRecords (s : State) :
    core (clearRecords s) = core s := rfl

@[simp] theorem core_piDrop (s : State) :
    core (piDrop s) = core s := rfl

@[simp] theorem core_flushIdle (s : State) :
    core (flushIdle s) = core s := by simp [flushIdle]

@[simp] theorem core_sqStop (s : State) :
    core (sqStop s) = core s := by unfold sqStop; dsimp only; (repeat' split) <;> simp

@[simp] theorem core_homeFail (a : Axis) (r : HomeReason) (s : State) :
    core (homeFail a r s) = core s :=
  core_updAx a (f := fun k => { k with hFail := some (homeReason s a r, k.phase), phase := .ending }) (fun _ => rfl) s

@[simp] theorem core_homeAbort (s : State) (a : Axis) :
    core (homeAbort s a) = core s := by unfold homeAbort; split <;> simp

@[simp] theorem core_stopDeliveries (s : State) :
    core (stopDeliveries s) = core s := by simp [stopDeliveries, core_foldl]

@[simp] theorem core_reactStop (s : State) :
    core (reactStop s) = core s := by unfold reactStop; split <;> simp

@[simp] theorem core_raiseStop {c : Cond} (hc : loopCond c = false) (seq : Nat) (value : Int) (s : State) :
    core (raiseStop c seq value s) = core s := by simp [raiseStop, hc]

@[simp] theorem core_riseStop {c : Cond} (hc : loopCond c = false) (seq : Nat) (value : Int) (s : State) :
    core (riseStop c seq value s) = core s := by unfold riseStop; split <;> simp [hc]

@[simp] theorem core_moveNeed (c : ClampAxis) (seq : Nat) (s : State) :
    core (moveNeed c seq s) = core s := by unfold moveNeed; split <;> simp

@[simp] theorem core_axisNeed (a : Axis) (seq : Nat) (s : State) :
    core (axisNeed a seq s) = core s := by unfold axisNeed; split <;> simp

@[simp] theorem core_supplyLow (cause : Int) (s : State) :
    core (supplyLow cause s) = core s := by simp [supplyLow]

@[simp] theorem core_updShift (f : Shift → Shift) (s : State) :
    core (updShift f s) = core s := rfl

@[simp] theorem core_enterPositioning (s : State) :
    core (enterPositioning s) = core s := by unfold enterPositioning; split <;> simp

@[simp] theorem core_positionTo (t : Int) (s : State) :
    core (positionTo t s) = core s := by simp [positionTo]

@[simp] theorem core_positionHold (s : State) :
    core (positionHold s) = core s := rfl

@[simp] theorem core_strokeWait (s : State) :
    core (strokeWait s) = core s := rfl

@[simp] theorem core_beginStroke (c : Cyl) (s : State) :
    core (beginStroke c s) = core s := by unfold beginStroke; dsimp only; (repeat' split) <;> simp

@[simp] theorem core_enterSettling (s : State) :
    core (enterSettling s) = core s := rfl

@[simp] theorem core_chooseStroke (s : State) :
    core (chooseStroke s) = core s := by unfold chooseStroke; (repeat' split) <;> simp

@[simp] theorem core_nextAttempt (s : State) :
    core (nextAttempt s) = core s := by unfold nextAttempt; split <;> simp

@[simp] theorem core_enterMeshing (s : State) :
    core (enterMeshing s) = core s := by unfold enterMeshing; (repeat' split) <;> simp

@[simp] theorem core_strokeGranted (s : State) :
    core (strokeGranted s) = core s := by unfold strokeGranted; (repeat' split) <;> simp

@[simp] theorem core_applyMiss (s : State) :
    core (applyMiss s) = core s := by unfold applyMiss; (repeat' split) <;> simp

@[simp] theorem core_applyLearn (s : State) :
    core (applyLearn s) = core s := by unfold applyLearn; (repeat' split) <;> simp

@[simp] theorem core_strokeSuccess (s : State) :
    core (strokeSuccess s) = core s := by unfold strokeSuccess; (repeat' split) <;> simp

@[simp] theorem core_shiftFailSteps (s : State) :
    core (shiftFailSteps s) = core s := by unfold shiftFailSteps; dsimp only; split <;> simp

@[simp] theorem core_shiftFail (r : ShiftReason) (s : State) :
    core (shiftFail r s) = core s := by unfold shiftFail; split <;> simp

@[simp] theorem core_shiftSuccess (s : State) :
    core (shiftSuccess s) = core s := by unfold shiftSuccess; dsimp only; (repeat' split) <;> simp

@[simp] theorem core_lateDisengage (c : Cyl) (s : State) :
    core (lateDisengage c s) = core s := by unfold lateDisengage; (repeat' split) <;> simp

theorem core_settleTest (s : State) {t : State}
    (h : settleTest s = some t) : core t = core s := by
  revert h; unfold settleTest; (repeat' split) <;> intro h <;> simp at h <;> subst h <;> simp

@[simp] theorem core_startShift (r : Range) (origin : Nat) (s : State) :
    core (startShift r origin s) = core s := by unfold startShift; dsimp only; split <;> simp

@[simp] theorem core_completeHead (s : State) :
    core (completeHead s) = core s := by unfold completeHead; split <;> simp

@[simp] theorem core_completeEndMark (s : State) :
    core (completeEndMark s) = core s := by unfold completeEndMark; split <;> simp

@[simp] theorem core_startMove (m : MoveRec) (s : State) :
    core (startMove m s) = core s := rfl

@[simp] theorem core_moveStep4 (q : Nat) (m : MoveRec) (s : State) :
    core (moveStep4 q m s) = core s := by unfold moveStep4; split <;> simp

@[simp] theorem core_moveNeeds (q : Nat) (m : MoveRec) (s : State) :
    core (moveNeeds q m s) = core s := by unfold moveNeeds; simp [apply_ite core, core_foldl]

@[simp] theorem core_moveChecks (q : Nat) (m : MoveRec) (s : State) :
    core (moveChecks q m s) = core s := by unfold moveChecks; dsimp only; (repeat' split) <;> simp

@[simp] theorem core_spindleRecord (r : QRec) (speed : Nat) (dir : Dir) (wait : Bool) (s : State) :
    core (spindleRecord r speed dir wait s) = core s := by unfold spindleRecord; dsimp only; (repeat' split) <;> simp

@[simp] theorem core_gearHand (q : Nat) (r : Range) (s : State) :
    core (gearHand q r s) = core s := by unfold gearHand; split <;> simp

@[simp] theorem core_clampAction (c : ClampAxis) (clamp : Bool) (s : State) :
    core (clampAction c clamp s) = core s := by unfold clampAction; split <;> simp

@[simp] theorem core_dispatchHead (s : State) :
    core (dispatchHead s) = core s := by
  unfold dispatchHead
  split
  · rfl
  · dsimp only
    split <;> (try split) <;> simp

theorem core_recordStep (s : State) {t : State}
    (h : recordStep s = some t) : core t = core s := by
  revert h; unfold recordStep; (repeat' split) <;> intro h <;> simp at h <;> subst h <;> simp

@[simp] theorem core_becomeHeld (s : State) :
    core (becomeHeld s) = core s := core_setQState .held s

@[simp] theorem core_resumeRun (s : State) :
    core (resumeRun s) = core s := by
  have h : ∀ (sq : SegQueue) (pi : PathInt), core { setQState .running s with sq := sq, pi := pi } = core s :=
    fun _ _ => core_setQState .running s
  unfold resumeRun
  dsimp only
  split
  · rw [core_moveChecks, h]
  · exact h _ _

theorem core_dispatchPassed (n : Nat) (s : State) : core (dispatchPassed n s) = core s := by
  induction n generalizing s with
  | zero => rfl
  | succ n ih =>
    unfold dispatchPassed
    (repeat' split) <;> simp [ih]

theorem core_grantRule (s : State) {t : State}
    (h : grantRule s = some t) : core t = core s := by
  revert h; unfold grantRule; (repeat' split) <;> intro h <;> simp at h <;> subst h <;> simp

theorem core_clampRule (s : State) (c : ClampAxis) {t : State}
    (h : clampRule s c = some t) : core t = core s := by
  revert h; unfold clampRule; dsimp only; (repeat' split) <;> intro h <;> simp at h <;> subst h <;> simp

theorem core_pumpRule (s : State) {t : State}
    (h : pumpRule s = some t) : core t = core s := by
  revert h; unfold pumpRule; (repeat' split) <;> intro h <;> simp at h <;> subst h <;> simp

theorem core_supplyRule (s : State) {t : State}
    (h : supplyRule s = some t) : core t = core s := by
  revert h; unfold supplyRule; (repeat' split) <;> intro h <;> simp at h <;> subst h <;> simp

theorem core_spindleRule (s : State) {t : State}
    (h : spindleRule s = some t) : core t = core s := by
  revert h; unfold spindleRule; (repeat' split) <;> intro h <;> simp at h <;> subst h <;> simp

theorem core_engagedRule (s : State) {t : State}
    (h : engagedRule s = some t) : core t = core s := by
  revert h; unfold engagedRule; (repeat' split) <;> intro h <;> simp at h <;> subst h <;> simp

theorem core_levelRule {c : Cond} (hc : loopCond c = false) (cause : Bool) (value : Int) (s : State) {t : State}
    (h : levelRule c cause value s = some t) : core t = core s := by
  revert h; unfold levelRule; (repeat' split) <;> intro h <;> simp at h <;> subst h <;> simp [hc]

theorem core_overloadRule (s : State) {t : State}
    (h : overloadRule s = some t) : core t = core s := by
  revert h; unfold overloadRule; split <;> intro h <;> simp at h; subst h; simp

theorem core_shiftRule (s : State) {t : State}
    (h : shiftRule s = some t) : core t = core s := by
  revert h; unfold shiftRule; (repeat' split) <;> intro h <;>
    first | exact core_settleTest s h | (injection h with h; subst h; simp; done) | cases h

theorem core_floodRule (s : State) {t : State}
    (h : floodRule s = some t) : core t = core s := by
  revert h; unfold floodRule; (repeat' split) <;> intro h <;> simp at h; subst h; simp

theorem core_tscRule (s : State) {t : State}
    (h : tscRule s = some t) : core t = core s := by
  revert h; unfold tscRule; (repeat' split) <;> intro h <;> simp at h <;> subst h <;> simp

theorem marks_giveBackRule (s : State) (a : Axis) {t : State}
    (h : giveBackRule s a = some t) : (core t).1 = (core s).1 := by
  revert h; unfold giveBackRule; dsimp only; split <;> intro h <;> simp at h; subst h; rfl

theorem marks_homeReport (s : State) (a : Axis) : (core (homeReport s a)).1 = (core s).1 := by
  unfold homeReport
  split
  · rw [core_queueReport, core_latch (by simp)]; rfl
  · rfl

theorem marks_homeRule (s : State) (a : Axis) {t : State}
    (h : homeRule s a = some t) : (core t).1 = (core s).1 := by
  revert h; unfold homeRule; dsimp only; (repeat' split) <;> intro h <;> simp at h <;> subst h
  · rfl
  · exact (marks_homeReport ..).trans rfl

theorem core_queueRule (s : State) {t : State}
    (h : queueRule s = some t) : core t = core s := by
  revert h; unfold queueRule; split
  · rename_i s1 h1; intro h; injection h with h; subst h; exact core_recordStep s h1
  · (repeat' split) <;> intro h <;> first | (injection h with h; subst h; simp; done) | cases h

theorem core_machineRule (s : State) {t : State}
    (h : machineRule s = some t) : core t = core s := by
  revert h; unfold machineRule; split <;> intro h <;> simp at h; subst h; simp

@[simp] theorem core_tscGuard (s : State) :
    core (tscGuard s) = core s := by unfold tscGuard; split <;> simp

/-- The entries of the loops after a closing rule. -/
theorem marks_rules (s : State) {t : State} (h : rules s = some t) : (core t).1 = (core s).1 := by
  unfold rules at h
  repeat' (first | (rcases or_some h with h | h; clear * - h))
  all_goals first
    | exact congrArg Prod.fst (core_levelRule (by simp) _ _ _ h)
    | exact congrArg Prod.fst (core_engagedRule _ h)
    | exact congrArg Prod.fst (core_overloadRule _ h)
    | exact congrArg Prod.fst (core_grantRule _ h)
    | exact congrArg Prod.fst (core_clampRule _ _ h)
    | exact congrArg Prod.fst (core_spindleRule _ h)
    | exact congrArg Prod.fst (core_shiftRule _ h)
    | exact congrArg Prod.fst (core_floodRule _ h)
    | exact congrArg Prod.fst (core_tscRule _ h)
    | exact marks_homeRule _ _ h
    | exact marks_giveBackRule _ _ h
    | exact congrArg Prod.fst (core_queueRule _ h)
    | exact congrArg Prod.fst (core_pumpRule _ h)
    | exact congrArg Prod.fst (core_supplyRule _ h)
    | exact congrArg Prod.fst (core_machineRule _ h)

theorem marks_settle (n : Nat) (s : State) : (core (settle n s)).1 = (core s).1 := by
  induction n generalizing s with
  | zero => rfl
  | succ n ih =>
    unfold settle
    split
    · rename_i t h
      rw [ih, marks_rules s h]
    · rfl

/-- The entries of the loops stand as they are at the end of an event. -/
theorem marks_finish (s : State) : (core (finish s)).1 = (core s).1 := by
  have hsend : ∀ u : State, (core (pendantSend u)).1 = (core u).1 := fun u => by
    unfold pendantSend; (repeat' split) <;> rfl
  have htx : ∀ u : State, (core (transmit u)).1 = (core u).1 := fun u => by
    unfold transmit; (repeat' split) <;> rfl
  unfold finish quiesce
  rw [htx, hsend, core_tscGuard, marks_settle]

theorem condEntry_finish {c : Cond} (hc : loopCond c = true) (s : State) : condEntry (finish s) c = condEntry s c := by
  have h := congrFun (marks_finish s) c
  simp only [core, loopTable, hc, if_true, Option.some.injEq] at h
  exact h

end Sys2Proof.Machine
end

section
/-! SUPPORT. What PI's work and the owners' setpoints leave of a path period: the entries of the loops, which axes are
REFERENCED and HOMING's, and of every channel all but its setpoint (R31, R44, R57). -/

namespace Sys2Proof.Machine

/-! ## PI's work (R31) -/

/-- What PI's work leaves of an axis channel. -/
def laneCh (k : AxisCh) : Int × Int × Int × Int × Nat × AxisParams := (k.prev, k.enc, k.e, k.out, k.satCount, k.p)

theorem laneCh_of_kept {k n : AxisCh} (h : keptCh k = keptCh n) : laneCh k = laneCh n := by
  simp only [keptCh, Prod.mk.injEq] at h
  simp [laneCh, h]

/-- The entries of the loops, what a homing decides of the axes, and what PI leaves of their channels. -/
def guide (s : State) := (core s, s.ax.map fun _ k => laneCh k)

theorem guide_of {s t : State} (hc : core t = core s) (hs : steady t = steady s) : guide t = guide s := by
  refine Prod.ext hc (PerAxis.ext_get fun a => ?_)
  have ha : (keptAx t.ax).get a = (keptAx s.ax).get a := congrArg (fun v => v.ax.get a) hs
  rw [keptAx, keptAx, PerAxis.get_map, PerAxis.get_map] at ha
  show (t.ax.map fun _ k => laneCh k).get a = (s.ax.map fun _ k => laneCh k).get a
  rw [PerAxis.get_map, PerAxis.get_map, laneCh_of_kept ha]

/-- The guide reads the condition table and the axis channels only. -/
theorem guide_fold {s t : State} (hcn : t.cn.table = s.cn.table) (hax : t.ax = s.ax) : guide t = guide s := by
  unfold guide core; rw [hcn, hax]

theorem guide_giveSetpoint (a : Axis) (z : Int) (s : State) : guide (giveSetpoint a z s) = guide s := by
  unfold giveSetpoint
  split
  · refine Prod.ext (core_updAx a (f := givenCh z) (fun _ => rfl) s) (PerAxis.ext_get fun b => ?_)
    show ((s.ax.upd a (givenCh z)).map fun _ k => laneCh k).get b = (s.ax.map fun _ k => laneCh k).get b
    rw [PerAxis.get_map, PerAxis.get_map, PerAxis.get_upd]
    split <;> rfl
  · rfl

theorem guide_giveMove (n p : Nat) (legs : List Leg) (s : State) : guide (giveMove n p legs s) = guide s := by
  unfold giveMove
  induction legs generalizing s with
  | nil => rfl
  | cons l ls ih => rw [List.foldl_cons, ih, guide_giveSetpoint]

theorem guide_advanceMove (fuel : Nat) (m : ActiveMove) (p r : Nat) (s : State) :
    guide (advanceMove fuel m p r s) = guide s := by
  have hcarry : ∀ u : State, guide (dispatchPassed 64 (completeHead u)) = guide u := fun u =>
    guide_of ((core_dispatchPassed ..).trans (core_completeHead u)) ((steady_dispatchPassed ..).trans (steady_completeHead u))
  have hend : ∀ u : State, guide (completeHead (fall .queueStarved u)) = guide u := fun u =>
    guide_of ((core_completeHead _).trans (core_fall (by simp) u)) ((steady_completeHead _).trans (steady_fall ..))
  have hstop : ∀ (c : Cond) (q : Nat) (v : Int) (u : State), loopCond c = false → guide (raiseStop c q v u) = guide u :=
    fun c q v u hc => guide_of (core_raiseStop hc ..) (steady_raiseStop ..)
  have hhold : ∀ (c : Cond) (q : Nat) (v : Int) (u : State), loopCond c = false → guide (raiseHold c q v u) = guide u :=
    fun c q v u hc => guide_of (core_raiseHold hc ..) (steady_raiseHold ..)
  induction fuel generalizing m p s with
  | zero => rfl
  | succ n ih =>
    have hgive : ∀ v, guide { giveMove m.n (m.n * 65536) m.legs s with pi := v } = guide s := fun _ =>
      guide_giveMove m.n (m.n * 65536) m.legs s
    have hgo : guide (dispatchPassed 64 (completeHead { giveMove m.n (m.n * 65536) m.legs s with pi.r := r })) = guide s :=
      (hcarry _).trans (hgive _)
    unfold advanceMove
    dsimp only
    generalize dispatchPassed 64 (completeHead { giveMove m.n (m.n * 65536) m.legs s with pi.r := r }) = x at hgo ⊢
    split
    · exact guide_giveMove ..
    · split
      · split
        · split
          · split
            · split
              · exact (hstop _ _ _ _ (by simp)).trans hgo
              · split
                · exact (hstop _ _ _ _ (by simp)).trans hgo
                · split
                  · exact (hhold _ _ _ _ (by simp)).trans hgo
                  · exact (ih ..).trans hgo
            · exact hgo
          · exact hgo
        · exact (hend _).trans (hgive _)
      · exact (hend _).trans (hgive _)

theorem guide_advanceReturn (m : ActiveMove) (p r : Nat) (s : State) : guide (advanceReturn m p r s) = guide s := by
  unfold advanceReturn
  dsimp only
  split
  · exact guide_giveMove ..
  · split
    · exact (guide_of (core_resumeRun _) (steady_resumeRun _)).trans (guide_giveMove ..)
    · exact guide_giveMove ..

/-- PI's work leaves the guide. -/
theorem guide_pathWork (s : State) : guide (pathWork s) = guide s := by
  have hstarved : ∀ (b c : Bool) (r z : Nat) (u : State), guide (starvedTest b c r z u) = guide u := fun b c r z u => by
    unfold starvedTest
    split
    · exact guide_of (core_riseNote (by simp) ..) (steady_riseNote ..)
    · split
      · exact guide_of (core_fall (by simp) u) (steady_fall ..)
      · rfl
  have hmove : ∀ (m : ActiveMove) (b : Bool) (rem : Nat) (real : Bool), guide (moveWork m b rem real s) = guide s :=
    fun m b rem real => by
      unfold moveWork
      dsimp only
      split
      · exact (guide_advanceReturn ..).trans (hstarved ..)
      · exact (guide_advanceMove ..).trans (hstarved ..)
  unfold pathWork
  split
  · split
    · exact hmove ..
    · exact hmove ..
    · unfold dwellCount
      (repeat' split) <;> rfl
  · rfl

/-! ## The setpoints of a path period -/

/-- The state with the setpoints is the given one but for PI's own work, the banks' step, and the setpoints. -/
structure Guided (s w : State) : Prop where
  banks : w.cs = s.cs.map fun a b => compStep b (s.ax.get a).refd (s.ax.get a).prev
  inputs : w.inp = s.inp
  analog : w.am = s.am
  link : w.hlp = s.hlp
  tripped : w.cn.machine = .tripped ↔ s.cn.machine = .tripped
  entries : ∀ c, loopCond c = true → condEntry w c = condEntry s c
  params : ∀ a, (w.ax.get a).p = (s.ax.get a).p ∧ (w.ax.get a).satCount = (s.ax.get a).satCount
  followed : s.cn.machine = .tripped → ∀ a, (w.ax.get a).enc = (s.ax.get a).enc ∧
    (w.ax.get a).setpoint = (s.ax.get a).enc - (w.cs.get a).c
  given : s.cn.machine ≠ .tripped → ∀ a, (s.ax.get a).owner ≠ .homing →
    (w.ax.get a).enc = (s.ax.get a).enc ∧ (w.ax.get a).prev = (s.ax.get a).prev

theorem givenCh_place (s : State) (k : AxisCh) (j : Jog) :
    (jogCh s k j).enc = k.enc ∧ (jogCh s k j).prev = k.prev := by
  unfold jogCh; split <;> exact ⟨rfl, rfl⟩

theorem ownerCh_place {s : State} (h : s.cn.machine ≠ .tripped) {a : Axis} {k : AxisCh} (hk : k.owner ≠ .homing)
    (j : Jog) : (ownerCh s a k j).enc = k.enc ∧ (ownerCh s a k j).prev = k.prev := by
  rw [ownerCh, if_neg h, if_neg hk]
  split
  · exact givenCh_place ..
  · exact ⟨rfl, rfl⟩

/-- The setpoints of a path period. -/
theorem guided_periodSetpoints (s : State) : Guided s (periodSetpoints s) := by
  have hguide := guide_pathWork s
  have hside : aside (pathWork s) = aside s := by simp
  have htrip := (tame_pathWork (tame_refl s)).machine
  rw [periodSetpoints_eq]
  generalize pathWork s = x at hguide hside htrip
  simp only [aside, Prod.mk.injEq] at hside
  obtain ⟨-, hcs, hinp, ham, hhlp⟩ := hside
  simp only [guide, core, Prod.mk.injEq] at hguide
  obtain ⟨⟨htable, hhomed⟩, hlane⟩ := hguide
  have hhomed : ∀ a, homedCh (x.ax.get a) = homedCh (s.ax.get a) := fun a => by
    simpa only [PerAxis.get_map] using congrArg (fun v => v.get a) hhomed
  have hlane : ∀ a, laneCh (x.ax.get a) = laneCh (s.ax.get a) := fun a => by
    simpa only [PerAxis.get_map] using congrArg (fun v => v.get a) hlane
  simp only [homedCh, laneCh, Prod.mk.injEq] at hhomed hlane
  have hfix : ∀ a, fixedCh ((owned (compWork x)).ax.get a) = fixedCh (x.ax.get a) := fun a => by
    rw [owned_ax]; exact fixedCh_ownerCh ..
  simp only [fixedCh, Prod.mk.injEq] at hfix
  refine ⟨PerAxis.ext_get fun a => ?_, hinp, ham, hhlp, htrip, fun c hc => ?_, fun a => ⟨?_, ?_⟩, fun hm a => ?_,
    fun hm a ho => ?_⟩
  · show ((x.cs.map fun a b => compStep b (x.ax.get a).refd (x.ax.get a).prev)).get a = _
    rw [PerAxis.get_map, PerAxis.get_map, hcs, (hhomed a).1, (hlane a).1]
  · have h := congrFun htable c
    simp only [loopTable, hc, if_true, Option.some.injEq] at h
    exact h
  · rw [(hfix a).1, (hlane a).2.2.2.2.2]
  · rw [(hfix a).2.2.2.2.1, (hlane a).2.2.2.2.1]
  · rw [owned_ax, ownerCh_of_tripped (by exact htrip.2 hm)]
    exact ⟨(hlane a).2.1, congrArg (· - _) (hlane a).2.1⟩
  · have hox : (x.ax.get a).owner ≠ .homing := fun e => by
      have h := (hhomed a).2.1
      rw [e] at h
      exact ho (by simpa using h.symm)
    obtain ⟨henc, hprev⟩ := ownerCh_place (s := compWork x) (by exact fun e => hm (htrip.1 e)) (a := a) hox
      (x.pp.jogs.get a)
    rw [owned_ax]
    exact ⟨henc.trans (hlane a).2.1, hprev.trans (hlane a).1⟩

end Sys2Proof.Machine
end

section
/-! SUPPORT. What the checks behind the loops of a path period leave of the axis channels and of the entries of the loops
(R62 to R66, R72, R110, R122), and what a TRIP leaves of a channel (R62, R200). -/

namespace Sys2Proof.Machine

theorem keptCh_of_steady {s t : State} (h : steady t = steady s) (a : Axis) :
    keptCh (t.ax.get a) = keptCh (s.ax.get a) := by
  have ha : (keptAx t.ax).get a = (keptAx s.ax).get a := congrArg (fun v => v.ax.get a) h
  rwa [keptAx, keptAx, PerAxis.get_map, PerAxis.get_map] at ha

theorem condEntry_of_core {s t : State} (h : (core t).1 = (core s).1) {d : Cond} (hd : loopCond d = true) :
    condEntry t d = condEntry s d := by
  have h := congrFun h d
  simp only [core, loopTable, hd, if_true, Option.some.injEq] at h
  exact h

theorem pendant_of_core {s t : State} (h : (core t).2 = (core s).2) (a : Axis) :
    (t.ax.get a).owner = .pendant ↔ (s.ax.get a).owner = .pendant := by
  have h := congrArg (fun v => (v.get a).2.2) h
  simp only [core, PerAxis.get_map, homedCh] at h
  rw [← beq_iff_eq, h, beq_iff_eq]

/-! ## HARD_LIMIT (R66) -/

/-- The entries of the loops after a STOP entry's rise (R194, R195). -/
theorem condEntry_riseStop (c : Cond) (q : Nat) (v : Int) (s : State) {d : Cond} (hd : loopCond d = true) :
    condEntry (riseStop c q v s) d =
      if c = d ∧ rawOf s c = false then ⟨true, true, some ⟨s.hlp.ms, q, fit32 v⟩⟩ else condEntry s d := by
  unfold riseStop
  split
  next h => rw [if_neg fun e => by rw [h] at e; exact absurd e.2 (by decide)]
  next h =>
    unfold raiseStop
    rw [condEntry_of_core (congrArg Prod.fst (core_reactStop _)) hd, condEntry_latch]
    unfold setRaw
    rw [condEntry_updCond]
    by_cases e : c = d
    · rw [if_pos e, if_pos e, if_pos ⟨e, by simpa using h⟩]
      rfl
    · rw [if_neg e, if_neg e, if_neg fun e' => e e'.1]

theorem steady_hardLimitTest (s : State) (a : Axis) : steady (hardLimitTest s a) = steady s := by
  unfold hardLimitTest
  split
  · exact steady_riseStop ..
  · exact steady_fall ..

theorem core_hardLimitTest (s : State) (a : Axis) : (core (hardLimitTest s a)).2 = (core s).2 := by
  have hax : ∀ {u v : State}, u.ax = v.ax → (core u).2 = (core v).2 := fun h => by unfold core; rw [h]
  unfold hardLimitTest
  split
  · unfold riseStop
    split
    · rfl
    · unfold raiseStop
      rw [core_reactStop]
      exact hax ((latch_ax ..).trans rfl)
  · exact hax (fall_ax ..)

/-- A STOP takes axes from QUEUE only (R13, R198). -/
theorem raiseStop_owner {c : Cond} (hc : c.cls = .stop) (q : Nat) (v : Int) (s : State) {b : Axis}
    (h : (s.ax.get b).owner ≠ .queue) : ((raiseStop c q v s).ax.get b).owner = (s.ax.get b).owner := by
  rw [raiseStop_eq_raise hc]
  by_cases hm : s.cn.machine = .tripped
  · rw [raise_of_no_reaction (.inl hm), latch_ax]
  · rw [raise_of_stop hc hm]
    obtain ⟨x, hx⟩ : ∃ x : State, ({ latch c q v s with cn.machine := .stopping } : State) = x := ⟨_, rfl⟩
    have hax : x.ax = s.ax := by rw [← hx]; exact latch_ax ..
    obtain ⟨-, -, -, -, -, hown, -⟩ := stopDeliveries_blocks x
    obtain ⟨o, ho, hkeep⟩ := hown b
    rw [hx, ho, ← hax]
    exact hkeep (by rw [hax]; exact h)

theorem hardLimitTest_owner (s : State) (a : Axis) {b : Axis} (h : (s.ax.get b).owner ≠ .queue) :
    ((hardLimitTest s a).ax.get b).owner = (s.ax.get b).owner := by
  unfold hardLimitTest riseStop
  split
  · split
    · rfl
    · rw [raiseStop_owner rfl _ _ _ (by exact h)]; rfl
  · rw [fall_ax]

/-- The test of an axis touches its own entry only. -/
theorem condEntry_hardLimitTest_other (s : State) {a : Axis} {d : Cond} (hd : loopCond d = true) (h : d ≠ .hardLimit a) :
    condEntry (hardLimitTest s a) d = condEntry s d := by
  unfold hardLimitTest
  split
  · rw [condEntry_riseStop _ _ _ _ hd, if_neg fun e => h e.1.symm]
  · rw [condEntry_fall, if_neg h.symm]

/-- HARD_LIMIT follows its cause (R66). -/
theorem hardLimitTest_entry (s : State) (a : Axis) :
    rawOf (hardLimitTest s a) (.hardLimit a) = hardLimitCause s a ∧
    (rawOf s (.hardLimit a) = false → hardLimitCause s a = true →
      (condEntry (hardLimitTest s a) (.hardLimit a)).last =
        some ⟨s.hlp.ms, axisSeq s a, if limitPlus s a then 1 else 0⟩) := by
  unfold hardLimitTest
  split
  next hc =>
    have hfit : fit32 (if limitPlus s a then 1 else 0) = if limitPlus s a then 1 else 0 := by split <;> rfl
    have he := condEntry_riseStop (.hardLimit a) (axisSeq s a) (if limitPlus s a then 1 else 0) s (d := .hardLimit a) rfl
    rw [hfit] at he
    refine ⟨?_, fun hraw _ => ?_⟩
    · rw [rawOf, he, hc]
      split
      · rfl
      next h => simpa [rawOf] using h
    · rw [he, if_pos ⟨rfl, hraw⟩]
  next hc =>
    refine ⟨?_, fun _ e => absurd e hc⟩
    rw [rawOf_fall, if_pos rfl]
    exact (Bool.eq_false_iff.2 hc).symm

/-- What the tests of the limits leave of a state. -/
structure Tested (x y : State) : Prop where
  steady : Machine.steady y = Machine.steady x
  core : (Machine.core y).2 = (Machine.core x).2
  owner : ∀ b, (x.ax.get b).owner ≠ .queue → (y.ax.get b).owner = (x.ax.get b).owner

theorem tested_foldl (l : List Axis) (x : State) : Tested x (l.foldl hardLimitTest x) := by
  induction l generalizing x with
  | nil => exact ⟨rfl, rfl, fun _ _ => rfl⟩
  | cons a l ih =>
    obtain ⟨h1, h2, h3⟩ := ih (hardLimitTest x a)
    refine ⟨h1.trans (steady_hardLimitTest x a), h2.trans (core_hardLimitTest x a), fun b hb => ?_⟩
    have hb' := hardLimitTest_owner x a hb
    rw [List.foldl_cons, h3 b (by rw [hb']; exact hb), hb']

theorem condEntry_foldl_hardLimitTest {d : Cond} (hd : loopCond d = true) (l : List Axis) (x : State)
    (h : ∀ a ∈ l, d ≠ .hardLimit a) : condEntry (l.foldl hardLimitTest x) d = condEntry x d := by
  induction l generalizing x with
  | nil => rfl
  | cons a l ih =>
    rw [List.foldl_cons, ih _ fun b hb => h b (List.mem_cons_of_mem _ hb),
      condEntry_hardLimitTest_other x hd (h a List.mem_cons_self)]

theorem allAxes_split (a : Axis) : ∃ pre post, allAxes = pre ++ a :: post ∧ a ∉ pre ∧ a ∉ post := by
  cases a
  · exact ⟨[], [.y, .z, .w, .b], rfl, by decide, by decide⟩
  · exact ⟨[.x], [.z, .w, .b], rfl, by decide, by decide⟩
  · exact ⟨[.x, .y], [.w, .b], rfl, by decide, by decide⟩
  · exact ⟨[.x, .y, .z], [.b], rfl, by decide, by decide⟩
  · exact ⟨[.x, .y, .z, .w], [], rfl, by decide, by decide⟩

/-- HARD_LIMIT of an axis after the tests of all axes is that of its own test, in a state that the tests before it
leave. -/
theorem foldl_hardLimitTest_entry (x : State) (a : Axis) : ∃ y, Tested x y ∧
    condEntry y (.hardLimit a) = condEntry x (.hardLimit a) ∧
    condEntry (allAxes.foldl hardLimitTest x) (.hardLimit a) = condEntry (hardLimitTest y a) (.hardLimit a) := by
  obtain ⟨pre, post, hall, hpre, hpost⟩ := allAxes_split a
  have hne : ∀ {l : List Axis}, a ∉ l → ∀ b ∈ l, Cond.hardLimit a ≠ .hardLimit b := fun h b hb e => by
    injection e with e; subst e; exact h hb
  refine ⟨pre.foldl hardLimitTest x, tested_foldl pre x, condEntry_foldl_hardLimitTest rfl pre x (hne hpre), ?_⟩
  rw [hall, List.foldl_append, List.foldl_cons, condEntry_foldl_hardLimitTest rfl post _ (hne hpost)]

/-! ## A TRIP (R200) -/

/-- A TRIP leaves of a channel its place, and puts the output and the saturation count to 0 (R62). -/
theorem keptCh_raiseTrip {c : Cond} (hc : c.cls = .trip) {s : State} (hm : s.cn.machine ≠ .tripped) (q : Nat) (v : Int)
    (a : Axis) :
    keptCh ((raiseTrip c q v s).ax.get a) = keptCh { s.ax.get a with out := 0, satCount := 0 } := by
  have hfold : ∀ {f : State → Axis → State}, (∀ u b, steady (f u b) = steady u) → ∀ (l : List Axis) (u : State),
      keptCh ((l.foldl f u).ax.get a) = keptCh (u.ax.get a) := fun hf l u => keptCh_of_steady (by
    induction l generalizing u with
    | nil => rfl
    | cons b l ih => rw [List.foldl_cons, ih, hf]) a
  have hhome : ∀ (u : State) (b : Axis), steady (homeTrip u b) = steady u := fun u b => by
    unfold homeTrip
    split
    · rfl
    · exact steady_homeOk b u
    · exact steady_homeClose b u
    · exact (steady_homeClose b _).trans (steady_homeFail b _ u)
  have hjogs : ∀ u : State, keptCh ((jogsDrop (coolantTrip u)).ax.get a) = keptCh (u.ax.get a) := fun u => by
    unfold jogsDrop
    rw [mapAx_ax, PerAxis.get_map]
    split <;> rfl
  have hsq : ∀ u : State, keptCh ((sqTrip u).ax.get a) = keptCh (u.ax.get a) := fun u => by
    unfold sqTrip
    split
    · exact keptCh_of_steady (steady_piDrop u) a
    · exact keptCh_of_steady (steady_flushIdle u) a
  have hidle : ∀ u : State, (fall .hydPressureLow (clampsTrip (axesTrip (sqTrip u)))).sq.st = .idle := fun u => by
    rw [fall_sq, clampsTrip_sq, (axesTrip_keeps _).1]
    exact (sqTrip_spec u).1
  have hclamps : ∀ u : State, (clampsTrip u).ax = u.ax := fun _ => rfl
  have hoff : ∀ {k n : AxisCh}, keptCh k = keptCh n →
      keptCh { k with out := 0, satCount := 0 } = keptCh { n with out := 0, satCount := 0 } := fun h => by
    simp only [keptCh, Prod.mk.injEq] at h ⊢
    simp [h]
  rw [raiseTrip_eq_raise hc, raise_of_trip hc hm, hfold fun u b => steady_homeReport u b]
  unfold tripDeliveries
  dsimp only
  rw [hfold hhome, hjogs, sguTrip_ax (hidle _), fall_ax, hclamps, (axesTrip_keeps _).2.2.2.2, PerAxis.get_map]
  refine hoff ((hsq _).trans ?_)
  exact congrArg (fun x => keptCh (x.get a)) (latch_ax c q v s)

/-! ## The ends of homings and the drained test -/

/-- What lies between the tests of the limits and the spindle's work. -/
structure Closed (x y : State) : Prop where
  machine : y.cn = x.cn
  kept : ∀ a, keptCh (y.ax.get a) = keptCh (x.ax.get a)

theorem Closed.trans {x y z : State} (h : Closed x y) (g : Closed y z) : Closed x z :=
  ⟨g.machine.trans h.machine, fun a => (g.kept a).trans (h.kept a)⟩

theorem closed_settleHoming (s : State) (a : Axis) : Closed s (settleHoming s a) := by
  obtain ⟨rq, heq⟩ := settleHoming_eq s a
  rw [heq]
  refine ⟨rfl, fun b => ?_⟩
  show keptCh ((s.ax.upd a settledCh).get b) = _
  rw [PerAxis.get_upd]
  split
  · unfold settledCh; split <;> rfl
  · rfl

theorem closed_foldl_settleHoming (l : List Axis) (s : State) : Closed s (l.foldl settleHoming s) := by
  induction l generalizing s with
  | nil => exact ⟨rfl, fun _ => rfl⟩
  | cons a l ih => exact (closed_settleHoming s a).trans (ih _)

theorem closed_drainTest (s : State) : Closed s (drainTest s) :=
  ⟨by unfold drainTest; split <;> simp, keptCh_of_steady (steady_drainTest s)⟩

/-! ## The spindle's work -/

/-- The axis channels and the entries of the loops. -/
def axle (s : State) : PerAxis AxisCh × (Cond → Option CondEntry) := (s.ax, (core s).1)

theorem axle_of_core {s t : State} (hax : t.ax = s.ax) (hc : core t = core s) : axle t = axle s := by
  unfold axle; rw [hax, hc]

theorem axle_spindleOutput (z : Int) (s : State) : axle (spindleOutput z s) = axle s := by
  have hrise : ∀ (q : Nat) (v : Int) (u : State), axle (riseNote (.driveSaturated .spindle) q v u) = axle u :=
    fun q v u => axle_of_core (by unfold riseNote; split <;> simp [setRaw, updCond]) (core_riseNote (by simp) ..)
  have hfall : ∀ u : State, axle (fall (.driveSaturated .spindle) u) = axle u := fun u =>
    axle_of_core (fall_ax ..) (core_fall (by simp) u)
  have hsat : ∀ u : State, axle (saturation .spindle 0 z u) = axle u := fun u => by
    unfold saturation
    split
    · exact hrise ..
    · rfl
  unfold spindleOutput
  dsimp only
  split
  · exact (hfall _).trans (hsat _)
  · exact hsat _

theorem axle_positionDone (s : State) : axle (positionDone s) = axle s := by
  unfold positionDone
  dsimp only
  (repeat' split) <;> rfl

theorem axle_positionStep (s : State) : axle (positionStep s) = axle s := by
  unfold positionStep
  dsimp only
  (repeat' split) <;> rfl

/-- The spindle's work leaves the channels and the entries of the loops, but for a TRIP that its own following error
brings (R122). -/
theorem spindleWork_axle (s : State) : axle (spindleWork s) = axle s ∨
    s.cn.machine ≠ .tripped ∧ ∃ (x : State) (v : Int), axle x = axle s ∧ x.cn.machine = s.cn.machine ∧
      spindleWork s = raiseTrip (.followingError .spindle) 0 v x := by
  obtain ⟨l, n, d, hmeas⟩ := spindleMeasure_eq s
  have hm : axle (spindleMeasure s) = axle s ∧ (spindleMeasure s).cn = s.cn := by rw [hmeas]; exact ⟨rfl, rfl⟩
  have hstep : (positionStep (spindleMeasure s)).cn = (spindleMeasure s).cn := by
    unfold positionStep
    dsimp only
    (repeat' split) <;> rfl
  unfold spindleWork
  dsimp only
  split
  · exact .inl hm.1
  next hnot =>
    split
    case h_1 | h_2 | h_3 =>
      left
      rw [axle_spindleOutput, atSpeedTest_eq, spindleRamp_eq]
      exact hm.1
    case h_4 =>
      unfold positionLoop
      dsimp only
      have hx : ∀ (z : Int) (p : Int), axle (spindleOutput z { positionStep (spindleMeasure s) with sgu.pPrev := p }) =
          axle s := fun z p => (axle_spindleOutput ..).trans ((axle_positionStep _).trans hm.1)
      split
      · refine .inr ⟨hnot, _, _, hx _ _, ?_, rfl⟩
        rw [(spindleOutput_spec _ _).2.2.1]
        exact congrArg CondUnit.machine (hstep.trans hm.2)
      · exact .inl ((axle_positionDone _).trans (hx _ _))
    all_goals exact .inl ((axle_spindleOutput ..).trans hm.1)

end Sys2Proof.Machine
end

section
/-! SUPPORT. The loops of all axes in a path period (R60 to R63): where none trips, each axis does its step; the first that
trips leaves the machine off to the end of the event. -/

namespace Sys2Proof.Machine

/-! ## One loop's step -/

theorem saturation_fields (d : Drive) (q : Nat) (z : Int) (s : State) :
    (saturation d q z s).sq = s.sq ∧ (saturation d q z s).cn.machine = s.cn.machine ∧ (saturation d q z s).hlp = s.hlp := by
  unfold saturation riseNote
  (repeat' split) <;> simp [setRaw, updCond]

theorem loopStep_fields (s : State) (a : Axis) : (loopStep s a).sq = s.sq ∧
    (loopStep s a).cn.machine = s.cn.machine ∧ (loopStep s a).hlp = s.hlp := by
  unfold loopStep
  dsimp only
  obtain ⟨h1, h2, h3⟩ := saturation_fields (.axis a) (axisSeq s a) (loopZ (s.cs.get a).c (s.ax.get a))
    (updAx a (fun _ => loopCh (s.cs.get a).c (s.ax.get a)) s)
  split
  · rw [fall_sq, fall_machine, fall_hlp]
    exact ⟨h1, h2, h3⟩
  · exact ⟨h1, h2, h3⟩

/-- DRIVE_SATURATED of a drive follows the clamp of its output and its count (R62). -/
theorem rawOf_saturation (d : Drive) (q m : Nat) (z : Int) (s : State) :
    rawOf (if satNext m z = 20 then fall (.driveSaturated d) (saturation d q z s) else saturation d q z s)
        (.driveSaturated d) = true ↔
      32767 < z.natAbs ∨ (rawOf s (.driveSaturated d) = true ∧ satNext m z < 20) := by
  have hraw : rawOf (saturation d q z s) (.driveSaturated d) = (decide (32767 < z.natAbs) || rawOf s (.driveSaturated d)) := by
    unfold saturation
    by_cases hz : 32767 < z.natAbs
    · rw [if_pos ((clampOut_ne_iff z).2 hz), rawOf_riseNote, if_pos rfl]; simp [hz]
    · rw [if_neg (fun e => hz ((clampOut_ne_iff z).1 e))]; simp [hz]
  have hle : satNext m z ≤ 20 := by unfold satNext; split <;> omega
  have hsat : 32767 < z.natAbs → satNext m z = 0 := fun h => if_pos ((clampOut_ne_iff z).2 h)
  split
  next h =>
    rw [rawOf_fall, if_pos rfl]
    constructor
    · exact fun e => (nomatch e)
    · rintro (hz | ⟨-, hlt⟩)
      · rw [hsat hz] at h; cases h
      · omega
  next h =>
    rw [hraw, Bool.or_eq_true, decide_eq_true_eq]
    exact or_congr Iff.rfl ⟨fun e => ⟨e, by omega⟩, fun e => e.1⟩

theorem rawOf_loopStep (s : State) (a : Axis) :
    rawOf (loopStep s a) (.driveSaturated (.axis a)) = true ↔
      32767 < (loopZ (s.cs.get a).c (s.ax.get a)).natAbs ∨ (rawOf s (.driveSaturated (.axis a)) = true ∧
        satNext (s.ax.get a).satCount (loopZ (s.cs.get a).c (s.ax.get a)) < 20) :=
  rawOf_saturation (.axis a) (axisSeq s a) (s.ax.get a).satCount (loopZ (s.cs.get a).c (s.ax.get a))
    (updAx a (fun _ => loopCh (s.cs.get a).c (s.ax.get a)) s)

theorem condEntry_loopStep_other (s : State) {a : Axis} {d : Cond} (h : d ≠ .driveSaturated (.axis a)) :
    condEntry (loopStep s a) d = condEntry s d := by
  have hsat : ∀ (q : Nat) (z : Int) (u : State), condEntry (saturation (.axis a) q z u) d = condEntry u d := fun q z u => by
    unfold saturation riseNote
    split
    · split
      · rfl
      · rw [condEntry_latch, if_neg h.symm, setRaw, condEntry_updCond, if_neg h.symm]
    · rfl
  unfold loopStep
  dsimp only
  split
  · rw [condEntry_fall, if_neg h.symm, hsat]; rfl
  · rw [hsat]; rfl

/-- The steps of some axes: the other axes and entries, the queue, the link and the banks are as they were. -/
structure Stepped (l : List Axis) (w x : State) : Prop where
  sq : x.sq = w.sq
  machine : x.cn.machine = w.cn.machine
  link : x.hlp = w.hlp
  settings : Machine.settings x = Machine.settings w
  axes : ∀ b, b ∉ l → x.ax.get b = w.ax.get b
  entries : ∀ d, (∀ a ∈ l, d ≠ .driveSaturated (.axis a)) → condEntry x d = condEntry w d

theorem stepped_foldl (l : List Axis) (w : State) : Stepped l w (l.foldl loopStep w) := by
  induction l generalizing w with
  | nil => exact ⟨rfl, rfl, rfl, rfl, fun _ _ => rfl, fun _ _ => rfl⟩
  | cons a l ih =>
    obtain ⟨h1, h2, h3, h4, h5, h6⟩ := ih (loopStep w a)
    obtain ⟨k1, k2, k3⟩ := loopStep_fields w a
    refine ⟨h1.trans k1, h2.trans k2, h3.trans k3, h4.trans (after_loopStep w a).settings, fun b hb => ?_, fun d hd => ?_⟩
    · obtain ⟨hne, hmem⟩ := not_or.1 (mt List.mem_cons.2 hb)
      rw [List.foldl_cons, h5 b hmem, loopStep_ax, PerAxis.get_upd, if_neg fun e => hne e.symm]
    · rw [List.foldl_cons, h6 d fun b hb => hd b (List.mem_cons_of_mem _ hb),
        condEntry_loopStep_other w (hd a List.mem_cons_self)]

/-- The steps of all axes (R60 to R62). -/
theorem foldl_loopStep (w : State) (a : Axis) :
    (allAxes.foldl loopStep w).ax.get a = loopCh (w.cs.get a).c (w.ax.get a) ∧
    (rawOf (allAxes.foldl loopStep w) (.driveSaturated (.axis a)) = true ↔
      32767 < (loopZ (w.cs.get a).c (w.ax.get a)).natAbs ∨ (rawOf w (.driveSaturated (.axis a)) = true ∧
        satNext (w.ax.get a).satCount (loopZ (w.cs.get a).c (w.ax.get a)) < 20)) := by
  obtain ⟨pre, post, hall, hpre, hpost⟩ := allAxes_split a
  have hne : ∀ {l : List Axis}, a ∉ l → ∀ b ∈ l, Cond.driveSaturated (.axis a) ≠ .driveSaturated (.axis b) :=
    fun h b hb e => by injection e with e; injection e with e; subst e; exact h hb
  have hfirst := stepped_foldl pre w
  have hrest := stepped_foldl post (loopStep (pre.foldl loopStep w) a)
  have hraw := rawOf_loopStep (pre.foldl loopStep w) a
  rw [hall, List.foldl_append, List.foldl_cons]
  rw [hfirst.axes a hpre, cs_of_settings hfirst.settings, rawOf, rawOf, hfirst.entries _ (hne hpre)] at hraw
  refine ⟨?_, ?_⟩
  · rw [hrest.axes a hpost, loopStep_ax, PerAxis.get_upd, if_pos rfl, hfirst.axes a hpre, cs_of_settings hfirst.settings]
  · rw [rawOf, rawOf, hrest.entries _ (hne hpost)]
    exact hraw

/-! ## The loops of all axes -/

/-- The following error of an axis (R60). -/
def errorAt (s : State) (a : Axis) : Int := (s.ax.get a).setpoint + (s.cs.get a).c - (s.ax.get a).enc

/-- The following error exceeds its limit (R63). -/
def Exceeds (s : State) (a : Axis) : Prop := (s.ax.get a).p.feLimit < (errorAt s a).natAbs

theorem errorAt_of_settings {s t : State} (h : settings t = settings s) (a : Axis) :
    errorAt t a = errorAt s a ∧ (Exceeds t a ↔ Exceeds s a) := by
  obtain ⟨h1, h2, h3⟩ := setpoint_of_settings h a
  unfold Exceeds errorAt
  rw [h1, h2, h3, cs_of_settings h]
  exact ⟨rfl, Iff.rfl⟩

theorem axisLoop_of_within {s : State} {a : Axis} (hm : s.cn.machine ≠ .tripped) (h : ¬Exceeds s a) :
    axisLoop s a = loopStep s a := (axisLoop_of_not_tripped hm a).trans (if_neg h)

theorem axisLoop_of_exceeds {s : State} {a : Axis} (hm : s.cn.machine ≠ .tripped) (h : Exceeds s a) :
    axisLoop s a = raiseTrip (.followingError (.axis a)) (axisSeq s a) (errorAt s a) (loopStep s a) :=
  (axisLoop_of_not_tripped hm a).trans (if_pos h)

/-- Axes within their limits do their steps. -/
theorem foldl_axisLoop_of_within {l : List Axis} {w : State} (hm : w.cn.machine ≠ .tripped) (h : ∀ b ∈ l, ¬Exceeds w b) :
    l.foldl axisLoop w = l.foldl loopStep w := by
  induction l generalizing w with
  | nil => rfl
  | cons a l ih =>
    rw [List.foldl_cons, List.foldl_cons, axisLoop_of_within hm (h a List.mem_cons_self)]
    exact ih (by rw [(loopStep_fields w a).2.1]; exact hm) fun b hb e =>
      h b (List.mem_cons_of_mem _ hb) ((errorAt_of_settings (after_loopStep w a).settings b).2.1 e)

/-- Loops behind which the machine is not TRIPPED are steps. -/
theorem foldl_axisLoop_of_untripped {l : List Axis} {w : State} (hm : (l.foldl axisLoop w).cn.machine ≠ .tripped) :
    l.foldl axisLoop w = l.foldl loopStep w := by
  induction l generalizing w with
  | nil => rfl
  | cons a l ih =>
    rw [List.foldl_cons] at hm ⊢
    have hma : (axisLoop w a).cn.machine ≠ .tripped := fun e => hm ((After.foldl after_axisLoop l _).tripped e)
    have hmw : w.cn.machine ≠ .tripped := fun e => hma ((after_axisLoop w a).tripped e)
    have hin : ¬Exceeds w a := fun e => hma (by rw [axisLoop_of_exceeds hmw e]; exact raiseTrip_tripped rfl ..)
    rw [List.foldl_cons, ih hm, axisLoop_of_within hmw hin]

/-! ## A machine that has tripped -/

/-- The machine is TRIPPED with its axes' outputs 0, and an entry reads as given. -/
structure Halted (d : Cond) (e : CondEntry) (s : State) : Prop where
  tripped : s.cn.machine = .tripped
  outs : ∀ a, (s.ax.get a).out = 0
  entry : condEntry s d = e

theorem axisLoop_tripped_out {s : State} (h : s.cn.machine = .tripped) (a b : Axis) :
    ((axisLoop s a).ax.get b).out = if a = b then 0 else (s.ax.get b).out := by
  rw [axisLoop_of_tripped h, updAx_ax, PerAxis.get_upd]
  split <;> rfl

theorem halted_axisLoop {d : Cond} {e : CondEntry} {s : State} (h : Halted d e s) (a : Axis) :
    Halted d e (axisLoop s a) := by
  refine ⟨(after_axisLoop s a).tripped h.tripped, fun b => ?_, ?_⟩
  · rw [axisLoop_tripped_out h.tripped, h.outs, ite_self]
  · rw [axisLoop_of_tripped h.tripped]; exact h.entry

theorem Halted.foldl {f : State → Axis → State} {d : Cond} {e : CondEntry}
    (hf : ∀ s a, Halted d e s → Halted d e (f s a)) (l : List Axis) {s : State} (h : Halted d e s) :
    Halted d e (l.foldl f s) := by
  induction l generalizing s with
  | nil => exact h
  | cons a l ih => exact ih (hf s a h)

/-- In TRIPPED the loops put every output to 0 (R61). -/
theorem foldl_axisLoop_tripped {w : State} (h : w.cn.machine = .tripped) (d : Cond) :
    Halted d (condEntry w d) (allAxes.foldl axisLoop w) := by
  have hentry : ∀ (l : List Axis) (u : State), u.cn.machine = .tripped →
      condEntry (l.foldl axisLoop u) d = condEntry u d := fun l => by
    induction l with
    | nil => exact fun u _ => rfl
    | cons a l ih =>
      intro u hu
      rw [List.foldl_cons, ih _ ((after_axisLoop u a).tripped hu), axisLoop_of_tripped hu]
      rfl
  have hout : ∀ (l : List Axis) (u : State) (b : Axis), u.cn.machine = .tripped → b ∈ l ∨ (u.ax.get b).out = 0 →
      ((l.foldl axisLoop u).ax.get b).out = 0 := fun l => by
    induction l with
    | nil => exact fun u b _ hb => hb.resolve_left List.not_mem_nil
    | cons a l ih =>
      intro u b hu hb
      refine ih _ b ((after_axisLoop u a).tripped hu) ?_
      rw [axisLoop_tripped_out hu]
      by_cases e : a = b
      · exact .inr (if_pos e)
      · rw [if_neg e]
        exact hb.imp_left fun hmem => (List.mem_cons.1 hmem).resolve_left fun e' => e e'.symm
  exact ⟨(After.foldl after_axisLoop _ w).tripped h, fun b => hout _ w b h (.inl (by cases b <;> decide)), hentry _ w h⟩

/-- The loops in which an axis is the first to exceed its limit (R63). -/
theorem foldl_axisLoop_exceeds {w : State} (hm : w.cn.machine ≠ .tripped) {pre post : List Axis} {a : Axis}
    (hall : allAxes = pre ++ a :: post) (hpre : ∀ b ∈ pre, ¬Exceeds w b) (ha : Exceeds w a) :
    Halted (.followingError (.axis a))
      { condEntry w (.followingError (.axis a)) with
        latched := true, last := some ⟨w.hlp.ms, axisSeq w a, fit32 (errorAt w a)⟩ }
      (allAxes.foldl axisLoop w) := by
  have hnot : a ∉ pre := fun e => hpre a e ha
  have hstep := stepped_foldl pre w
  obtain ⟨y, hy⟩ : ∃ y, pre.foldl loopStep w = y := ⟨_, rfl⟩
  rw [hy] at hstep
  have hmy : y.cn.machine ≠ .tripped := by rw [hstep.machine]; exact hm
  have hay : Exceeds y a := (errorAt_of_settings hstep.settings a).2.2 ha
  have hseq : axisSeq y a = axisSeq w a := by
    unfold axisSeq moveSeq currentRec
    rw [hstep.axes a hnot, hstep.sq]
  obtain ⟨-, hlm, hll⟩ := loopStep_fields y a
  have hml : (loopStep y a).cn.machine ≠ .tripped := by rw [hlm]; exact hmy
  rw [hall, List.foldl_append, List.foldl_cons, foldl_axisLoop_of_within hm hpre, hy, axisLoop_of_exceeds hmy hay]
  refine Halted.foldl (fun s b h => halted_axisLoop h b) post ⟨raiseTrip_tripped rfl .., fun b => ?_, ?_⟩
  · have hkept := keptCh_raiseTrip (c := .followingError (.axis a)) rfl hml (axisSeq y a) (errorAt y a) b
    simp only [keptCh, Prod.mk.injEq] at hkept
    exact hkept.2.2.2.2.2.2.2.2.1
  · have hraise := congrArg Prod.snd
      (watched_raise (.followingError (.axis a)) (axisSeq y a) (errorAt y a) (loopStep y a))
    rw [raiseTrip_eq_raise rfl]
    refine hraise.trans ?_
    rw [condEntry_loopStep_other y (by simp), hstep.entries _ (by simp), hll, hstep.link, hseq,
      (errorAt_of_settings hstep.settings a).1]

end Sys2Proof.Machine
end

section
/-! CLAIMS. A path period from its loops to the end of its event (R60 to R66, R75, R85), and O30. -/

namespace Sys2Proof.Machine

/-! ## Behind the loops -/

/-- The state in front of `prevWork`: the tests of the limits, the ends of homings and the drained test. -/
def checked (w x : State) : State :=
  if cameToRest w x then drainTest (allAxes.foldl settleHoming (allAxes.foldl hardLimitTest x))
  else allAxes.foldl settleHoming (allAxes.foldl hardLimitTest x)

theorem periodWork_checked (s : State) :
    periodWork s = spindleWork (prevWork (checked (periodSetpoints s) (allAxes.foldl axisLoop (periodSetpoints s)))) :=
  periodWork_eq rfl

theorem closed_checked (w x : State) : Closed (allAxes.foldl hardLimitTest x) (checked w x) := by
  unfold checked
  split
  · exact (closed_foldl_settleHoming ..).trans (closed_drainTest _)
  · exact closed_foldl_settleHoming ..

theorem tripped_tested (x : State) : (allAxes.foldl hardLimitTest x).cn.machine = .tripped ↔ x.cn.machine = .tripped := by
  have h : ∀ (l : List Axis) (u : State), (l.foldl hardLimitTest u).cn.machine = .tripped ↔ u.cn.machine = .tripped :=
    fun l => by
      induction l with
      | nil => exact fun _ => Iff.rfl
      | cons a l ih => exact fun u => (ih _).trans (tame_hardLimitTest (a := a) (tame_refl u)).machine
  exact h allAxes x

/-- The channels and the entries behind the checks. -/
theorem checked_spec (w x : State) :
    ((checked w x).cn.machine = .tripped ↔ x.cn.machine = .tripped) ∧
    (∀ a, keptCh ((checked w x).ax.get a) = keptCh (x.ax.get a)) ∧
    ∀ d, condEntry (checked w x) d = condEntry (allAxes.foldl hardLimitTest x) d := by
  obtain ⟨hcn, hkept⟩ := closed_checked w x
  refine ⟨by rw [hcn]; exact tripped_tested x, fun a => (hkept a).trans ?_, fun d => ?_⟩
  · exact keptCh_of_steady (tested_foldl allAxes x).steady a
  · unfold condEntry; rw [hcn]

theorem tripped_snapAll (u : State) : (snapAll (finish u)).cn.machine = .tripped ↔ u.cn.machine = .tripped :=
  (tame_snapAll (tame_finish (tame_refl u))).machine

theorem snapAll_channel (u : State) (a : Axis) :
    (snapAll u).ax.get a = { u.ax.get a with snap := takeSnap u a (u.ax.get a) } := by
  unfold snapAll; rw [mapAx_ax, PerAxis.get_map]

theorem settings_snapAll (u : State) : settings (snapAll u) = settings u := settings_mapAx fun _ _ => rfl

/-- AXIS_STATUS shows the axis as the period left it (R75). -/
theorem snapAll_shows (u : State) (a : Axis) :
    ((snapAll u).ax.get a).snap = takeSnap (snapAll u) a ((snapAll u).ax.get a) := by
  rw [snapAll_channel]; rfl

/-- What the end of the event leaves of a channel and of the entries of the loops. -/
theorem snapAll_finish (u : State) (a : Axis) :
    keptCh { (snapAll (finish u)).ax.get a with snap := (u.ax.get a).snap } = keptCh (u.ax.get a) ∧
    ∀ d, loopCond d = true → condEntry (snapAll (finish u)) d = condEntry u d := by
  refine ⟨?_, fun d hd => condEntry_finish hd u⟩
  have hf := keptCh_finish u a
  rw [snapAll_channel]
  simp only [keptCh, Prod.mk.injEq] at hf ⊢
  simp [hf]

theorem prevWork_channel (s : State) (a : Axis) :
    (prevWork s).ax.get a = { s.ax.get a with prev := (s.ax.get a).setpoint } := by
  unfold prevWork; rw [mapAx_ax, PerAxis.get_map]

/-- The end of a machine that has tripped in the loops, or before them. -/
theorem Halted.period {d : Cond} {e : CondEntry} (hd : loopCond d = true) (hne : ∀ a, d ≠ .hardLimit a) {s : State}
    (h : Halted d e (allAxes.foldl axisLoop (periodSetpoints s))) : Halted d e (snapAll (finish (periodWork s))) := by
  rw [periodWork_checked]
  generalize allAxes.foldl axisLoop (periodSetpoints s) = x at h ⊢
  obtain ⟨hmach, hkept, hentry⟩ := checked_spec (periodSetpoints s) x
  obtain ⟨y, hy⟩ : ∃ y, checked (periodSetpoints s) x = y := ⟨_, rfl⟩
  rw [hy] at hmach hkept hentry ⊢
  have hmy : (prevWork y).cn.machine = .tripped := hmach.2 h.tripped
  have hspin : axle (spindleWork (prevWork y)) = axle (prevWork y) :=
    (spindleWork_axle (prevWork y)).resolve_right fun k => k.1 hmy
  have hms := (checked_spindleWork (prevWork y)).tripped hmy
  generalize spindleWork (prevWork y) = u at hspin hms ⊢
  obtain ⟨hax, hcond⟩ := Prod.mk.inj hspin
  refine ⟨(tripped_snapAll u).2 hms, fun a => ?_, ?_⟩
  · have hf := (snapAll_finish u a).1
    have hk := hkept a
    simp only [keptCh, Prod.mk.injEq] at hf hk
    rw [hf.2.2.2.2.2.2.2.2.1, hax, prevWork_channel]
    exact hk.2.2.2.2.2.2.2.2.1.trans (h.outs a)
  · rw [(snapAll_finish u .x).2 d hd, condEntry_of_core hcond hd]
    exact (hentry d).trans ((condEntry_foldl_hardLimitTest hd allAxes x fun a _ => hne a).trans h.entry)

/-- A path period behind which the machine is not TRIPPED: each channel has done its step and its previous setpoint
follows, and the entries of the loops are those of the steps and the tests of the limits (R60 to R66). -/
theorem period_untripped {s t : State} (ht : snapAll (finish (periodWork s)) = t) (hm : t.cn.machine ≠ .tripped) (a : Axis) :
    let w := periodSetpoints s
    let k := loopCh (w.cs.get a).c (w.ax.get a)
    (t.ax.get a).e = k.e ∧ (t.ax.get a).out = k.out ∧ (t.ax.get a).satCount = k.satCount ∧
    ∀ d, loopCond d = true →
      condEntry t d = condEntry (allAxes.foldl hardLimitTest (allAxes.foldl loopStep w)) d := by
  intro w k
  have hmu : (periodWork s).cn.machine ≠ .tripped := fun e => hm (by rw [← ht]; exact (tripped_snapAll _).2 e)
  have hwork := periodWork_checked s
  obtain ⟨x, hx⟩ : ∃ x, allAxes.foldl axisLoop w = x := ⟨_, rfl⟩
  obtain ⟨y, hy⟩ : ∃ y, checked w x = y := ⟨_, rfl⟩
  have hwork : periodWork s = spindleWork (prevWork y) := by rw [hwork, ← hy, ← hx]
  obtain ⟨hmach, hkept, hentry⟩ := checked_spec w x
  rw [hy] at hmach hkept hentry
  have hspin : axle (periodWork s) = axle (prevWork y) := by
    rw [hwork]
    refine (spindleWork_axle (prevWork y)).resolve_right fun ⟨_, z, v, _, _, hz⟩ => hmu ?_
    rw [hwork, hz]
    exact raiseTrip_tripped rfl ..
  have hmx : x.cn.machine ≠ .tripped := fun e => hmu (by
    rw [hwork]; exact (checked_spindleWork (prevWork y)).tripped (hmach.2 e))
  have hloop : x = allAxes.foldl loopStep w := by
    rw [← hx] at hmx ⊢
    exact foldl_axisLoop_of_untripped hmx
  obtain ⟨hax, hcond⟩ := Prod.mk.inj hspin
  obtain ⟨hf, hend⟩ := snapAll_finish (periodWork s) a
  have hk := hkept a
  rw [hloop, (foldl_loopStep w a).1] at hk
  rw [hax, prevWork_channel, ht] at hf
  rw [ht] at hend
  simp only [keptCh, Prod.mk.injEq] at hf hk
  obtain ⟨-, -, -, -, -, fe, -, -, fout, fsat, -⟩ := hf
  obtain ⟨-, -, -, -, -, ke, -, -, kout, ksat, -⟩ := hk
  refine ⟨fe.trans ke, fout.trans kout, fsat.trans ksat, fun d hd => ?_⟩
  rw [hend d hd, condEntry_of_core hcond hd, ← hloop, ← hentry d]
  rfl

/-- What a path period leaves whatever its checks bring: setpoints, encoder positions, parameters, banks and inputs of the
state with the setpoints, and the previous setpoint following (R60, R75). -/
theorem period_leaves {s t : State} (ht : snapAll (finish (periodWork s)) = t) (a : Axis) :
    (t.cs = (periodSetpoints s).cs ∧ t.inp = (periodSetpoints s).inp ∧ t.am = (periodSetpoints s).am) ∧
    ((t.ax.get a).setpoint = ((periodSetpoints s).ax.get a).setpoint ∧
      (t.ax.get a).enc = ((periodSetpoints s).ax.get a).enc ∧ (t.ax.get a).p = ((periodSetpoints s).ax.get a).p) ∧
    (t.ax.get a).prev = (t.ax.get a).setpoint ∧ (t.ax.get a).snap = takeSnap t a (t.ax.get a) := by
  have hset : settings t = settings (periodSetpoints s) := by
    rw [← ht]
    exact ((settings_snapAll _).trans (settings_finish _)).trans (after_periodWork s).settings
  have hprev : ((periodWork s).ax.get a).prev = ((periodWork s).ax.get a).setpoint := by
    rw [periodWork_checked]
    generalize checked (periodSetpoints s) (allAxes.foldl axisLoop (periodSetpoints s)) = y
    rcases spindleWork_axle (prevWork y) with h | ⟨hm, x, v, hx, hmx, h⟩
    · rw [(Prod.mk.inj h).1, prevWork_channel]
    · have hk := keptCh_raiseTrip (c := .followingError .spindle) (s := x) rfl (by rw [hmx]; exact hm) 0 v a
      simp only [keptCh, Prod.mk.injEq] at hk
      rw [h, hk.2.1, hk.1, (Prod.mk.inj hx).1, prevWork_channel]
  have hf := (snapAll_finish (periodWork s) a).1
  simp only [keptCh, Prod.mk.injEq] at hf
  rw [ht] at hf
  refine ⟨⟨cs_of_settings hset, congrArg (fun v => v.2.2.2.2.1) hset, congrArg (fun v => v.2.2.2.2.2) hset⟩,
    setpoint_of_settings hset a, ?_, ?_⟩
  · rw [hf.1, hf.2.1, hprev]
  · rw [← ht]
    exact snapAll_shows _ a

/-! ## HARD_LIMIT and DRIVE_SATURATED at the end of the period -/

theorem limits_of_inp {s t : State} (h : t.inp = s.inp) (a : Axis) :
    limitPlus t a = limitPlus s a ∧ limitMinus t a = limitMinus s a := by
  have hon : ∀ n, inputOn t n = inputOn s n := fun n => by unfold inputOn; rw [h]
  cases a <;> simp only [limitMinus, limitPlus, hon, and_self]

/-- HARD_LIMIT behind a path period that leaves the machine untripped (R66). -/
theorem hardLimit_of_tests (w : State) (a : Axis) :
    let u := allAxes.foldl hardLimitTest (allAxes.foldl loopStep w)
    (rawOf u (.hardLimit a) = true ↔
      if (w.ax.get a).owner = .pendant then
        (limitPlus w a = true ∧ (w.ax.get a).prev < (w.ax.get a).setpoint) ∨
          (limitMinus w a = true ∧ (w.ax.get a).setpoint < (w.ax.get a).prev)
      else limitActive w a = true) ∧
    (rawOf w (.hardLimit a) = false → rawOf u (.hardLimit a) = true → ∃ q,
      (condEntry u (.hardLimit a)).last = some ⟨w.hlp.ms, q, if limitPlus w a then 1 else 0⟩ ∧
        ((w.ax.get a).owner ≠ .queue → q = 0)) := by
  intro u
  have hstep := stepped_foldl allAxes w
  have hchan := (foldl_loopStep w a).1
  obtain ⟨x, hx⟩ : ∃ x, allAxes.foldl loopStep w = x := ⟨_, rfl⟩
  obtain ⟨y, htest, hentry, hlast⟩ := foldl_hardLimitTest_entry x a
  have hu : condEntry u (.hardLimit a) = condEntry (hardLimitTest y a) (.hardLimit a) := by rw [← hlast, ← hx]
  rw [hx] at hstep hchan
  have hin : y.inp = w.inp :=
    (congrArg Steady.inp htest.steady).trans (congrArg (fun v => v.2.2.2.2.1) hstep.settings)
  have hlink : y.hlp = w.hlp := (congrArg Steady.hlp htest.steady).trans hstep.link
  have hkept := keptCh_of_steady htest.steady a
  rw [hchan] at hkept
  simp only [keptCh, Prod.mk.injEq] at hkept
  obtain ⟨hset, hprev, -⟩ := hkept
  have hset : (y.ax.get a).setpoint = (w.ax.get a).setpoint := hset
  have hprev : (y.ax.get a).prev = (w.ax.get a).prev := hprev
  have hpend : (y.ax.get a).owner = .pendant ↔ (w.ax.get a).owner = .pendant := by
    rw [pendant_of_core htest.core, hchan]; rfl
  obtain ⟨hplus, hminus⟩ := limits_of_inp hin a
  have hcause : hardLimitCause y a = true ↔
      if (w.ax.get a).owner = .pendant then
        (limitPlus w a = true ∧ (w.ax.get a).prev < (w.ax.get a).setpoint) ∨
          (limitMinus w a = true ∧ (w.ax.get a).setpoint < (w.ax.get a).prev)
      else limitActive w a = true := by
    unfold hardLimitCause
    dsimp only
    by_cases ho : (w.ax.get a).owner = .pendant
    · rw [if_pos (hpend.2 ho), if_pos ho, hplus, hminus, hset, hprev]
      simp
    · rw [if_neg (fun e => ho (hpend.1 e)), if_neg ho, limitActive_of_inp hin]
  obtain ⟨hraw, hwhen⟩ := hardLimitTest_entry y a
  have hrawu : rawOf u (.hardLimit a) = hardLimitCause y a := by rw [← hraw, rawOf, hu]; rfl
  refine ⟨by rw [hrawu]; exact hcause, fun hno hyes => ?_⟩
  have hwas : rawOf y (.hardLimit a) = false := by
    rw [← hno, rawOf, rawOf, hentry, hstep.entries _ (by simp)]
  refine ⟨axisSeq y a, ?_, fun ho => if_neg ?_⟩
  · rw [hu, hwhen hwas (hrawu.symm.trans hyes), hlink, hplus]
  · have hox : (x.ax.get a).owner ≠ .queue := by rw [hchan]; exact ho
    rw [htest.owner a hox]
    exact hox

/-- Settles O30. -/
theorem pathPeriodMovesTheAxes : Obligations.PathPeriodMovesTheAxes := by
  refine ⟨fun s => ?moves, fun s hm => ?checks⟩
  case moves =>
    obtain ⟨t, ht⟩ : ∃ t, snapAll (finish (periodWork s)) = t := ⟨_, rfl⟩
    obtain ⟨hcs, hinp, ham, -, htrip, -, hparam, hfollow, hgiven⟩ := guided_periodSetpoints s
    have hleft := period_leaves ht
    obtain ⟨⟨tcs, tinp, tam⟩, -⟩ := hleft .x
    refine ⟨t, congrArg Host.Outcome.next ht, tcs.trans hcs, tinp.trans hinp, tam.trans ham, fun a => ?_, fun hm a => ?_,
      fun hmt a ho => ?_⟩
    · obtain ⟨-, ⟨-, -, hp⟩, hprev, hsnap⟩ := hleft a
      exact ⟨hprev, hsnap, hp.trans (hparam a).1⟩
    · have hhalt := Halted.period (d := .followingError (.axis .x)) rfl (by simp)
        (foldl_axisLoop_tripped (htrip.2 hm) _)
      rw [ht] at hhalt
      obtain ⟨-, ⟨hset, henc, -⟩, -⟩ := hleft a
      obtain ⟨fenc, fset⟩ := hfollow hm a
      exact ⟨hhalt.outs a, henc.trans fenc, by rw [hset, fset, tcs]⟩
    · have hms : s.cn.machine ≠ .tripped := fun e =>
        hmt (ht ▸ (Halted.period (d := .followingError (.axis .x)) rfl (by simp)
          (foldl_axisLoop_tripped (htrip.2 e) _)).tripped)
      obtain ⟨-, ⟨hset, henc, hp⟩, -⟩ := hleft a
      obtain ⟨genc, gprev⟩ := hgiven hms a ho
      obtain ⟨he, hout, -⟩ := period_untripped ht hmt a
      have he : (t.ax.get a).e = (t.ax.get a).setpoint + (t.cs.get a).c - (t.ax.get a).enc := by
        rw [he, hset, henc, tcs]; rfl
      refine ⟨henc.trans genc, he, ?_⟩
      rw [hout, he, hset, henc, hp, tcs, ← gprev]
      rfl
  case checks =>
    obtain ⟨t, ht⟩ : ∃ t, snapAll (finish (periodWork s)) = t := ⟨_, rfl⟩
    obtain ⟨-, hinp, -, hlink, htrip, hentries, hparam, -, -⟩ := guided_periodSetpoints s
    refine ⟨t, congrArg Host.Outcome.next ht, ?_⟩
    intro w e z exceeds
    refine ⟨fun pre a post hall hpre ha => ?trips, fun hmt a => ?follows⟩
    case trips =>
      have hhalt := Halted.period rfl (by simp)
        (foldl_axisLoop_exceeds (w := periodSetpoints s) (fun h => hm (htrip.1 h)) hall hpre ha)
      rw [ht] at hhalt
      obtain ⟨h1, h2, h3⟩ := hhalt
      rw [hlink] at h3
      rw [h3]
      exact ⟨h1, h2, rfl, rfl⟩
    case follows =>
      intro n
      obtain ⟨-, -, hsat, hends⟩ := period_untripped ht hmt a
      have hn : satNext ((periodSetpoints s).ax.get a).satCount
          (loopZ ((periodSetpoints s).cs.get a).c ((periodSetpoints s).ax.get a)) = n := by
        rw [(hparam a).2]
        exact if_congr (clampOut_ne_iff _) rfl rfl
      have hdrive := (foldl_loopStep (periodSetpoints s) a).2
      rw [hn] at hdrive
      obtain ⟨hraw, hlast⟩ := hardLimit_of_tests (periodSetpoints s) a
      obtain ⟨hplus, hminus⟩ := limits_of_inp hinp a
      rw [hplus, hminus, limitActive_of_inp hinp] at hraw
      rw [hplus, hlink] at hlast
      have hsame : ∀ d, loopCond d = true → rawOf (periodSetpoints s) d = rawOf s d := fun d hd => by
        rw [rawOf, rawOf, hentries d hd]
      refine ⟨hsat.trans hn, ?_, ?_, fun hno hyes => ?_⟩
      · rw [← hsame _ rfl]
        refine Iff.trans ?_ hdrive
        rw [rawOf, rawOf, hends _ rfl, condEntry_foldl_hardLimitTest rfl allAxes _ (by simp)]
      · rw [rawOf, hends _ rfl]
        exact hraw
      · rw [rawOf, hends _ rfl] at hyes
        rw [hends _ rfl]
        exact hlast ((hsame _ rfl).trans hno) hyes

end Sys2Proof.Machine
end
